-- ==== Sys2Proof/Word.lean ====
section
/-! DEFINITION. Bytes, 16-bit words and banks: a fixed number of like records read by index. -/

namespace Sys2Proof

/-- One byte of the zone link (R140, R175). -/
abbrev Byte := BitVec 8

/-- One word of the store image (R168). -/
abbrev Word16 := BitVec 16

/-- `n` records of one kind, read by an index below `n`. -/
structure Bank (α : Type) (n : Nat) where
  toList : List α
  size_eq : toList.length = n
deriving DecidableEq, Repr

/-- The bank whose record `i` is `f i`. -/
def Bank.ofFn {α : Type} {n : Nat} (f : Fin n → α) : Bank α n :=
  ⟨List.ofFn f, List.length_ofFn⟩

/-- `n` equal records. -/
def Bank.fill {α : Type} (n : Nat) (v : α) : Bank α n :=
  ⟨List.replicate n v, List.length_replicate⟩

/-- Record `i`. -/
def Bank.get {α : Type} {n : Nat} (b : Bank α n) (i : Fin n) : α :=
  b.toList[i.val]'(by rw [b.size_eq]; exact i.isLt)

/-- Record `i` replaced by `v`. -/
def Bank.set {α : Type} {n : Nat} (b : Bank α n) (i : Fin n) (v : α) : Bank α n :=
  ⟨b.toList.set i.val v, by rw [List.length_set, b.size_eq]⟩

/-- Every record changed by `f`, which is given the record's index. -/
def Bank.imap {α β : Type} {n : Nat} (f : Fin n → α → β) (b : Bank α n) : Bank β n :=
  Bank.ofFn fun i => f i (b.get i)

/-- Loop n of the manual is index n - 1. -/
abbrev LoopIx := Fin 16

/-- Room n of the manual is index n - 1. -/
abbrev RoomIx := Fin 12

/-- Probe n of the manual is index n; probe 0 is the supply probe. -/
abbrev ProbeIx := Fin 17

/-- The sixteen loops in ascending order. -/
def allLoops : List LoopIx := List.finRange 16

/-- The twelve rooms in ascending order. -/
def allRooms : List RoomIx := List.finRange 12

/-- The seventeen probes in ascending order. -/
def allProbes : List ProbeIx := List.finRange 17

/-- The return probe of a loop: the probe with the loop's number (R22, R69). -/
def returnProbe (i : LoopIx) : ProbeIx := i.succ

/-- The supply probe, probe 0. -/
def supplyProbe : ProbeIx := 0

end Sys2Proof
end

