-- ==== Sys2Proof/Syntax.lean ====
section
/-! DEFINITION. The commands the part takes: one constructor per row of spec/opcode_table.json. -/

namespace Sys2Proof

/-- What the house controller does on the segment after the last slot of the command: nothing yet, a
stop mark, or a start mark (R140, R142). -/
inductive Mark where
  | absent
  | stop
  | start
deriving DecidableEq, Repr

/-- The bytes of a SEND after its kind byte, as the house controller sends them: length, payload,
check. Fewer bytes than the length byte asks for are a frame cut off by a mark (R141, R142). -/
structure SendFrame where
  bytes : List Byte
  mark : Mark
deriving DecidableEq, Repr

/-- A FETCH after its kind byte: the selector, the reply byte the house controller leaves
unacknowledged too early (0 is the length byte; none: it acknowledges every byte but the check), and
the mark that follows (R141, R145). -/
structure FetchFrame where
  selector : Byte
  nackAt : Option Nat
  mark : Mark
deriving DecidableEq, Repr

/-- A run of equal samples of a probe line, one sample per tick of the 1 MHz capture clock (R24). -/
structure LineRun where
  level : Bool
  samples : Nat
deriving DecidableEq, Repr

/-- How a follower of the room segment ended a room transaction (R52): it acknowledged every byte of a
SEND, left byte `index` of the 716 unacknowledged (0 is the header), or sent the reply bytes of a FETCH
(length, payload, check). In a transaction that a hold-off or a restart cut short, the bytes that had
passed by then (log 36). -/
inductive RoomEnding where
  | acked
  | nack (index : Nat)
  | reply (bytes : List Byte)
deriving DecidableEq, Repr

/-- What the house controller does once a room transaction has answered the slot held for it: the reply
byte it leaves unacknowledged too early (R151), and the mark it makes (R142). -/
structure HouseTurn where
  nackAt : Option Nat
  mark : Mark
deriving DecidableEq, Repr

/-- A forward timeout that runs out: the milliseconds that pass before it, and the mark that the house
controller makes once the slot is released (R152). -/
structure TimeoutRun where
  after : Nat
  mark : Mark
deriving DecidableEq, Repr

/-- The commands. `after` is the time that passes before a timer event, in seconds unless the row
says milliseconds (log 2). -/
inductive Instr where
  /-- WRITE_LOOP (R2) -/
  | writeLoop (frame : SendFrame)
  /-- WRITE_ROOM (R42) -/
  | writeRoom (frame : SendFrame)
  /-- WRITE_PROBE (R36) -/
  | writeProbe (frame : SendFrame)
  /-- WRITE_MANIFOLD_GROUP_0 (R157) -/
  | writeManifoldGroup0 (frame : SendFrame)
  /-- WRITE_MANIFOLD_GROUP_1 (R158) -/
  | writeManifoldGroup1 (frame : SendFrame)
  /-- WRITE_MANIFOLD_GROUP_2 (R159) -/
  | writeManifoldGroup2 (frame : SendFrame)
  /-- WRITE_MANIFOLD_GROUP_3 (R160) -/
  | writeManifoldGroup3 (frame : SendFrame)
  /-- SET_MODE_RUN (R65) -/
  | setModeRun (frame : SendFrame)
  /-- SET_MODE_STOP (R66) -/
  | setModeStop (frame : SendFrame)
  /-- SET_MODE_FLUSH (R65) -/
  | setModeFlush (frame : SendFrame)
  /-- CLEAR_CHANNEL (R14) -/
  | clearChannel (frame : SendFrame)
  /-- CLEAR_PROBE (R38) -/
  | clearProbe (frame : SendFrame)
  /-- CLEAR_ALL (R162) -/
  | clearAll (frame : SendFrame)
  /-- TEST_CHANNEL (R18) -/
  | testChannel (frame : SendFrame)
  /-- SAVE (R163) -/
  | save (frame : SendFrame)
  /-- RESTART_RUNTIME (R174) -/
  | restartRuntime (frame : SendFrame)
  /-- RESTART_RELOAD (R174) -/
  | restartReload (frame : SendFrame)
  /-- RESTART_FACTORY (R174) -/
  | restartFactory (frame : SendFrame)
  /-- SEED (R106) -/
  | seed (frame : SendFrame)
  /-- UNKNOWN_KIND (R144) -/
  | unknownKind (kind : Byte) (mark : Mark)
  /-- MANIFOLD_STATUS (R164) -/
  | manifoldStatus (frame : FetchFrame)
  /-- LOOP_STATUS (R165) -/
  | loopStatus (frame : FetchFrame)
  /-- ROOM_STATUS (R166) -/
  | roomStatus (frame : FetchFrame)
  /-- PROBE_STATUS (R166) -/
  | probeStatus (frame : FetchFrame)
  /-- PERIOD_SUMMARY (R166) -/
  | periodSummary (frame : FetchFrame)
  /-- READ_LOOP (R167) -/
  | readLoop (frame : FetchFrame)
  /-- READ_ROOM (R167) -/
  | readRoom (frame : FetchFrame)
  /-- READ_PROBE (R167) -/
  | readProbe (frame : FetchFrame)
  /-- READ_MANIFOLD (R167) -/
  | readManifold (frame : FetchFrame)
  /-- LAST_RESULT (R155) -/
  | lastResult (frame : FetchFrame)
  /-- REPORT (R147): a FETCH of kind REPORT at the given link address -/
  | report (address : BitVec 7) (frame : FetchFrame)
  /-- FORWARD_OFFER (R149): a transaction given by its header byte and the bytes after it; with no
  header, the mark alone (R140, log 8) -/
  | forwardOffer (header : Option Byte) (bytes : List Byte) (nackAt : Option Nat) (mark : Mark)
  /-- FORWARD_TIMEOUT_EXPIRY (R152) -/
  | forwardTimeoutExpiry (run : TimeoutRun)
  /-- POLL_TIMER_EXPIRY (R53) -/
  | pollTimerExpiry (after : Nat)
  /-- ROOM_TRANSACTION_END (R52) -/
  | roomTransactionEnd (ending : RoomEnding) (turn : HouseTurn)
  /-- ROOM_HOLD_TIMEOUT (R52): a hold-off that has lasted `held` milliseconds -/
  | roomHoldTimeout (held : Nat)
  /-- TOOL_REQUEST_RAISED (R60) -/
  | toolRequestRaised
  /-- TOOL_REQUEST_DROPPED (R61) -/
  | toolRequestDropped
  /-- AGE_EXPIRY (R47) -/
  | ageExpiry (room : RoomIx) (after : Nat)
  /-- PROBE_CYCLE_COMPLETE (R27): the samples of the line up to the event -/
  | probeCycleComplete (probe : ProbeIx) (line : List LineRun)
  /-- STUCK_ERROR (R26): the samples of the line up to the event -/
  | stuckError (probe : ProbeIx) (line : List LineRun)
  /-- MEASUREMENT_TICK (R69) -/
  | measurementTick (after : Nat)
  /-- FLUSH_TIMER_EXPIRY (R79) -/
  | flushTimerExpiry (after : Nat)
  /-- REGULAR_BOUNDARY (R71) -/
  | regularBoundary (after : Nat)
  /-- JOIN (R110) -/
  | join (after : Nat)
  /-- SPACING_EXPIRY (R116) -/
  | spacingExpiry (after : Nat)
  /-- CLOSE_TIME_REACHED (R9) -/
  | closeTimeReached (loop : LoopIx) (after : Nat)
  /-- LOAD_CHECK (R11): `load` is what the sense input shows -/
  | loadCheck (loop : LoopIx) (load : Bool) (after : Nat)
  /-- OVERCURRENT (R12) -/
  | overcurrent (loop : LoopIx)
  /-- OPENING_ENDS (R16) -/
  | openingEnds (loop : LoopIx) (after : Nat)
  /-- CLOSING_ENDS (R16) -/
  | closingEnds (loop : LoopIx) (after : Nat)
  /-- TEST_END (R19) -/
  | testEnd (after : Nat)
  /-- PUMP_HOLD_EXPIRY (R128) -/
  | pumpHoldExpiry (after : Nat)
  /-- SAVE_COMPLETES (R171) -/
  | saveCompletes (after : Nat)
  /-- POWER_ON (R174) -/
  | powerOn (straps : BitVec 2)
  /-- RESET_INPUT (R174) -/
  | resetInput (straps : BitVec 2)
  /-- ACCEPTED_EDGE (R25): the samples of the line up to the event -/
  | acceptedEdge (probe : ProbeIx) (line : List LineRun)
  /-- UNKNOWN_FETCH_KIND (R145) -/
  | unknownFetchKind (kind : Byte) (mark : Mark)
  /-- POWER_LOSS (R172) -/
  | powerLoss
deriving DecidableEq, Repr

end Sys2Proof
end

