-- ==== Sys2Proof/Config.lean ====
section
/-! DEFINITION. What the manual fixes for every part, and the free values: what it leaves open. -/

namespace Sys2Proof.Config

/-- The floor-limit hysteresis of R48, in cK. -/
def floorHysteresis : Int := 100

/-- The starvation margin of R131, in cK. -/
def starvationMargin : Int := 50

/-- One step of the supply bias (R131), in cK. -/
def biasStep : Nat := 50

/-- Good samples in a row that recover a FAILED probe (R33). -/
def recoveryCount : Nat := 16

/-- Seconds from a grant to its load check (R11). -/
def loadCheckDelay : Nat := 2

/-- The bound within which a save completes (R171), in seconds. -/
def saveBound : Nat := 2

/-- The counter value at which a STUCK error is recorded (R26). -/
def stuckCount : Nat := 65535

/-- The largest value of the saturating 16-bit counters (R16, R41, R117, R146). -/
def count16 : Nat := 65535

/-- The first own address: straps 0 (R153). -/
def ownBase : Nat := 0x60

/-- FREE VALUE (log 4). Which place an event takes among the events that fall due in the same second
of an empty queue: the manual says either of two may be taken first (R16, R70, R120, R136). -/
opaque orderChoice : Nat → Nat → Nat

/-- FREE VALUE (log 5). What the sense input of a loop's channel shows at a load check that falls due
on an empty queue (R11). -/
opaque senseShowsLoad : Nat → LoopIx → Bool

/-- FREE VALUE (log 6). Whether a save completes before its 2 s bound, on an empty queue (R171). -/
opaque saveCompletesEarly : Nat → Bool

/-- FREE VALUE (log 34). Whether a room's demand-drop report, made while a regular boundary is due, is
taken after that boundary: the manual says that either may be taken first (R78). -/
opaque dropAfterBoundary : Nat → RoomIx → Bool

end Sys2Proof.Config
end

