-- ==== Sys2Proof/Machine/State.lean ====
section
/-! DEFINITION. The state of the Lispan 716 as plain data, the outcomes of a step that are no next
state, and the state right after reset. Field by field: INVENTORY.md, heading State. -/

namespace Sys2Proof.Machine

/-- The manifold mode (R64). -/
inductive Mode where
  | stopped
  | running
  | flush
  | overheat
deriving DecidableEq, Repr

/-- The class of a loop for one period (R1, R97). -/
inductive LoopClass where
  | off
  | pulse
  | continuous
deriving DecidableEq, Repr

/-- The small-pulse policy (R1, R98). -/
inductive Policy where
  | suppress
  | raise
deriving DecidableEq, Repr

/-- The configuration fields of a loop record (R1). -/
structure LoopConfig where
  enabled : Bool
  room : Option RoomIx
  fixedDemand : Nat
  length : Option Nat
  kmin : Nat
  kmax : Nat
  policy : Policy
  target : Option Nat
deriving DecidableEq, Repr

/-- A loop record (R1): configuration, then the learned and runtime fields. -/
structure Loop where
  cfg : LoopConfig
  k : Nat
  cls : LoopClass
  onTime : Nat
  sigma : Int
  n : Nat
deriving DecidableEq, Repr

/-- The channel condition (R6). -/
inductive Condition where
  | ready
  | absent
  | tripped
deriving DecidableEq, Repr

/-- The valve estimate (R15), with the remaining seconds of a running opening or closing and the
open-since of an open valve (R6, R16). -/
inductive Valve where
  | closed
  | opening (remaining : Nat)
  | isOpen (since : Nat)
  | closing (remaining : Nat)
deriving DecidableEq, Repr

/-- A channel's record (R6). `loadCheck` holds the seconds to go of a pending load check. -/
structure Channel where
  energised : Bool
  closeTime : Option Nat
  condition : Condition
  loadCheck : Option Nat
  energisedSeconds : Nat
  valve : Valve
deriving DecidableEq, Repr

/-- The channel test record (R18). -/
inductive ChannelTest where
  | idle
  | queued (loop : LoopIx) (duration : Nat)
  | active (loop : LoopIx) (duration : Nat) (remaining : Nat)
deriving DecidableEq, Repr

/-- The line filter depth: 2 or 4 samples (R22). -/
inductive Depth where
  | two
  | four
deriving DecidableEq, Repr

/-- The configuration fields of a probe record (R22). -/
structure ProbeConfig where
  fitted : Bool
  offset : Int
  depth : Depth
  shift : Nat
deriving DecidableEq, Repr

/-- The capture phase (R25). -/
inductive Phase where
  | wait
  | high
  | low
deriving DecidableEq, Repr

/-- The standing of a probe (R31). -/
inductive ProbeStatus where
  | absent
  | suspect
  | ok
  | failed
deriving DecidableEq, Repr

/-- The kind of a probe's most recent error (R23). -/
inductive ProbeError where
  | none
  | stuck
  | period
  | range
deriving DecidableEq, Repr

/-- A probe record (R22, R23). `adopting`: the first sample after initialisation, which sets the
accepted level, is still to come (R24). -/
structure Probe where
  cfg : ProbeConfig
  accepted : Bool
  adopting : Bool
  run : Nat
  phase : Phase
  counter : Nat
  high : Option Nat
  period : Option Nat
  sample : Option Int
  filtered : Option Int
  status : ProbeStatus
  errors : Nat
  recovery : Nat
  lastError : ProbeError
deriving DecidableEq, Repr

/-- The proxy mode of a room (R40). -/
inductive ProxyMode where
  | off
  | cache
  | full
deriving DecidableEq, Repr

/-- The configuration fields of a room record (R40); address 0 is "not in use". -/
structure RoomConfig where
  address : BitVec 7
  proxy : ProxyMode
  fallback : Nat
  floorLimit : Option Int
deriving DecidableEq, Repr

/-- A room unit's report (R41). -/
structure Report where
  air : Int
  setpoint : Int
  demand : Nat
  floor : Option Int
deriving DecidableEq, Repr

/-- The standing of a cached report (R41). -/
inductive Freshness where
  | none
  | fresh
  | aged
  | lost
deriving DecidableEq, Repr

/-- The floor state of a room (R41, R48). -/
inductive FloorState where
  | normal
  | limited
deriving DecidableEq, Repr

/-- The outcome of a room's most recent poll (R41). -/
inductive PollOutcome where
  | none
  | answered
  | noAck
  | checkError
  | timeout
deriving DecidableEq, Repr

/-- A room record (R40, R41). -/
structure Room where
  cfg : RoomConfig
  report : Option Report
  freshness : Freshness
  failures : Nat
  age : Nat
  floor : FloorState
  lastPoll : PollOutcome
deriving DecidableEq, Repr

/-- The frame copy of a forward (R56). -/
inductive ForwardFrame where
  | send (kind : Byte) (payload : List Byte)
  | fetch (kind : Byte) (selector : Byte)
deriving DecidableEq, Repr

/-- The forward slot (R56). -/
inductive Slot where
  | empty
  | waiting (address : BitVec 7) (frame : ForwardFrame)
  | active (address : BitVec 7) (frame : ForwardFrame) (orphan : Bool)
deriving DecidableEq, Repr

/-- A room transaction in progress (R52): the address in its header, the bytes the 716 sends, the room
hold limit in effect when it began, whether a hold-off has outlasted that limit, whether a restart has
ended it and only its stop mark is still to come (R63), and whether the room's address was changed while
it ran, so that its outcome is discarded even if the old address has been written back (R43, R52). -/
structure Transaction where
  address : BitVec 7
  sent : List Byte
  holdLimit : Nat
  timedOut : Bool
  ended : Bool
  stale : Bool
deriving DecidableEq, Repr

/-- What the room segment carried in a transaction (R52): the bytes the 716 sent, the reply bytes it received,
and the acknowledge slots it gave to these, in order, `true` for a slot pulled low. -/
structure RoomBytes where
  sent : List Byte
  received : List Byte
  acks : List Bool
deriving DecidableEq, Repr

/-- The state of the Room Segment Controller (section 3.5). The tool grant is on in `granted`. -/
inductive Activity where
  | idle
  | polling (room : RoomIx) (txn : Transaction)
  | forwarding (txn : Transaction)
  | granted
deriving DecidableEq, Repr

/-- The Room Segment Controller (section 3.5). `cursor` is a room number of the manual. `carried`: what the
segment carried in the transaction that ended last (R52, log 23). -/
structure Segment where
  activity : Activity
  cursor : Option Nat
  pollTimer : Nat
  pendingCycle : Bool
  slot : Slot
  carried : RoomBytes
deriving DecidableEq, Repr

/-- The nine group 0 values that the Period Engine latches (R74). -/
structure Timing where
  period : Nat
  limit : Nat
  spacing : Nat
  tOpen : Nat
  tClose : Nat
  margin : Nat
  eMin : Nat
  minPulse : Nat
  tSettle : Nat
deriving DecidableEq, Repr

/-- Group 1 of the manifold parameter table (R158). -/
structure Group1 where
  nMeas : Nat
  target : Nat
  gain : Nat
  stepMax : Nat
  supplyBase : Int
  supplyMax : Int
  trip : Int
  hysteresis : Nat
deriving DecidableEq, Repr

/-- Group 2 of the manifold parameter table (R159). -/
structure Group2 where
  pollInterval : Nat
  lossThreshold : Nat
  holdTime : Nat
  forwardTimeout : Nat
  holdLimit : Nat
deriving DecidableEq, Repr

/-- The source of an auxiliary line (R138). -/
inductive Source where
  | off
  | pump
  | heatCall
  | overheat
  | fault
deriving DecidableEq, Repr

/-- The routing of an auxiliary line: source and sense (R138). -/
structure Routing where
  source : Source
  senseHigh : Bool
deriving DecidableEq, Repr

/-- Group 3 of the manifold parameter table (R160). -/
structure Group3 where
  pumpHold : Nat
  autosave : Nat
  autorun : Bool
  lineA : Routing
  lineB : Routing
  errorThreshold : Nat
deriving DecidableEq, Repr

/-- The manifold parameter table (R156); group 0 is `timing` and `flushTime`. -/
structure Params where
  timing : Timing
  flushTime : Nat
  g1 : Group1
  g2 : Group2
  g3 : Group3
deriving DecidableEq, Repr

/-- A loop's current-period record (R82). -/
structure PeriodRecord where
  cls : LoopClass
  onTime : Nat
  grantTime : Option Nat
  clipped : Bool
  missed : Bool
  closedEarly : Bool
deriving DecidableEq, Repr

/-- A loop's entry of the period summary (R82). -/
structure SummaryEntry where
  planned : PeriodRecord
  energisedSeconds : Nat
  shortened : Bool
  n : Nat
  meanDrop : Option Int
  kBefore : Nat
  step : Int
  kAfter : Nat
deriving DecidableEq, Repr

/-- The Period Engine (chapter 4). `flushDue`: the flush timer has run out and the flush ends at the next
tick (R79). `flushRanOut`: the model's own, the period time at which it ran out (log 35). `lastTick`: the
model's own, the period time at which the last tick taken fell due (log 14). `drops`: the rooms whose
demand-drop reports wait for the boundary that is due (R78, log 34). -/
structure PeriodEngine where
  mode : Mode
  eff : Timing
  time : Nat
  flushTimer : Option Nat
  flushDue : Bool
  flushRanOut : Option Nat
  records : Option (Bank PeriodRecord 16)
  summary : Option (Bank SummaryEntry 16)
  lastTick : Nat
  drops : List RoomIx
deriving DecidableEq, Repr

/-- An entry of the start plan (R108). -/
structure PlanEntry where
  loop : LoopIx
  joinTime : Nat
deriving DecidableEq, Repr

/-- An entry of the start queue (R112). -/
inductive QueueEntry where
  | loop (i : LoopIx)
  | test (i : LoopIx)
deriving DecidableEq, Repr

/-- The Start Arbiter (chapter 6). -/
structure Arbiter where
  plan : List PlanEntry
  queue : List QueueEntry
  sinceGrant : Option Nat
deriving DecidableEq, Repr

/-- The pump request state (R128). -/
inductive Pump where
  | off
  | on
  | hold
deriving DecidableEq, Repr

/-- The Supply and Pump Logic (chapter 7). Lines: high is `true`. -/
structure Supply where
  pump : Pump
  holdTimer : Option Nat
  bias : Nat
  latch : Bool
  exitFlag : Bool
  lineA : Bool
  lineB : Bool
deriving DecidableEq, Repr

/-- The management results (R155). -/
inductive Result where
  | ok
  | clamped
  | refusedRange
  | refusedState
  | refusedBusy
  | refusedLength
  | unknownKind
  | checkFailed
deriving DecidableEq, Repr

/-- The house transaction state (R142), with the room and proxy mode taken at the header (R143) and,
while the clock is held, whether the held frame is a FETCH. -/
inductive HouseState where
  | idle
  | header
  | own
  | proxyCache (room : RoomIx) (proxy : ProxyMode)
  | proxyHeld (room : RoomIx) (proxy : ProxyMode) (fetch : Bool)
  | ignoring
deriving DecidableEq, Repr

/-- The House Port (chapter 8). `acks`: the acknowledge slots the part gave in the last transaction,
in order, `true` for a slot pulled low; `sent`: the bytes it sent in it. -/
structure House where
  own : BitVec 7
  state : HouseState
  received : List Byte
  sent : List Byte
  acks : List Bool
  timeout : Option Nat
  errors : Nat
  lastResult : Result
  lastKind : Option Byte
deriving DecidableEq, Repr

/-- A loop's words in the store image (R168): the configuration fields of R1, then K. -/
structure LoopWords where
  enabled : Word16
  room : Word16
  fixedDemand : Word16
  length : Word16
  kmin : Word16
  kmax : Word16
  policy : Word16
  target : Word16
  k : Word16
deriving DecidableEq, Repr

/-- A room's words in the store image (R168). -/
structure RoomWords where
  address : Word16
  proxy : Word16
  fallback : Word16
  floorLimit : Word16
deriving DecidableEq, Repr

/-- A probe's words in the store image (R168). -/
structure ProbeWords where
  fitted : Word16
  offset : Word16
  depth : Word16
  shift : Word16
deriving DecidableEq, Repr

/-- The words of the manifold parameter table in the store image, group by group (R156, R168). -/
structure ParamWords where
  g0 : Bank Word16 10
  g1 : Bank Word16 8
  g2 : Bank Word16 5
  g3 : Bank Word16 8
deriving DecidableEq, Repr

/-- Every word of an image but its check word (R168). -/
structure ImageBody where
  loops : Bank LoopWords 16
  rooms : Bank RoomWords 12
  probes : Bank ProbeWords 17
  params : ParamWords
deriving DecidableEq, Repr

/-- The store image (R168, R169): a blank store, or words with their check word; `none` is a check
word made invalid by a save that has begun (R171). -/
inductive Image where
  | blank
  | written (body : ImageBody) (check : Option Word16)
deriving DecidableEq, Repr

/-- The Settings Store (chapter 10). The store is SAVING while a snapshot is held. -/
structure Store where
  image : Image
  snapshot : Option ImageBody
  saveLeft : Nat
  defaulted : Bool
  autosave : Nat
deriving DecidableEq, Repr

/-- The whole part. -/
structure State where
  powered : Bool
  params : Params
  loops : Bank Loop 16
  channels : Bank Channel 16
  test : ChannelTest
  probes : Bank Probe 17
  rooms : Bank Room 12
  seg : Segment
  toolRequest : Bool
  period : PeriodEngine
  arb : Arbiter
  supply : Supply
  house : House
  store : Store
  msPhase : Nat
  draws : Nat
  pending : List Instr
deriving DecidableEq, Repr

/-- Why a step stops with a fault. No rule of the manual stops the part: what it calls faults and
errors is state (log 28), so there is no constructor. Nothing raises a fault; that is safe, since
every command then has a next state. -/
inductive Fault where
deriving DecidableEq, Repr

/-- Why a command is refused by the model. -/
inductive Refusal where
  /-- The command has no meaning in this model yet. Only an arm of `exec` raises it, and no arm does:
  every row of the table has its meaning. Safe: the model stops where the part would go on. -/
  | notModelled (mnemonic : String)
deriving DecidableEq, Repr

/-- Factory values of a loop record (R1, with K 1024: R168), and the reset values of its other fields
(R21). -/
def Loop.factory : Loop where
  cfg :=
    { enabled := false, room := none, fixedDemand := 0, length := none, kmin := 256, kmax := 3072,
      policy := .raise, target := none }
  k := 1024
  cls := .off
  onTime := 0
  sigma := 0
  n := 0

/-- A channel after any reset (R21): released, READY, and closing for the closing time in effect. -/
def Channel.afterReset (tClose : Nat) : Channel where
  energised := false
  closeTime := none
  condition := .ready
  loadCheck := none
  energisedSeconds := 0
  valve := .closing tClose

/-- Factory values of a probe's configuration (R22). -/
def ProbeConfig.factory : ProbeConfig where
  fitted := true
  offset := 0
  depth := .four
  shift := 3

/-- A probe's record after its runtime is initialised (R23); the accepted level is low until the first
sample is adopted (log 26). -/
def Probe.initial (c : ProbeConfig) : Probe where
  cfg := c
  accepted := false
  adopting := true
  run := 0
  phase := .wait
  counter := 0
  high := none
  period := none
  sample := none
  filtered := none
  status := if c.fitted then .suspect else .absent
  errors := 0
  recovery := 0
  lastError := .none

/-- Factory values of a room's configuration (R40). -/
def RoomConfig.factory : RoomConfig where
  address := 0
  proxy := .off
  fallback := 300
  floorLimit := none

/-- A room's record with its runtime reset (R41). -/
def Room.initial (c : RoomConfig) : Room where
  cfg := c
  report := none
  freshness := .none
  failures := 0
  age := 0
  floor := .normal
  lastPoll := .none

/-- Factory values of the manifold parameter table (R168). -/
def Params.factory : Params where
  timing :=
    { period := 1800, limit := 8, spacing := 20, tOpen := 180, tClose := 240, margin := 240,
      eMin := 300, minPulse := 240, tSettle := 300 }
  flushTime := 1800
  g1 :=
    { nMeas := 12, target := 500, gain := 256, stepMax := 64, supplyBase := 3200, supplyMax := 4200,
      trip := 5500, hysteresis := 300 }
  g2 :=
    { pollInterval := 15, lossThreshold := 4, holdTime := 1800, forwardTimeout := 300,
      holdLimit := 25 }
  g3 :=
    { pumpHold := 60, autosave := 48, autorun := false,
      lineA := { source := .pump, senseHigh := true },
      lineB := { source := .heatCall, senseHigh := true }, errorThreshold := 20 }

/-- The machine right after reset: power-on of a part whose store is blank, with straps 0 and the tool
request line low (log 7), so with the factory values and the store-defaulted flag set (R169, R174).
The pump request is ON because every valve estimate is set to CLOSING (R139), and no room is in use, so
the first poll cycle has ended at once (R54, R63). -/
def State.reset : State where
  powered := true
  params := Params.factory
  loops := Bank.fill 16 Loop.factory
  channels := Bank.fill 16 (Channel.afterReset 240)
  test := .idle
  probes := Bank.fill 17 (Probe.initial ProbeConfig.factory)
  rooms := Bank.fill 12 (Room.initial RoomConfig.factory)
  seg :=
    { activity := .idle, cursor := none, pollTimer := 15, pendingCycle := false, slot := .empty
      carried := { sent := [], received := [], acks := [] } }
  toolRequest := false
  period :=
    { mode := .stopped, eff := Params.factory.timing, time := 0, flushTimer := none,
      flushDue := false, flushRanOut := none, records := none, summary := none, lastTick := 0, drops := [] }
  arb := { plan := [], queue := [], sinceGrant := none }
  supply :=
    { pump := .on, holdTimer := none, bias := 0, latch := false, exitFlag := false, lineA := true,
      lineB := false }
  house :=
    { own := 0x60, state := .idle, received := [], sent := [], acks := [], timeout := none,
      errors := 0, lastResult := .ok, lastKind := none }
  store :=
    { image := .blank, snapshot := none, saveLeft := 0, defaulted := true, autosave := 0 }
  msPhase := 0
  draws := 0
  pending := []

end Sys2Proof.Machine
end

