-- ==== Sys2Proof/Machine/Updates.lean ====
section
/-! DEFINITION. One update of the state per field: every other definition changes the state through
these. Sys2Proof/Laws/State.lean says once what each leaves. -/

namespace Sys2Proof.Machine

/-- The state with `powered` replaced. -/
def State.setPowered (s : State) (v : Bool) : State := { s with powered := v }

/-- The state with `params` replaced. -/
def State.setParams (s : State) (v : Params) : State := { s with params := v }

/-- The state with `loops` replaced. -/
def State.setLoops (s : State) (v : Bank Loop 16) : State := { s with loops := v }

/-- The state with `channels` replaced. -/
def State.setChannels (s : State) (v : Bank Channel 16) : State := { s with channels := v }

/-- The state with `test` replaced. -/
def State.setTest (s : State) (v : ChannelTest) : State := { s with test := v }

/-- The state with `probes` replaced. -/
def State.setProbes (s : State) (v : Bank Probe 17) : State := { s with probes := v }

/-- The state with `rooms` replaced. -/
def State.setRooms (s : State) (v : Bank Room 12) : State := { s with rooms := v }

/-- The state with `seg` replaced. -/
def State.setSeg (s : State) (v : Segment) : State := { s with seg := v }

/-- The state with `toolRequest` replaced. -/
def State.setToolRequest (s : State) (v : Bool) : State := { s with toolRequest := v }

/-- The state with `period` replaced. -/
def State.setPeriod (s : State) (v : PeriodEngine) : State := { s with period := v }

/-- The state with `arb` replaced. -/
def State.setArb (s : State) (v : Arbiter) : State := { s with arb := v }

/-- The state with `supply` replaced. -/
def State.setSupply (s : State) (v : Supply) : State := { s with supply := v }

/-- The state with `house` replaced. -/
def State.setHouse (s : State) (v : House) : State := { s with house := v }

/-- The state with `store` replaced. -/
def State.setStore (s : State) (v : Store) : State := { s with store := v }

/-- The state with `msPhase` replaced. -/
def State.setMsPhase (s : State) (v : Nat) : State := { s with msPhase := v }

/-- The state with `draws` replaced. -/
def State.setDraws (s : State) (v : Nat) : State := { s with draws := v }

/-- The state with `pending` replaced. -/
def State.setPending (s : State) (v : List Instr) : State := { s with pending := v }

end Sys2Proof.Machine
end

