-- ==== Sys2Proof/Machine/Flags.lean ====
section
/-! DEFINITION. What the part forms from its state each time it is read: counts, conditions, derived
demand, the heat call, the supply request and the summary fault items. -/

namespace Sys2Proof.Machine

/-- A value clamped to a range: replaced by the nearer end when outside it (Conventions). -/
def clampNat (lo hi v : Nat) : Nat := max lo (min v hi)

/-- `clampNat` on integers. -/
def clampInt (lo hi v : Int) : Int := max lo (min v hi)

/-- A count raised by `d` that saturates (Conventions). -/
def saturate (top v d : Nat) : Nat := min top (v + d)

/-- The loop is enabled and its channel READY: it takes part in a pass (R85). -/
def takesPart (s : State) (i : LoopIx) : Bool :=
  (s.loops.get i).cfg.enabled && (s.channels.get i).condition = .ready

/-- Some loop is enabled (R65, R84). -/
def anyEnabled (s : State) : Bool := allLoops.any fun i => (s.loops.get i).cfg.enabled

/-- The number of energised channels (R6). -/
def energisedCount (s : State) : Nat := allLoops.countP fun i => (s.channels.get i).energised

/-- Whether water flows, or may, through a valve: OPEN or CLOSING (R127). -/
def Valve.flows : Valve → Bool
  | .isOpen _ => true
  | .closing _ => true
  | .closed => false
  | .opening _ => false

/-- The flow count of R127 over a bank of channels. -/
def flowCount (cs : Bank Channel 16) : Nat := allLoops.countP fun i => (cs.get i).valve.flows

/-- A room is in use while its address is not 0 (R40). -/
def RoomConfig.inUse (c : RoomConfig) : Bool := c.address ≠ 0

/-- The derived demand of a room (R49). -/
def derivedDemand (r : Room) : Nat :=
  match r.floor with
  | .limited => 0
  | .normal =>
    match r.freshness with
    | .fresh | .aged => min ((r.report.elim 0 Report.demand) * 5) 1000
    | .none | .lost => r.cfg.fallback

/-- The loop names the room (R44). -/
def loopOfRoom (s : State) (r : RoomIx) (i : LoopIx) : Bool := (s.loops.get i).cfg.room = some r

/-- The demand of a loop (R94): its room's derived demand, or its fixed demand without a room. -/
def loopDemand (s : State) (i : LoopIx) : Nat :=
  match (s.loops.get i).cfg.room with
  | some r => derivedDemand (s.rooms.get r)
  | none => (s.loops.get i).cfg.fixedDemand

/-- A probe is usable when its status is OK (R35); then its filtered value. -/
def usableValue (s : State) (p : ProbeIx) : Option Int :=
  if (s.probes.get p).status = .ok then (s.probes.get p).filtered else none

/-- Whether the mode lets the period time run (R64, R68). -/
def Mode.runs : Mode → Bool
  | .stopped => false
  | .running | .flush | .overheat => true

/-- The regular boundary falls due when the period time reaches P (R68). -/
def boundaryDue (s : State) : Bool := s.period.mode.runs && s.period.eff.period ≤ s.period.time

/-- RUNNING or FLUSH: the modes that heat (R130), start loops (R110) and are monitored (R137). -/
def Mode.heats : Mode → Bool
  | .running | .flush => true
  | .stopped | .overheat => false

/-- The heat call (R130). -/
def heatCall (s : State) : Bool :=
  s.period.mode.heats && allLoops.any fun i => (s.loops.get i).cls ≠ .off

/-- The supply request, in c°C (R131). -/
def supplyRequest (s : State) : Int := s.params.g1.supplyBase + s.supply.bias

/-- The tool grant state: on exactly while the controller is GRANTED (R60, R61). -/
def toolGranted (s : State) : Bool := s.seg.activity = .granted

/-- The store state SAVING (R171). -/
def saving (s : State) : Bool := s.store.snapshot.isSome

/-- Summary fault item: any probe FAILED (R35). -/
def anyProbeFailed (s : State) : Bool := allProbes.any fun p => (s.probes.get p).status = .failed

/-- Summary fault item: any channel ABSENT or TRIPPED (R13). -/
def anyChannelFault (s : State) : Bool :=
  allLoops.any fun i => (s.channels.get i).condition ≠ .ready

/-- Summary fault item: any room LOST (R51). -/
def anyRoomLost (s : State) : Bool := allRooms.any fun r => (s.rooms.get r).freshness = .lost

/-- Summary fault item: supply unmonitored (R137). -/
def supplyUnmonitored (s : State) : Bool :=
  s.period.mode.heats && (s.probes.get supplyProbe).status ≠ .ok

/-- Some item of the summary fault byte is set (R138, R164). -/
def anyFault (s : State) : Bool :=
  anyProbeFailed s || anyChannelFault s || anyRoomLost s || s.store.defaulted || supplyUnmonitored s

/-- The pump request is asserted in ON and HOLD (R128). -/
def Pump.asserted : Pump → Bool
  | .off => false
  | .on | .hold => true

/-- Whether the source of an auxiliary line is active (R138). -/
def sourceActive (s : State) : Source → Bool
  | .off => false
  | .pump => s.supply.pump.asserted
  | .heatCall => heatCall s
  | .overheat => s.supply.latch
  | .fault => anyFault s

/-- The level of an auxiliary line, high being `true` (R138). -/
def lineLevel (s : State) (r : Routing) : Bool := sourceActive s r.source == r.senseHigh

/-- Both auxiliary lines driven to the levels that their sources and senses give (R138, log 25); a part
without power drives neither (log 10). -/
def driveLines (s : State) : State :=
  s.setSupply { s.supply with
    lineA := s.powered && lineLevel s s.params.g3.lineA
    lineB := s.powered && lineLevel s s.params.g3.lineB }

/-- A command taken by a part that has power: the change `f`, then the lines follow their sources
(R138). A part without power takes no command (log 10). -/
def whenPowered (f : State → State) (s : State) : Host.Outcome State Fault Refusal :=
  .next (if s.powered then driveLines (f s) else s)

end Sys2Proof.Machine
end

