-- ==== Sys2Proof/Machine/Operands.lean ====
section
/-! DEFINITION. The operand forms: bytes and fields of frames, enumeration codes, layouts of writes and
replies (chapter 11), the clamps of management writes, and check bytes (R141). -/

namespace Sys2Proof.Machine

/-! ## Bytes and fields (R175) -/

/-- A one-byte unsigned field at an offset. -/
def byteAt (p : List Byte) (i : Nat) : Nat := (p.getD i 0).toNat

/-- A two-byte unsigned field, most significant byte first. -/
def wordAt (p : List Byte) (i : Nat) : Nat := byteAt p i * 256 + byteAt p (i + 1)

/-- A 16-bit value read in two's complement. -/
def signed16 (v : Nat) : Int := (BitVec.ofNat 16 v).toInt

/-- A two-byte signed field. -/
def signedAt (p : List Byte) (i : Nat) : Int := signed16 (wordAt p i)

/-- One byte of a reply. -/
def byteOf (n : Nat) : Byte := BitVec.ofNat 8 n

/-- An unsigned two-byte field of a reply. -/
def wordBytes (n : Nat) : List Byte := [byteOf (n / 256), byteOf n]

/-- The 16-bit two's complement pattern of an integer. -/
def pattern16 (z : Int) : Nat := (BitVec.ofInt 16 z).toNat

/-- A signed two-byte field of a reply. -/
def signedBytes (z : Int) : List Byte := wordBytes (pattern16 z)

/-- A yes/no field of a reply. -/
def yesNoByte (b : Bool) : Byte := if b then 1 else 0

/-- An optional signed field of a reply: 0x8000 when absent (R176). -/
def optSignedBytes (z : Option Int) : List Byte := z.elim (wordBytes 0x8000) signedBytes

/-- An optional unsigned field of a reply: 0xFFFF when absent (R176). -/
def optWordBytes (n : Option Nat) : List Byte := n.elim (wordBytes 0xFFFF) wordBytes

/-- An optional unsigned configuration field: absent is 0 (R176). -/
def absentZero (n : Nat) : Option Nat := if n = 0 then none else some n

/-- An optional signed configuration field: absent is 0 (R176). -/
def absentZeroInt (z : Int) : Option Int := if z = 0 then none else some z

/-- The 8-bit sum of bytes (R141). -/
def sum8 (bs : List Byte) : Byte := bs.foldr (· + ·) 0

/-- The check byte that brings the sum of the bytes to zero (R141). -/
def checkByte (bs : List Byte) : Byte := -(sum8 bs)

/-- The header byte: the address shifted left by one place, plus the direction (section 11.2). -/
def headerByte (address : BitVec 7) (fetch : Bool) : Byte := address ++ BitVec.ofBool fetch

/-- The address in a header byte. -/
def headerAddress (h : Byte) : BitVec 7 := h.extractLsb' 1 7

/-- The direction in a header byte: FETCH when bit 0 is set. -/
def headerIsFetch (h : Byte) : Bool := h.getLsbD 0

/-- A signed temperature difference of the configuration (R175: target override, target drop, overheat
hysteresis). Every one is clamped to a range above 0, so 0 stands for the negative values, which fall to
the same lower end (log 16). -/
def difference16 (v : Nat) : Nat := (signed16 v).toNat

/-! ## Enumeration codes (section 11.5) -/

/-- The code of a yes/no field. -/
def yesNo : Nat → Option Bool
  | 0 => some false
  | 1 => some true
  | _ => none

def Policy.code : Policy → Nat
  | .suppress => 0
  | .raise => 1

def Policy.ofCode : Nat → Option Policy
  | 0 => some .suppress
  | 1 => some .raise
  | _ => none

def ProxyMode.code : ProxyMode → Nat
  | .off => 0
  | .cache => 1
  | .full => 2

def ProxyMode.ofCode : Nat → Option ProxyMode
  | 0 => some .off
  | 1 => some .cache
  | 2 => some .full
  | _ => none

def Depth.code : Depth → Nat
  | .two => 2
  | .four => 4

def Depth.ofCode : Nat → Option Depth
  | 2 => some .two
  | 4 => some .four
  | _ => none

def Source.code : Source → Nat
  | .off => 0
  | .pump => 1
  | .heatCall => 2
  | .overheat => 3
  | .fault => 4

def Source.ofCode : Nat → Option Source
  | 0 => some .off
  | 1 => some .pump
  | 2 => some .heatCall
  | 3 => some .overheat
  | 4 => some .fault
  | _ => none

/-- The sense codes: 0 high, 1 low. -/
def senseCode (high : Bool) : Nat := if high then 0 else 1

def senseOfCode : Nat → Option Bool
  | 0 => some true
  | 1 => some false
  | _ => none

def Mode.code : Mode → Nat
  | .stopped => 0
  | .running => 1
  | .flush => 2
  | .overheat => 3

def Pump.code : Pump → Nat
  | .off => 0
  | .on => 1
  | .hold => 2

def LoopClass.code : LoopClass → Nat
  | .off => 0
  | .pulse => 1
  | .continuous => 2

def Valve.code : Valve → Nat
  | .closed => 0
  | .opening _ => 1
  | .isOpen _ => 2
  | .closing _ => 3

def Condition.code : Condition → Nat
  | .ready => 0
  | .absent => 1
  | .tripped => 2

def Freshness.code : Freshness → Nat
  | .none => 0
  | .fresh => 1
  | .aged => 2
  | .lost => 3

def FloorState.code : FloorState → Nat
  | .normal => 0
  | .limited => 1

def PollOutcome.code : PollOutcome → Nat
  | .none => 0
  | .answered => 1
  | .noAck => 2
  | .checkError => 3
  | .timeout => 4

def ProbeStatus.code : ProbeStatus → Nat
  | .absent => 0
  | .suspect => 1
  | .ok => 2
  | .failed => 3

def ProbeError.code : ProbeError → Nat
  | .none => 0
  | .stuck => 1
  | .period => 2
  | .range => 3

def Result.code : Result → Nat
  | .ok => 0
  | .clamped => 1
  | .refusedRange => 2
  | .refusedState => 3
  | .refusedBusy => 4
  | .refusedLength => 5
  | .unknownKind => 6
  | .checkFailed => 7

/-- OK and CLAMPED are acknowledged at the check byte; the refusals are not (R144, R155). -/
def Result.accepted : Result → Bool
  | .ok | .clamped => true
  | _ => false

/-- OK, or CLAMPED when a tuning value was replaced (R154). -/
def Result.ofClamp (replaced : Bool) : Result := if replaced then .clamped else .ok

/-- A loop by its number 1 to 16. -/
def loopOfNumber (n : Nat) : Option LoopIx :=
  if h : 1 ≤ n ∧ n ≤ 16 then some ⟨n - 1, by omega⟩ else none

/-- A room by its number 1 to 12. -/
def roomOfNumber (n : Nat) : Option RoomIx :=
  if h : 1 ≤ n ∧ n ≤ 12 then some ⟨n - 1, by omega⟩ else none

/-- A probe by its number 0 to 16. -/
def probeOfNumber (n : Nat) : Option ProbeIx :=
  if h : n ≤ 16 then some ⟨n, by omega⟩ else none

/-- The number of a loop. -/
def loopNumber (i : LoopIx) : Nat := i.val + 1

/-- The number of a room. -/
def roomNumber (r : RoomIx) : Nat := r.val + 1

/-- The room field of a loop: none for 0, a room for 1 to 12; above 12 it names nothing (R2). -/
def roomField (n : Nat) : Option (Option RoomIx) :=
  if n = 0 then some none else (roomOfNumber n).map some

/-- The code of a loop's room field. -/
def roomFieldCode (r : Option RoomIx) : Nat := r.elim 0 roomNumber

/-- A link address field of one byte: 0x00 to 0x7F (R175). -/
def addressField (n : Nat) : Option (BitVec 7) := if n < 128 then some (BitVec.ofNat 7 n) else none

/-! ## Configurations from field values: the structural values by name, numbers as written -/

/-- A loop configuration from the values of its fields (R1, section 11.3); none when the enabled field,
the room or the policy names nothing (R2). -/
def LoopConfig.ofFields (enabled room fixedDemand length kmin kmax policy target : Nat) :
    Option LoopConfig := do
  let e ← yesNo enabled
  let r ← roomField room
  let p ← Policy.ofCode policy
  return { enabled := e, room := r, fixedDemand := fixedDemand, length := absentZero length,
           kmin := kmin, kmax := kmax, policy := p,
           target := (absentZero target).map difference16 }

/-- The tuning values of a loop configuration clamped (R2). -/
def LoopConfig.clamped (c : LoopConfig) : LoopConfig :=
  { c with
    fixedDemand := clampNat 0 1000 c.fixedDemand
    length := c.length.map (clampNat 5 200)
    kmin := clampNat 128 4096 c.kmin
    kmax := clampNat 128 4096 c.kmax
    target := c.target.map (clampNat 200 1500) }

/-- The relations of R2 between the fields of a loop configuration: its room is in use, and Kmin is not
above Kmax after both are clamped. -/
def LoopConfig.admissible (inUse : RoomIx → Bool) (c : LoopConfig) : Bool :=
  c.room.all inUse && c.clamped.kmin ≤ c.clamped.kmax

/-- K kept inside the loop's bounds (R3, R92). -/
def LoopConfig.bound (c : LoopConfig) (k : Nat) : Nat := clampNat c.kmin c.kmax k

/-- A room configuration from the values of its fields (R40); none when the proxy mode names nothing or
the address is no link address (R42, R175). -/
def RoomConfig.ofFields (address proxy fallback : Nat) (floorLimit : Int) : Option RoomConfig := do
  let a ← addressField address
  let p ← ProxyMode.ofCode proxy
  return { address := a, proxy := p, fallback := fallback, floorLimit := absentZeroInt floorLimit }

/-- The tuning values of a room configuration clamped (R42). -/
def RoomConfig.clamped (c : RoomConfig) : RoomConfig :=
  { c with
    fallback := clampNat 0 1000 c.fallback
    floorLimit := c.floorLimit.map (clampInt 2000 3500) }

/-- A room address is 0 or within 0x08 to 0x5F (R42). -/
def validAddress (a : BitVec 7) : Bool := a = 0 || (0x08 ≤ a.toNat && a.toNat ≤ 0x5F)

/-- A probe configuration from the values of its fields (R22); none when the fitted field or the depth
names nothing (R36). -/
def ProbeConfig.ofFields (fitted : Nat) (offset : Int) (depth shift : Nat) : Option ProbeConfig := do
  let f ← yesNo fitted
  let d ← Depth.ofCode depth
  return { fitted := f, offset := offset, depth := d, shift := shift }

/-- The tuning values of a probe configuration clamped (R36). -/
def ProbeConfig.clamped (c : ProbeConfig) : ProbeConfig :=
  { c with offset := clampInt (-500) 500 c.offset, shift := clampNat 0 8 c.shift }

/-- The group 0 values clamped: P rounded down to a multiple of 60, then every field to its range
(R157). -/
def Timing.clamped (t : Timing) : Timing where
  period := clampNat 900 3600 (t.period / 60 * 60)
  limit := clampNat 1 16 t.limit
  spacing := clampNat 0 120 t.spacing
  tOpen := clampNat 30 600 t.tOpen
  tClose := clampNat 30 900 t.tClose
  margin := clampNat 0 600 t.margin
  eMin := clampNat 0 900 t.eMin
  minPulse := clampNat 60 900 t.minPulse
  tSettle := clampNat 0 1200 t.tSettle

/-- The flush time clamped (R157). -/
def clampFlushTime (n : Nat) : Nat := clampNat 60 7200 n

/-- The group 1 values clamped (R158). -/
def Group1.clamped (g : Group1) : Group1 where
  nMeas := clampNat 1 120 g.nMeas
  target := clampNat 200 1500 g.target
  gain := clampNat 0 1024 g.gain
  stepMax := clampNat 1 256 g.stepMax
  supplyBase := clampInt 2500 5000 g.supplyBase
  supplyMax := clampInt 2800 5500 g.supplyMax
  trip := clampInt 4000 6500 g.trip
  hysteresis := clampNat 100 1000 g.hysteresis

/-- The structural check of group 1: the clamped base is not above the clamped max (R158). -/
def Group1.admissible (g : Group1) : Bool := g.clamped.supplyBase ≤ g.clamped.supplyMax

/-- The group 2 values clamped (R159). -/
def Group2.clamped (g : Group2) : Group2 where
  pollInterval := clampNat 5 120 g.pollInterval
  lossThreshold := clampNat 1 16 g.lossThreshold
  holdTime := clampNat 60 7200 g.holdTime
  forwardTimeout := clampNat 50 2000 g.forwardTimeout
  holdLimit := clampNat 5 100 g.holdLimit

/-- The numeric values of group 3 clamped (R160). -/
def Group3.clamped (g : Group3) : Group3 :=
  { g with
    pumpHold := clampNat 0 900 g.pumpHold
    autosave := clampNat 0 255 g.autosave
    errorThreshold := clampNat 1 255 g.errorThreshold }

/-- Group 3 from the values of its fields; none when autorun, a source or a sense names nothing
(R160). -/
def Group3.ofFields (pumpHold autosave autorun srcA senseA srcB senseB threshold : Nat) :
    Option Group3 := do
  let a ← yesNo autorun
  let sa ← Source.ofCode srcA
  let ha ← senseOfCode senseA
  let sb ← Source.ofCode srcB
  let hb ← senseOfCode senseB
  return { pumpHold := pumpHold, autosave := autosave, autorun := a,
           lineA := { source := sa, senseHigh := ha }, lineB := { source := sb, senseHigh := hb },
           errorThreshold := threshold }

/-! ## Layouts of the writes (section 11.3) -/

/-- The configuration a WRITE_LOOP payload carries (offsets 1 to 12). -/
def loopPayload (p : List Byte) : Option LoopConfig :=
  LoopConfig.ofFields (byteAt p 1) (byteAt p 2) (wordAt p 3) (byteAt p 5) (wordAt p 6) (wordAt p 8)
    (byteAt p 10) (wordAt p 11)

/-- The K action of a WRITE_LOOP payload (offset 13): `true` is UNITY, `false` KEEP. -/
def kActionPayload (p : List Byte) : Option Bool := yesNo (byteAt p 13)

/-- The configuration a WRITE_ROOM payload carries. -/
def roomPayload (p : List Byte) : Option RoomConfig :=
  RoomConfig.ofFields (byteAt p 1) (byteAt p 2) (wordAt p 3) (signedAt p 5)

/-- The configuration a WRITE_PROBE payload carries. -/
def probePayload (p : List Byte) : Option ProbeConfig :=
  ProbeConfig.ofFields (byteAt p 1) (signedAt p 2) (byteAt p 4) (byteAt p 5)

/-- The latched values a group 0 payload carries. -/
def timingPayload (p : List Byte) : Timing where
  period := wordAt p 1
  limit := byteAt p 3
  spacing := byteAt p 4
  tOpen := wordAt p 5
  tClose := wordAt p 7
  margin := wordAt p 9
  eMin := wordAt p 11
  minPulse := wordAt p 13
  tSettle := wordAt p 15

/-- The flush time a group 0 payload carries. -/
def flushTimePayload (p : List Byte) : Nat := wordAt p 17

/-- The values a group 1 payload carries. -/
def group1Payload (p : List Byte) : Group1 where
  nMeas := byteAt p 1
  target := difference16 (wordAt p 2)
  gain := wordAt p 4
  stepMax := wordAt p 6
  supplyBase := signedAt p 8
  supplyMax := signedAt p 10
  trip := signedAt p 12
  hysteresis := difference16 (wordAt p 14)

/-- The values a group 2 payload carries. -/
def group2Payload (p : List Byte) : Group2 where
  pollInterval := byteAt p 1
  lossThreshold := byteAt p 2
  holdTime := wordAt p 3
  forwardTimeout := wordAt p 5
  holdLimit := byteAt p 7

/-- The values a group 3 payload carries. -/
def group3Payload (p : List Byte) : Option Group3 :=
  Group3.ofFields (wordAt p 1) (byteAt p 3) (byteAt p 4) (byteAt p 5) (byteAt p 6) (byteAt p 7)
    (byteAt p 8) (byteAt p 9)

/-! ## Layouts of the read-backs (R167, section 11.3) -/

/-- The READ_LOOP reply of a loop; the K action is sent as KEEP (R1). -/
def loopReadBack (i : LoopIx) (c : LoopConfig) : List Byte :=
  [byteOf (loopNumber i), yesNoByte c.enabled, byteOf (roomFieldCode c.room)]
    ++ wordBytes c.fixedDemand ++ [byteOf (c.length.getD 0)] ++ wordBytes c.kmin
    ++ wordBytes c.kmax ++ [byteOf c.policy.code] ++ wordBytes (c.target.getD 0) ++ [0]

/-- The READ_ROOM reply of a room. -/
def roomReadBack (r : RoomIx) (c : RoomConfig) : List Byte :=
  [byteOf (roomNumber r), byteOf c.address.toNat, byteOf c.proxy.code]
    ++ wordBytes c.fallback ++ signedBytes (c.floorLimit.getD 0)

/-- The READ_PROBE reply of a probe. -/
def probeReadBack (p : ProbeIx) (c : ProbeConfig) : List Byte :=
  [byteOf p.val, yesNoByte c.fitted] ++ signedBytes c.offset
    ++ [byteOf c.depth.code, byteOf c.shift]

/-- The READ_MANIFOLD reply of group 0. -/
def group0ReadBack (t : Timing) (flushTime : Nat) : List Byte :=
  [0] ++ wordBytes t.period ++ [byteOf t.limit, byteOf t.spacing] ++ wordBytes t.tOpen
    ++ wordBytes t.tClose ++ wordBytes t.margin ++ wordBytes t.eMin ++ wordBytes t.minPulse
    ++ wordBytes t.tSettle ++ wordBytes flushTime

/-- The READ_MANIFOLD reply of group 1. -/
def group1ReadBack (g : Group1) : List Byte :=
  [1, byteOf g.nMeas] ++ wordBytes g.target ++ wordBytes g.gain ++ wordBytes g.stepMax
    ++ signedBytes g.supplyBase ++ signedBytes g.supplyMax ++ signedBytes g.trip
    ++ wordBytes g.hysteresis

/-- The READ_MANIFOLD reply of group 2. -/
def group2ReadBack (g : Group2) : List Byte :=
  [2, byteOf g.pollInterval, byteOf g.lossThreshold] ++ wordBytes g.holdTime
    ++ wordBytes g.forwardTimeout ++ [byteOf g.holdLimit]

/-- The READ_MANIFOLD reply of group 3. -/
def group3ReadBack (g : Group3) : List Byte :=
  [3] ++ wordBytes g.pumpHold
    ++ [byteOf g.autosave, yesNoByte g.autorun, byteOf g.lineA.source.code,
        byteOf (senseCode g.lineA.senseHigh), byteOf g.lineB.source.code,
        byteOf (senseCode g.lineB.senseHigh), byteOf g.errorThreshold]

/-- One group of the manifold parameter table as written (R167). -/
def manifoldReadBack (g : Nat) (p : Params) : Option (List Byte) :=
  match g with
  | 0 => some (group0ReadBack p.timing p.flushTime)
  | 1 => some (group1ReadBack p.g1)
  | 2 => some (group2ReadBack p.g2)
  | 3 => some (group3ReadBack p.g3)
  | _ => none

/-! ## Layouts of the status replies (section 11.4) -/

/-- The payload of a REPORT reply (section 11.4): 8 bytes with a floor temperature, 6 without. -/
def reportBytes (r : Report) : List Byte :=
  signedBytes r.air ++ signedBytes r.setpoint ++ [byteOf r.demand]
    ++ match r.floor with
       | some z => [1] ++ signedBytes z
       | none => [0]

/-- The report a REPORT payload carries; none when the length does not agree with the floor-present
flag, of which only bit 0 is read (R45, R175). -/
def reportOf (p : List Byte) : Option Report :=
  let present := (p.getD 5 0).getLsbD 0
  if p.length = (if present then 8 else 6) then
    some { air := signedAt p 0, setpoint := signedAt p 2, demand := byteAt p 4,
           floor := if present then some (signedAt p 6) else none }
  else none

/-- The summary fault byte (section 11.4). -/
def faultByte (s : State) : Byte :=
  byteOf ((if anyProbeFailed s then 1 else 0) + (if anyChannelFault s then 2 else 0)
    + (if anyRoomLost s then 4 else 0) + (if s.store.defaulted then 8 else 0)
    + (if supplyUnmonitored s then 16 else 0))

/-- The MANIFOLD_STATUS reply (R164). -/
def manifoldStatusBytes (s : State) : List Byte :=
  [byteOf s.period.mode.code] ++ wordBytes s.period.time ++ wordBytes s.period.eff.period
    ++ [byteOf (energisedCount s), byteOf s.arb.queue.length, byteOf s.supply.pump.code,
        yesNoByte (heatCall s)]
    ++ signedBytes (supplyRequest s)
    ++ [faultByte s, yesNoByte (saving s), yesNoByte (toolGranted s),
        byteOf s.house.lastResult.code]
    ++ wordBytes s.house.errors

/-- The queue holds a loop entry for the loop, or a test entry for its channel (R125). -/
def queuedLoop (s : State) (i : LoopIx) : Bool :=
  s.arb.queue.any fun e => e = .loop i || e = .test i

/-- The LOOP_STATUS reply (R165). -/
def loopStatusBytes (s : State) (i : LoopIx) : List Byte :=
  let l := s.loops.get i
  let c := s.channels.get i
  [byteOf l.cls.code] ++ wordBytes l.onTime
    ++ [byteOf c.valve.code, byteOf c.condition.code, yesNoByte c.energised,
        yesNoByte (queuedLoop s i)]
    ++ wordBytes c.energisedSeconds ++ wordBytes l.n ++ wordBytes l.k

/-- The values of a cached report in ROOM_STATUS: 0 where absent (section 11.4). -/
def roomReportBytes (r : Option Report) : List Byte :=
  match r with
  | none => [0] ++ wordBytes 0 ++ wordBytes 0 ++ [0] ++ wordBytes 0
  | some v =>
    [byteOf (1 + if v.floor.isSome then 2 else 0)] ++ signedBytes v.air ++ signedBytes v.setpoint
      ++ [byteOf v.demand] ++ signedBytes (v.floor.getD 0)

/-- The ROOM_STATUS reply (R51, R166). -/
def roomStatusBytes (r : Room) : List Byte :=
  [byteOf r.cfg.address.toNat, byteOf r.cfg.proxy.code, byteOf r.freshness.code,
   byteOf r.floor.code]
    ++ wordBytes (derivedDemand r) ++ roomReportBytes r.report ++ [byteOf r.failures]
    ++ wordBytes r.age ++ [byteOf r.lastPoll.code]

/-- The PROBE_STATUS reply (R35, R166). -/
def probeStatusBytes (p : Probe) : List Byte :=
  [byteOf p.status.code] ++ optSignedBytes p.filtered ++ optSignedBytes p.sample
    ++ optWordBytes p.high ++ optWordBytes p.period
    ++ [byteOf p.errors, byteOf p.recovery, byteOf p.lastError.code]

/-- The PERIOD_SUMMARY reply of an entry (R82, R166). -/
def summaryBytes (e : SummaryEntry) : List Byte :=
  [byteOf e.planned.cls.code] ++ wordBytes e.planned.onTime ++ optWordBytes e.planned.grantTime
    ++ wordBytes e.energisedSeconds
    ++ [byteOf ((if e.planned.clipped then 1 else 0) + (if e.planned.missed then 2 else 0)
          + (if e.planned.closedEarly then 4 else 0) + (if e.shortened then 8 else 0))]
    ++ wordBytes e.n ++ optSignedBytes e.meanDrop ++ wordBytes e.kBefore ++ signedBytes e.step
    ++ wordBytes e.kAfter

end Sys2Proof.Machine
end

