-- ==== Sys2Proof/Machine/Ops.lean ====
section
/-! DEFINITION. The shared operations of the Channel Drivers, the Supply and Pump Logic's pump machine,
the Start Arbiter, early close, the channel test and the passing of time. -/

namespace Sys2Proof.Machine

/-! ## One record -/

/-- A channel energised by a grant (R7): its valve moves as the energise event of R15. -/
def Channel.energise (tOpen : Nat) (closeTime : Option Nat) (c : Channel) : Channel :=
  { c with
    energised := true
    closeTime := closeTime
    loadCheck := some Config.loadCheckDelay
    valve :=
      match c.valve with
      | .closed => .opening tOpen
      | .closing _ => .isOpen 0
      | .opening r => .opening r
      | .isOpen n => .isOpen n }

/-- The release event of R15. -/
def Valve.released (tClose : Nat) : Valve → Valve
  | .closed => .closed
  | .opening _ => .closed
  | .isOpen _ => .closing tClose
  | .closing r => .closing r

/-- A channel released (R8); a channel that is already released is left as it is. -/
def Channel.release (tClose : Nat) (c : Channel) : Channel :=
  if c.energised then
    { c with
      energised := false
      closeTime := none
      loadCheck := none
      valve := c.valve.released tClose }
  else c

/-- The pump request machine (R128), told the flow count before and after a change of the estimates
(R127). Under the overheat latch nothing moves it (R134). -/
def pumpMove (before after pumpHold : Nat) (p : Supply) : Supply :=
  if p.latch then p
  else if before = 0 ∧ 0 < after then { p with pump := .on, holdTimer := none }
  else if 0 < before ∧ after = 0 then
    match p.pump with
    | .on =>
      if pumpHold = 0 then { p with pump := .off, holdTimer := none }
      else { p with pump := .hold, holdTimer := some pumpHold }
    | .off | .hold => p
  else p

/-! ## Channels and the pump request -/

/-- The channels replaced; every change of estimate reaches the pump request machine (R15, R127). -/
def putChannels (cs : Bank Channel 16) (s : State) : State :=
  (s.setChannels cs).setSupply
    (pumpMove (flowCount s.channels) (flowCount cs) s.params.g3.pumpHold s.supply)

/-- One channel replaced. -/
def putChannel (i : LoopIx) (c : Channel) (s : State) : State := putChannels (s.channels.set i c) s

/-- The selected channels released (R8). A test active on a channel this releases ends (R20). The
grant opportunity is taken separately, by `releaseAndOffer`. -/
def releaseWhere (sel : LoopIx → Bool) (s : State) : State :=
  let t := putChannels (s.channels.imap fun i c =>
    if sel i then c.release s.period.eff.tClose else c) s
  match s.test with
  | .active i _ _ => if sel i && (s.channels.get i).energised then t.setTest .idle else t
  | .idle | .queued _ _ => t

/-- Some selected channel is energised: releasing it is reported to the arbiter (R8). -/
def anyEnergised (sel : LoopIx → Bool) (s : State) : Bool :=
  allLoops.any fun i => sel i && (s.channels.get i).energised

/-! ## Start Arbiter -/

/-- The start queue replaced. -/
def setQueue (q : List QueueEntry) (s : State) : State := s.setArb { s.arb with queue := q }

/-- The start plan replaced. -/
def setPlan (p : List PlanEntry) (s : State) : State := s.setArb { s.arb with plan := p }

/-- One loop's current-period record changed, where there is one. -/
def updateRecord (i : LoopIx) (f : PeriodRecord → PeriodRecord) (s : State) : State :=
  s.setPeriod { s.period with records := s.period.records.map fun b => b.set i (f (b.get i)) }

/-- The loops' current-period records changed, where there are any. -/
def updateRecords (f : LoopIx → PeriodRecord → PeriodRecord) (s : State) : State :=
  s.setPeriod { s.period with records := s.period.records.map fun b => b.imap f }

/-- The selected loops' entries taken out of the start queue and the start plan (R111, R114). -/
def dropLoops (sel : LoopIx → Bool) (s : State) : State :=
  s.setArb { s.arb with
    plan := s.arb.plan.filter fun e => !sel e.loop
    queue := s.arb.queue.filter fun e =>
      match e with
      | .loop i => !sel i
      | .test _ => true }

/-- Every entry of the queue and the plan taken out, without marks (R66, R124, R126). -/
def clearStarts (s : State) : State := s.setArb { s.arb with plan := [], queue := [] }

/-- The three conditions of R115. -/
def grantReady (s : State) : Bool :=
  !s.arb.queue.isEmpty && decide (energisedCount s < s.period.eff.limit)
    && s.arb.sinceGrant.all fun t => s.period.eff.spacing ≤ t

/-- The close time a grant at this period time carries (R119), and whether the cap changed it. -/
def grantClose (s : State) (l : Loop) : Option Nat × Bool :=
  match l.cls with
  | .pulse =>
    (some (min (s.period.time + l.onTime) s.period.eff.period),
      decide (s.period.eff.period < s.period.time + l.onTime))
  | .continuous | .off => (none, false)

/-- The head of the queue granted (R118, R7). -/
def grantHead (s : State) : State :=
  match s.arb.queue with
  | [] => s
  | .loop i :: q =>
    let (close, clipped) := grantClose s (s.loops.get i)
    let t := s.setArb { s.arb with queue := q, sinceGrant := some 0 }
    let u := putChannel i ((s.channels.get i).energise s.period.eff.tOpen close) t
    updateRecord i (fun r => { r with grantTime := some s.period.time, clipped := clipped }) u
  | .test i :: q =>
    let t := s.setArb { s.arb with queue := q, sinceGrant := some 0 }
    let u := putChannel i ((s.channels.get i).energise s.period.eff.tOpen none) t
    match s.test with
    | .queued j d => u.setTest (.active j d d)
    | .idle | .active _ _ _ => u

/-- Heads granted while the conditions hold, at most `n` of them. -/
def grantsUpTo : Nat → State → State
  | 0, s => s
  | n + 1, s => if grantReady s then grantsUpTo n (grantHead s) else s

/-- A grant opportunity (R116): one head when s is above 0, and head after head when s is 0. -/
def opportunity (s : State) : State :=
  grantsUpTo (if s.period.eff.spacing = 0 then s.arb.queue.length else 1) s

/-- The selected channels released, which is a grant opportunity if one of them was energised (R8,
R116; several at once: log 11). -/
def releaseAndOffer (sel : LoopIx → Bool) (s : State) : State :=
  if anyEnergised sel s then opportunity (releaseWhere sel s) else s

/-! ## Channel test, disable, early close -/

/-- A channel test ended before its duration (R20). -/
def endTest (s : State) : State :=
  match s.test with
  | .idle => s
  | .queued _ _ =>
    (setQueue (s.arb.queue.filter fun e =>
      match e with
      | .loop _ => true
      | .test _ => false) s).setTest .idle
  | .active i _ _ => (releaseWhere (fun j => j = i) s).setTest .idle

/-- The channel test, if it is on this loop, ended. -/
def endTestOn (i : LoopIx) (s : State) : State :=
  match s.test with
  | .idle => s
  | .queued j _ => if j = i then endTest s else s
  | .active j _ _ => if j = i then endTest s else s

/-- The selected loops' class OFF and on-time 0. -/
def classOff (sel : LoopIx → Bool) (s : State) : State :=
  s.setLoops (s.loops.imap fun i l => if sel i then { l with cls := .off, onTime := 0 } else l)

/-- The selected loops out of the queue and plan, OFF, their channels released, the release a grant
opportunity (R80, R4). -/
def closeLoops (sel : LoopIx → Bool) (s : State) : State :=
  releaseAndOffer sel (classOff sel (dropLoops sel s))

/-- A loop marked closed early in its current-period record. -/
def markClosed (sel : LoopIx → Bool) (s : State) : State :=
  updateRecords (fun i r => if sel i then { r with closedEarly := true } else r) s

/-- The loop is closed early by a demand drop of the selected rooms (R80): it is enabled, its class is
not OFF, and its room is one of them. -/
def droppedLoop (rooms : RoomIx → Bool) (s : State) (i : LoopIx) : Bool :=
  let l := s.loops.get i
  l.cfg.enabled && l.cls ≠ .off && l.cfg.room.any rooms

/-- Demand drops reported for the selected rooms (R50). In RUNNING their loops close early (R80); in
every other mode the reports are discarded. -/
def demandDrop (rooms : RoomIx → Bool) (s : State) : State :=
  if s.period.mode = .running then
    closeLoops (droppedLoop rooms s) (markClosed (droppedLoop rooms s) s)
  else s

/-- The room's demand-drop report waits for the boundary: it is made in RUNNING while a regular boundary
is due, and which of the two is first is free (R78, log 34). -/
def dropWaits (s : State) (r : RoomIx) : Bool :=
  s.period.mode = .running && boundaryDue s && Config.dropAfterBoundary s.draws r

/-- Demand-drop reports kept for the boundary that is due, each room once. -/
def holdDrops (rooms : RoomIx → Bool) (s : State) : State :=
  s.setPeriod { s.period with
    drops := s.period.drops ++ allRooms.filter fun r => rooms r && !s.period.drops.contains r }

/-- One of these reports meets a boundary that is due: their order is drawn (R78, log 34). -/
def drawsOrder (rooms : RoomIx → Bool) (s : State) : Bool :=
  s.period.mode = .running && boundaryDue s && allRooms.any rooms

/-- Demand drops reported to the Period Engine (R50): taken at once, but for those that a boundary due at
this instant is taken before (R78); a free value that is used is used once. -/
def reportDrops (rooms : RoomIx → Bool) (s : State) : State :=
  let t := demandDrop (fun r => rooms r && !dropWaits s r)
    (holdDrops (fun r => rooms r && dropWaits s r) s)
  if drawsOrder rooms s then t.setDraws (s.draws + 1) else t

/-- A loop disabled (R4): its test ended, its entries removed, its class OFF, its channel released; in
RUNNING its record is marked closed early (R80). -/
def disableLoop (i : LoopIx) (s : State) : State :=
  let t := if s.period.mode = .running then markClosed (fun j => j = i) s else s
  closeLoops (fun j => j = i) (endTestOn i t)

/-- A channel that has become ABSENT or TRIPPED: the condition is written, its loop leaves the queue
and plan, and the channel releases itself (R11, R12, R13). -/
def faultChannel (i : LoopIx) (c : Condition) (s : State) : State :=
  releaseAndOffer (fun j => j = i)
    (dropLoops (fun j => j = i)
      (s.setChannels (s.channels.set i { s.channels.get i with condition := c })))

/-! ## Room table -/

/-- Rooms changed; every room whose derived demand falls from above 0 to 0 reports a demand drop
(R50). -/
def changeRooms (f : RoomIx → Room → Room) (s : State) : State :=
  let t := s.setRooms (s.rooms.imap f)
  reportDrops (fun r =>
    0 < derivedDemand (s.rooms.get r) && derivedDemand (t.rooms.get r) = 0) t

/-- One room changed, with its report of a demand drop (R50). -/
def changeRoom (r : RoomIx) (f : Room → Room) (s : State) : State :=
  changeRooms (fun q v => if q = r then f v else v) s

/-- A FRESH or AGED room whose age is above the hold time is LOST (R47). -/
def Room.aged (holdTime : Nat) (r : Room) : Room :=
  match r.freshness with
  | .fresh | .aged => if holdTime < r.age then { r with freshness := .lost } else r
  | .none | .lost => r

/-- Every room whose age is above the hold time of the table becomes LOST (R47), with its report of a demand
drop (R50; log 24). -/
def expireAges (s : State) : State := changeRooms (fun _ => Room.aged s.params.g2.holdTime) s

/-- The floor state after a good report (R48). -/
def floorAfter (limit : Option Int) (floor : Option Int) : FloorState → FloorState
  | .normal =>
    match limit, floor with
    | some l, some z => if l ≤ z then .limited else .normal
    | _, _ => .normal
  | .limited =>
    match floor with
    | none => .normal
    | some z =>
      match limit with
      | some l => if z < l - Config.floorHysteresis then .normal else .limited
      | none => .normal

/-- A good poll (R45). -/
def Room.goodPoll (rep : Report) (r : Room) : Room :=
  { r with
    report := some rep
    freshness := .fresh
    failures := 0
    age := 0
    lastPoll := .answered
    floor := floorAfter r.cfg.floorLimit rep.floor r.floor }

/-- A failed poll (R46). -/
def Room.failedPoll (o : PollOutcome) (lossThreshold : Nat) (r : Room) : Room :=
  let n := saturate 255 r.failures 1
  { r with
    lastPoll := o
    failures := n
    freshness :=
      if lossThreshold ≤ n then .lost
      else
        match r.freshness with
        | .none => .none
        | .fresh | .aged => .aged
        | .lost => .lost }

/-! ## Time -/

/-- A valve estimate after `k` seconds (R16); a countdown stops at 0, where its transition is due. -/
def Valve.elapse (k : Nat) : Valve → Valve
  | .closed => .closed
  | .opening r => .opening (r - k)
  | .isOpen n => .isOpen (saturate Config.count16 n k)
  | .closing r => .closing (r - k)

/-- A channel after `k` seconds, of which `d` were seconds of period time (R10, R11, R16). -/
def Channel.elapse (k d : Nat) (c : Channel) : Channel :=
  { c with
    energisedSeconds := if c.energised then c.energisedSeconds + d else c.energisedSeconds
    loadCheck := c.loadCheck.map (· - k)
    valve := c.valve.elapse k }

/-- A room after `k` seconds: its age rises while it holds a report (R47). -/
def Room.elapse (k : Nat) (r : Room) : Room :=
  if r.report.isSome then { r with age := saturate Config.count16 r.age k } else r

/-- The channel test after `k` seconds (R19). -/
def ChannelTest.elapse (k : Nat) : ChannelTest → ChannelTest
  | .idle => .idle
  | .queued i d => .queued i d
  | .active i d r => .active i d (r - k)

/-- The seconds of period time among `k` seconds: none in STOPPED, and none beyond P (R68). -/
def periodSeconds (k : Nat) (p : PeriodEngine) : Nat :=
  if p.mode.runs then min k (p.eff.period - p.time) else 0

/-- The period time at which the flush timer has run out, after `k` seconds: that of the second in which it
comes to 0 (R79, log 35). -/
def PeriodEngine.ranOut (k : Nat) (p : PeriodEngine) : Option Nat :=
  match p.flushTimer with
  | some x => if 0 < x ∧ x ≤ k then some (p.time + periodSeconds x p) else p.flushRanOut
  | none => p.flushRanOut

/-- The Period Engine after `k` seconds (R68, R79). -/
def PeriodEngine.elapse (k : Nat) (p : PeriodEngine) : PeriodEngine :=
  { p with
    time := p.time + periodSeconds k p
    flushTimer := p.flushTimer.map (· - k)
    flushRanOut := p.ranOut k }

/-- `k` seconds pass: every count and countdown in seconds moves, and nothing else happens. What falls
due in them is a command of its own (log 2). -/
def elapseSeconds (k : Nat) (s : State) : State :=
  ((((((s.setChannels (s.channels.imap fun _ c => c.elapse k (periodSeconds k s.period))).setRooms
      (s.rooms.imap fun _ r => r.elapse k)).setTest (s.test.elapse k)).setPeriod
      (s.period.elapse k)).setSeg { s.seg with pollTimer := s.seg.pollTimer - k }).setArb
      { s.arb with sinceGrant := s.arb.sinceGrant.map fun t => saturate Config.count16 t k }).setSupply
      { s.supply with holdTimer := s.supply.holdTimer.map (· - k) }
    |> fun t => t.setStore { s.store with saveLeft := s.store.saveLeft - k }

/-- `n` milliseconds pass: the forward timeout counts them (R150), and the seconds they complete pass
for every other count. -/
def elapseMs (n : Nat) (s : State) : State :=
  ((elapseSeconds ((s.msPhase + n) / 1000) s).setMsPhase ((s.msPhase + n) % 1000)).setHouse
    { s.house with timeout := s.house.timeout.map (· - n) }

/-- `k` whole seconds pass. -/
def elapse (k : Nat) (s : State) : State := elapseMs (1000 * k) s

/-- A timer event: the time before it passes, and the event `f` is taken if it is due (log 2). -/
def timed (after : Nat) (due : State → Bool) (f : State → State) (s : State) : State :=
  let t := elapse after s
  if due t then f t else t

end Sys2Proof.Machine
end

