-- ==== Sys2Proof/Machine/Balance.lean ====
section
/-! DEFINITION. The Balancing Calculator's arithmetic (chapter 5): mean drop, step, balance factor,
duty, effective time, class, on-time, seeding, and the supply bias of chapter 7. -/

namespace Sys2Proof.Machine

/-- The mean drop (R87): Σ / n truncated toward zero when n is at least N_meas, absent otherwise. -/
def meanDrop (nMeas : Nat) (sigma : Int) (n : Nat) : Option Int :=
  if nMeas ≤ n then some (sigma.tdiv n) else none

/-- The relative error of a mean drop against a target (R89), in units of 1/1024. -/
def relativeError (m : Int) (target : Nat) : Int := ((m - target) * 1024).tdiv target

/-- The step before the wind-up hold (R90). -/
def limitedStep (rel : Int) (gain stepMax : Nat) : Int :=
  clampInt (-(stepMax : Int)) stepMax ((rel * gain).tdiv 1024)

/-- The wind-up hold (R91): a positive step of a loop that was CONTINUOUS becomes 0. -/
def windUpHold (ended : LoopClass) (step : Int) : Int :=
  if 0 < step ∧ ended = .continuous then 0 else step

/-- The new balance factor (R92). -/
def newFactor (c : LoopConfig) (k : Nat) (step : Int) : Nat :=
  (clampInt c.kmin c.kmax ((k : Int) + ((k : Int) * step).tdiv 1024)).toNat

/-- The duty (R95). -/
def duty (demand k : Nat) : Nat := min (demand * k / 1024) 1000

/-- The effective time (R96). -/
def effectiveTime (period u : Nat) : Nat := (u * period + 500) / 1000

/-- The on-time of a PULSE loop (R99). -/
def pulseOnTime (t : Timing) (eff : Nat) : Nat :=
  (min (max ((eff : Int) + t.tOpen - t.tClose) t.minPulse) t.period).toNat

/-- The class and on-time of a loop that takes part (R97, R98, R99, R100). -/
def classify (t : Timing) (policy : Policy) (u : Nat) : LoopClass × Nat :=
  let e := effectiveTime t.period u
  if u = 1000 ∨ t.period ≤ e + t.margin then (.continuous, t.period)
  else if e = 0 then (.off, 0)
  else if e < t.eMin then
    match policy with
    | .suppress => (.off, 0)
    | .raise =>
      if t.period ≤ t.eMin + t.margin then (.continuous, t.period)
      else (.pulse, pulseOnTime t t.eMin)
  else (.pulse, pulseOnTime t e)

/-- What the pass holds of a loop from stage 4 to stage 5 (R105): whether it took part, the demand it
read, the factor it set, and the step it applied. -/
structure Held where
  part : Bool
  demand : Nat
  k : Nat
  step : Int
deriving DecidableEq, Repr

/-- The variants of the pass (R73). -/
inductive Variant where
  | full
  | forced
  | flush
  | noPass
deriving DecidableEq, Repr

/-- The step a full pass applies to a loop that takes part (R87 to R91); 0 for an unmeasured loop. -/
def stepOf (g : Group1) (l : Loop) (ended : LoopClass) : Int :=
  match meanDrop g.nMeas l.sigma l.n with
  | none => 0
  | some m =>
    windUpHold ended (limitedStep (relativeError m (l.cfg.target.getD g.target)) g.gain g.stepMax)

/-- The factor a full pass gives a loop that takes part (R92); an unmeasured loop keeps its K. -/
def factorOf (g : Group1) (l : Loop) (ended : LoopClass) : Nat :=
  if (meanDrop g.nMeas l.sigma l.n).isSome then newFactor l.cfg l.k (stepOf g l ended) else l.k

/-- The class in the period just ended, read from the summary entry recorded at stage 3 (R83, R91). -/
def endedClass (s : State) (i : LoopIx) : LoopClass :=
  s.period.summary.elim (s.loops.get i).cls fun b => (b.get i).planned.cls

/-- Steps 1 to 7 of a pass for one loop (R85, R86, R102 to R104). -/
def hold (v : Variant) (s : State) (i : LoopIx) : Held :=
  let l := s.loops.get i
  let part := takesPart s i
  if v = .full ∧ part then
    { part := part, demand := loopDemand s i, k := factorOf s.params.g1 l (endedClass s i),
      step := stepOf s.params.g1 l (endedClass s i) }
  else { part := part, demand := loopDemand s i, k := l.k, step := 0 }

/-- The class and on-time a variant gives a loop, with the timing values `t` (R97 to R104). -/
def planned (v : Variant) (t : Timing) (policy : Policy) (h : Held) : LoopClass × Nat :=
  match v with
  | .full | .forced => if h.part then classify t policy (duty h.demand h.k) else (.off, 0)
  | .flush => if h.part then (.continuous, t.period) else (.off, 0)
  | .noPass => (.off, 0)

/-- The classes and on-times written into the loop records (R100). -/
def writeClasses (v : Variant) (t : Timing) (held : Bank Held 16) (s : State) : State :=
  s.setLoops (s.loops.imap fun i l =>
    let p := planned v t l.cfg.policy (held.get i)
    { l with cls := p.1, onTime := p.2 })

/-- The factors written into the loop records (R92). -/
def writeFactors (held : Bank Held 16) (s : State) : State :=
  s.setLoops (s.loops.imap fun i l => { l with k := (held.get i).k })

/-- The pass fields written into the summary entries recorded at stage 3 (R101). -/
def writeSteps (held : Bank Held 16) (s : State) : State :=
  s.setPeriod { s.period with
    summary := s.period.summary.map fun b => b.imap fun i e =>
      { e with step := (held.get i).step, kAfter := (held.get i).k } }

/-- The room is starved (R131). -/
def starved (s : State) (r : RoomIx) : Bool :=
  let room := s.rooms.get r
  let mine := allLoops.filter fun i => loopOfRoom s r i && takesPart s i
  decide (room.freshness = .fresh) && decide (derivedDemand room = 1000) && !mine.isEmpty
    && mine.all (fun i => (s.loops.get i).cls = .continuous)
    && room.report.any fun rep => rep.air ≤ rep.setpoint - Config.starvationMargin

/-- The room for the supply bias: supply max minus supply base (R131, R132). -/
def biasRoom (g : Group1) : Nat := (g.supplyMax - g.supplyBase).toNat

/-- The supply bias recomputed at stage 4 of a boundary whose new mode is RUNNING (R131). -/
def updateBias (s : State) : State :=
  let b := s.supply.bias
  let b' :=
    if allRooms.any (starved s) then min (b + Config.biasStep) (biasRoom s.params.g1)
    else if allLoops.all fun i => (s.loops.get i).cls ≠ .continuous then b - Config.biasStep
    else b
  s.setSupply { s.supply with bias := b' }

/-- The loops SEED acts on (R106): enabled, with a length. -/
def seededLength (c : LoopConfig) : Option Nat := if c.enabled then c.length else none

/-- The lengths of the seeded loops (R106). -/
def seededLengths (s : State) : List Nat :=
  allLoops.filterMap fun i => seededLength (s.loops.get i).cfg

/-- The seeded K of a loop (R106), `count` seeded loops of `total` metres. -/
def seededFactor (count total : Nat) (l : Loop) : Nat :=
  match seededLength l.cfg with
  | none => l.k
  | some m => l.cfg.bound (1024 * m * count / total)

end Sys2Proof.Machine
end

