-- ==== Sys2Proof/Machine/Store.lean ====
section
/-! DEFINITION. The Settings Store (chapter 10): the words of the image, loading, saving, autosave. -/

namespace Sys2Proof.Machine

/-- What an image holds (R168): the configuration of the part and the learned factors. -/
structure Tables where
  loops : Bank (LoopConfig × Nat) 16
  rooms : Bank RoomConfig 12
  probes : Bank ProbeConfig 17
  params : Params
deriving DecidableEq, Repr

/-- The factory values (R168). -/
def Tables.factory : Tables where
  loops := Bank.fill 16 (Loop.factory.cfg, Loop.factory.k)
  rooms := Bank.fill 12 RoomConfig.factory
  probes := Bank.fill 17 ProbeConfig.factory
  params := Params.factory

/-- The tables as they stand (R171). -/
def tablesOf (s : State) : Tables where
  loops := s.loops.imap fun _ l => (l.cfg, l.k)
  rooms := s.rooms.imap fun _ r => r.cfg
  probes := s.probes.imap fun _ p => p.cfg
  params := s.params

/-- One word of the image from an unsigned value. -/
def word (n : Nat) : Word16 := BitVec.ofNat 16 n

/-- One word of the image from a signed value. -/
def signedWord (z : Int) : Word16 := BitVec.ofInt 16 z

/-- A loop's words (R168). -/
def loopWords (c : LoopConfig) (k : Nat) : LoopWords where
  enabled := word c.enabled.toNat
  room := word (roomFieldCode c.room)
  fixedDemand := word c.fixedDemand
  length := word (c.length.getD 0)
  kmin := word c.kmin
  kmax := word c.kmax
  policy := word c.policy.code
  target := word (c.target.getD 0)
  k := word k

/-- A room's words (R168). -/
def roomWords (c : RoomConfig) : RoomWords where
  address := word c.address.toNat
  proxy := word c.proxy.code
  fallback := word c.fallback
  floorLimit := signedWord (c.floorLimit.getD 0)

/-- A probe's words (R168). -/
def probeWords (c : ProbeConfig) : ProbeWords where
  fitted := word c.fitted.toNat
  offset := signedWord c.offset
  depth := word c.depth.code
  shift := word c.shift

/-- The words of the parameter table, group by group in the order of R156. -/
def paramWords (p : Params) : ParamWords where
  g0 :=
    ⟨[word p.timing.period, word p.timing.limit, word p.timing.spacing, word p.timing.tOpen,
      word p.timing.tClose, word p.timing.margin, word p.timing.eMin, word p.timing.minPulse,
      word p.timing.tSettle, word p.flushTime], rfl⟩
  g1 :=
    ⟨[word p.g1.nMeas, word p.g1.target, word p.g1.gain, word p.g1.stepMax,
      signedWord p.g1.supplyBase, signedWord p.g1.supplyMax, signedWord p.g1.trip,
      word p.g1.hysteresis], rfl⟩
  g2 :=
    ⟨[word p.g2.pollInterval, word p.g2.lossThreshold, word p.g2.holdTime,
      word p.g2.forwardTimeout, word p.g2.holdLimit], rfl⟩
  g3 :=
    ⟨[word p.g3.pumpHold, word p.g3.autosave, word p.g3.autorun.toNat,
      word p.g3.lineA.source.code, word (senseCode p.g3.lineA.senseHigh),
      word p.g3.lineB.source.code, word (senseCode p.g3.lineB.senseHigh),
      word p.g3.errorThreshold], rfl⟩

/-- The words an image of these tables holds (R168). -/
def imageBody (t : Tables) : ImageBody where
  loops := t.loops.imap fun _ c => loopWords c.1 c.2
  rooms := t.rooms.imap fun _ c => roomWords c
  probes := t.probes.imap fun _ c => probeWords c
  params := paramWords t.params

/-- Every word of an image but the check word, in the order of R168 (log 18). -/
def ImageBody.words (b : ImageBody) : List Word16 :=
  (b.loops.toList.flatMap fun l =>
      [l.enabled, l.room, l.fixedDemand, l.length, l.kmin, l.kmax, l.policy, l.target, l.k])
    ++ (b.rooms.toList.flatMap fun r => [r.address, r.proxy, r.fallback, r.floorLimit])
    ++ (b.probes.toList.flatMap fun p => [p.fitted, p.offset, p.depth, p.shift])
    ++ b.params.g0.toList ++ b.params.g1.toList ++ b.params.g2.toList ++ b.params.g3.toList

/-- The 16-bit sum of words (R168). -/
def sum16 (ws : List Word16) : Word16 := ws.foldr (· + ·) 0

/-- The check word of an image (R168). -/
def ImageBody.checkWord (b : ImageBody) : Word16 := -(sum16 b.words)

/-- The image passes its check (R169). -/
def ImageBody.checks (b : ImageBody) (check : Option Word16) : Bool :=
  match check with
  | none => false
  | some c => sum16 b.words + c = 0

/-! ## Structural test and installation (R169) -/

/-- A loop's configuration from its words, its numbers as stored. -/
def LoopWords.config (w : LoopWords) : Option LoopConfig :=
  LoopConfig.ofFields w.enabled.toNat w.room.toNat w.fixedDemand.toNat w.length.toNat
    w.kmin.toNat w.kmax.toNat w.policy.toNat w.target.toNat

/-- A room's configuration from its words. -/
def RoomWords.config (w : RoomWords) : Option RoomConfig :=
  RoomConfig.ofFields w.address.toNat w.proxy.toNat w.fallback.toNat w.floorLimit.toInt

/-- A probe's configuration from its words. -/
def ProbeWords.config (w : ProbeWords) : Option ProbeConfig :=
  ProbeConfig.ofFields w.fitted.toNat w.offset.toInt w.depth.toNat w.shift.toNat

/-- The parameter table from its words, its numbers as stored. -/
def ParamWords.params (w : ParamWords) : Option Params :=
  let u (b : Bank Word16 10) (i : Fin 10) := (b.get i).toNat
  let v (i : Fin 8) := (w.g1.get i).toNat
  let x (i : Fin 5) := (w.g2.get i).toNat
  let y (i : Fin 8) := (w.g3.get i).toNat
  (Group3.ofFields (y 0) (y 1) (y 2) (y 3) (y 4) (y 5) (y 6) (y 7)).map fun g3 =>
    { timing :=
        { period := u w.g0 0, limit := u w.g0 1, spacing := u w.g0 2, tOpen := u w.g0 3,
          tClose := u w.g0 4, margin := u w.g0 5, eMin := u w.g0 6, minPulse := u w.g0 7,
          tSettle := u w.g0 8 }
      flushTime := u w.g0 9
      g1 :=
        { nMeas := v 0, target := difference16 (v 1), gain := v 2, stepMax := v 3,
          supplyBase := (w.g1.get 4).toInt, supplyMax := (w.g1.get 5).toInt,
          trip := (w.g1.get 6).toInt, hysteresis := difference16 (v 7) }
      g2 :=
        { pollInterval := x 0, lossThreshold := x 1, holdTime := x 2, forwardTimeout := x 3,
          holdLimit := x 4 }
      g3 := g3 }

/-- The numeric values of the whole table clamped (R157 to R160). -/
def Params.clamped (p : Params) : Params where
  timing := p.timing.clamped
  flushTime := clampFlushTime p.flushTime
  g1 := p.g1.clamped
  g2 := p.g2.clamped
  g3 := p.g3.clamped

/-- Every record of a bank, if each of them is present. -/
def bankSome {α : Type} {n : Nat} (b : Bank (Option α) n) : Option (Bank α n) :=
  if h : ∀ i, (b.get i).isSome then some (Bank.ofFn fun i => (b.get i).get (h i)) else none

/-- Room addresses valid and, where not 0, distinct (R42). -/
def addressesSound (rooms : Bank RoomConfig 12) : Bool :=
  allRooms.all fun r => validAddress (rooms.get r).address
    && allRooms.all fun q =>
      q = r || (rooms.get r).address = 0 || (rooms.get q).address ≠ (rooms.get r).address

/-- The structural test of R169 on tables whose enumerations are sound. -/
def Tables.admissible (t : Tables) : Bool :=
  addressesSound t.rooms
    && (allLoops.all fun i => (t.loops.get i).1.admissible fun r => (t.rooms.get r).inUse)
    && t.params.g1.admissible

/-- The tables with each numeric field clamped, and each K clamped to its loop's bounds (R169). -/
def Tables.clamped (t : Tables) : Tables where
  loops := t.loops.imap fun _ c => (c.1.clamped, c.1.clamped.bound c.2)
  rooms := t.rooms.imap fun _ c => c.clamped
  probes := t.probes.imap fun _ c => c.clamped
  params := t.params.clamped

/-- The tables an image body gives, when it passes the structural test (R169). -/
def ImageBody.tables (b : ImageBody) : Option Tables := do
  let ls ← bankSome (b.loops.imap fun _ w => w.config.map fun c => (c, w.k.toNat))
  let rs ← bankSome (b.rooms.imap fun _ w => w.config)
  let ps ← bankSome (b.probes.imap fun _ w => w.config)
  let g ← b.params.params
  let t : Tables := { loops := ls, rooms := rs, probes := ps, params := g }
  if t.admissible then some t.clamped else none

/-- What a load of the image gives (R169): its tables, or none on failure (blank, check, structure). -/
def Image.load : Image → Option Tables
  | .blank => none
  | .written b check => if b.checks check then b.tables else none

/-- Tables installed in every record; runtime fields stay (R169). -/
def installTables (t : Tables) (s : State) : State :=
  (((s.setLoops (s.loops.imap fun i l =>
        { l with cfg := (t.loops.get i).1, k := (t.loops.get i).2 })).setRooms
      (s.rooms.imap fun i r => { r with cfg := t.rooms.get i })).setProbes
      (s.probes.imap fun i p => { p with cfg := t.probes.get i })).setParams t.params

/-- The image loaded (R169): on failure the factory values and the store-defaulted flag. -/
def loadImage (s : State) : State :=
  match s.store.image.load with
  | some t => (installTables t s).setStore { s.store with defaulted := false }
  | none => (installTables Tables.factory s).setStore { s.store with defaulted := true }

/-! ## Saving (R171 to R173) -/

/-- The image with its check word made invalid (R171); a blank store that is being written is blank no
more. -/
def Image.invalidated (snapshot : ImageBody) : Image → Image
  | .blank => .written snapshot none
  | .written b _ => .written b none

/-- A save begins (R171). -/
def beginSave (s : State) : State :=
  let snap := imageBody (tablesOf s)
  s.setStore { s.store with
    image := s.store.image.invalidated snap
    snapshot := some snap
    saveLeft := Config.saveBound
    autosave := 0 }

/-- A save completes (R171). -/
def completeSave (s : State) : State :=
  match s.store.snapshot with
  | none => s
  | some b =>
    s.setStore { s.store with
      image := .written b (some b.checkWord)
      snapshot := none
      saveLeft := 0
      defaulted := false }

/-- A save cut short by power loss or the reset input (R172): the image is left failing its check. -/
def cutSave (s : State) : State := s.setStore { s.store with snapshot := none, saveLeft := 0 }

/-- A completed full pass reported to the store (R173). -/
def passReport (s : State) : State :=
  let interval := s.params.g3.autosave
  if interval = 0 then s.setStore { s.store with autosave := 0 }
  else
    let n := if s.store.autosave = interval then interval else s.store.autosave + 1
    let t := s.setStore { s.store with autosave := n }
    if n = interval ∧ ¬ saving s then beginSave t else t

end Sys2Proof.Machine
end

