-- ==== Sys2Proof/Machine/Period.lean ====
section
/-! DEFINITION. The Period Engine (chapter 4): ticks, the boundary stage by stage, flush, overheat, and
the mode changes; with the Start Arbiter's part of the boundary (chapter 6). -/

namespace Sys2Proof.Machine

/-! ## Mode and lockout -/

/-- The mode replaced. -/
def setMode (m : Mode) (s : State) : State := s.setPeriod { s.period with mode := m }

/-- The flush timer stopped (R79). -/
def stopFlush (s : State) : State :=
  s.setPeriod { s.period with flushTimer := none, flushDue := false, flushRanOut := none }

/-- The flush timer started with the flush time now in the table (R65, R79). -/
def startFlush (s : State) : State :=
  s.setPeriod { s.period with
    flushTimer := some s.params.flushTime, flushDue := false, flushRanOut := none }

/-- The lockout ends as the mode leaves OVERHEAT (R135). -/
def endLockout (s : State) : State :=
  s.setSupply { s.supply with
    latch := false
    exitFlag := false
    pump := if 0 < flowCount s.channels then .on else .off
    holdTimer := none }

/-- Overheat detected (R67, R133): the mode becomes OVERHEAT, a flush is abandoned, and the lockout of
R134 is taken. -/
def detectOverheat (s : State) : State :=
  let t := releaseWhere (fun _ => true) (clearStarts (stopFlush (setMode .overheat s)))
  t.setSupply { t.supply with pump := .off, holdTimer := none, latch := true, exitFlag := false }

/-! ## Ticks (R69) -/

/-- The estimate is OPEN and its open-since at least the settle time (R69). -/
def Valve.settled (tSettle : Nat) : Valve → Bool
  | .isOpen since => tSettle ≤ since
  | .closed | .opening _ | .closing _ => false

/-- The drop a loop adds at a tick: none when it does not count (R69). -/
def tickDrop (s : State) (i : LoopIx) : Option Int :=
  if (s.loops.get i).cfg.enabled && (s.channels.get i).valve.settled s.period.eff.tSettle then
    match usableValue s supplyProbe, usableValue s (returnProbe i) with
    | some f0, some f => some (f0 - f)
    | _, _ => none
  else none

/-- The loops' drops of a tick accumulated, and the tick noted as taken (R69, log 14). -/
def accumulate (s : State) : State :=
  (s.setLoops (s.loops.imap fun i l =>
    match tickDrop s i with
    | some d => { l with sigma := l.sigma + d, n := l.n + 1 }
    | none => l)).setPeriod { s.period with lastTick := s.period.lastTick + 10 }

/-- Probe 0 reads water too hot (R133). -/
def tooHot (s : State) : Bool := (usableValue s supplyProbe).any fun f => s.params.g1.trip ≤ f

/-- The exit condition of R135. -/
def cooled (s : State) : Bool :=
  (usableValue s supplyProbe).any fun f => f ≤ s.params.g1.trip - s.params.g1.hysteresis

/-- The exit flag overwritten by a tick in OVERHEAT (R135). -/
def exitCheck (s : State) : State := s.setSupply { s.supply with exitFlag := cooled s }

/-- The supply logic's part of a tick (R133, R135), after the accumulation (R69). -/
def supplyCheck (s : State) : State :=
  match s.period.mode with
  | .running | .flush => if tooHot s then detectOverheat s else s
  | .overheat => exitCheck s
  | .stopped => s

/-- A tick without the end of a flush. -/
def plainTick (s : State) : State := supplyCheck (accumulate s)

/-- The flush is due to end at the tick at this period time: its timer has reached 0, and not after it
(R79, log 35). -/
def flushEnds (tickTime : Nat) (s : State) : Bool :=
  s.period.mode = .flush && (s.period.flushDue || s.period.flushTimer = some 0)
    && s.period.flushRanOut.all fun x => x ≤ tickTime

/-! ## The boundary (R71 to R77) -/

/-- A loop's fresh current-period record (R76, R82). -/
def freshRecord (l : Loop) : PeriodRecord where
  cls := l.cls
  onTime := l.onTime
  grantTime := none
  clipped := false
  missed := false
  closedEarly := false

/-- The current-period records. They are there whenever the mode is not STOPPED; a state without them
is read as if they had just been opened. -/
def currentRecords (s : State) : Bank PeriodRecord 16 :=
  s.period.records.getD (s.loops.imap fun _ l => freshRecord l)

/-- The loop has an entry in the queue or the plan. -/
def waitsToStart (s : State) (i : LoopIx) : Bool :=
  (s.arb.queue.any fun e => e = .loop i) || s.arb.plan.any fun e => e.loop = i

/-- The loop is PULSE and its channel energised: the close-out releases it (R72). -/
def pulseEnergised (s : State) (i : LoopIx) : Bool :=
  (s.loops.get i).cls = .pulse && (s.channels.get i).energised

/-- Stage 2, the close-out (R72). The releases find the queue empty (R121). -/
def closeOut (s : State) : State :=
  let waiting := waitsToStart s
  let t := updateRecords (fun i r => if waiting i then { r with missed := true } else r) s
  releaseWhere (pulseEnergised s) (clearStarts t)

/-- Stage 3: a loop's completed record (R72, R82), the pass fields as every variant without a K update
leaves them (R102, R104). -/
def summaryEntry (shortened : Bool) (s : State) (i : LoopIx) : SummaryEntry :=
  let l := s.loops.get i
  { planned := (currentRecords s).get i
    energisedSeconds := (s.channels.get i).energisedSeconds
    shortened := shortened
    n := l.n
    meanDrop := meanDrop s.params.g1.nMeas l.sigma l.n
    kBefore := l.k
    step := 0
    kAfter := l.k }

/-- Stage 3: the summary recorded. -/
def recordSummary (shortened : Bool) (s : State) : State :=
  s.setPeriod { s.period with summary := some (Bank.ofFn fun i => summaryEntry shortened s i) }

/-- Stage 4 without the supply request: what the pass holds, and the state with K, class, on-time and
summary fields written (R73, R101). -/
def runPass (v : Variant) (held : Bank Held 16) (s : State) : State :=
  let t := writeClasses v s.period.eff held s
  match v with
  | .full => writeSteps held (writeFactors held t)
  | .forced | .flush | .noPass => t

/-- Stage 4: the pass, then the supply bias when the new mode is RUNNING (R73, R131). -/
def stagePass (v : Variant) (held : Bank Held 16) (s : State) : State :=
  let t := runPass v held s
  if t.period.mode = .running then updateBias t else t

/-- The six timing values whose change forms the classes again (R74). -/
def planningValues (t : Timing) : Nat × Nat × Nat × Nat × Nat × Nat :=
  (t.period, t.margin, t.eMin, t.minPulse, t.tOpen, t.tClose)

/-- Stage 5: group 0 latched, and the classes formed again if the latch changed one of the six values
(R74, R105). -/
def stageLatch (v : Variant) (held : Bank Held 16) (s : State) : State :=
  let t := s.setPeriod { s.period with eff := s.params.timing }
  if planningValues s.period.eff = planningValues t.period.eff then t
  else writeClasses v t.period.eff held t

/-- The energised channel's loop stays CONTINUOUS (R75). -/
def carries (s : State) (i : LoopIx) : Bool :=
  (s.channels.get i).energised && (s.loops.get i).cls = .continuous

/-- The loop is among the E lowest-numbered carried loops (R75). -/
def staysCarried (s : State) (i : LoopIx) : Bool :=
  carries s i && (allLoops.countP fun j => carries s j && j < i) < s.period.eff.limit

/-- Stage 6, continuous carry-over (R75). -/
def carryOver (s : State) : State := releaseWhere (fun i => !staysCarried s i) s

/-- A loop inserted into loops in descending order of on-time, behind those of equal on-time (R109). -/
def insertByOnTime (on : LoopIx → Nat) (i : LoopIx) : List LoopIx → List LoopIx
  | [] => [i]
  | j :: rest => if on j < on i then i :: j :: rest else j :: insertByOnTime on i rest

/-- The loop needs a start in the new period (R76): enabled, READY, released, and of this class. -/
def needsStart (s : State) (c : LoopClass) (i : LoopIx) : Bool :=
  takesPart s i && !(s.channels.get i).energised && (s.loops.get i).cls = c

/-- The order of the plan (R109): CONTINUOUS loops by number, then PULSE loops by on-time. -/
def planOrder (s : State) : List LoopIx :=
  allLoops.filter (needsStart s .continuous)
    ++ (allLoops.filter (needsStart s .pulse)).foldl
        (fun acc i => insertByOnTime (fun j => (s.loops.get j).onTime) i acc) []

/-- The k-th loop joins at k times s (R109). -/
def withJoinTimes (spacing : Nat) (order : List LoopIx) : List PlanEntry :=
  order.zipIdx.map fun e => { loop := e.1, joinTime := e.2 * spacing }

/-- Stage 7: the start plan built (R76, R109). -/
def buildPlan (s : State) : State := setPlan (withJoinTimes s.period.eff.spacing (planOrder s)) s

/-- The plan entries due at this period time join the tail of the queue, in plan order (R110). -/
def joinDue (s : State) : State :=
  let due (e : PlanEntry) : Bool :=
    e.joinTime ≤ s.period.time && e.joinTime < s.period.eff.period
  s.setArb { s.arb with
    plan := s.arb.plan.filter fun e => !due e
    queue := s.arb.queue ++ (s.arb.plan.filter due).map fun e => .loop e.loop }

/-- Stage 8 before the joins: period time, accumulators and energised seconds at 0, records opened
(R76). No report waits for a boundary any more. -/
def openPeriod (s : State) : State :=
  let t := s.setLoops (s.loops.imap fun _ l => { l with sigma := 0, n := 0 })
  let u := t.setChannels (t.channels.imap fun _ c => { c with energisedSeconds := 0 })
  u.setPeriod { u.period with
    time := 0
    lastTick := 0
    drops := []
    records := some (u.loops.imap fun _ l => freshRecord l) }

/-- Stage 8: the new period begins, entries with join time 0 join, and the arbiter may grant (R76,
R121; log 12). -/
def newPeriod (s : State) : State := opportunity (joinDue (openPeriod s))

/-- Stages 4 to 8 in one variant. -/
def planPeriod (v : Variant) (s : State) : State :=
  let held := Bank.ofFn fun i => hold v s i
  newPeriod (buildPlan (carryOver (stageLatch v held (stagePass v held s))))

/-- A forced boundary into a new mode (R77): no stage 1, and no stage 3 from STOPPED. -/
def forcedBoundary (m : Mode) (s : State) : State :=
  let t := closeOut s
  let u := if s.period.mode = .stopped then t else recordSummary true t
  planPeriod (if m = .flush then .flush else .forced) (setMode m u)

/-- Stages 2 and 3 of a regular boundary. -/
def closePeriod (s : State) : State := recordSummary false (closeOut s)

/-- A regular boundary after its stage 1 (R72 to R76): the variant is chosen by the mode as stage 1
left it, by the exit flag (R67) and by a flush that ends here (R79). -/
def boundaryAfterTick (ending : Bool) (s : State) : State :=
  match s.period.mode with
  | .overheat =>
    if s.supply.exitFlag then
      passReport (planPeriod .full (setMode .running (endLockout (closePeriod s))))
    else planPeriod .noPass (closePeriod s)
  | .flush =>
    if ending then planPeriod .forced (setMode .running (stopFlush (closePeriod s)))
    else planPeriod .flush (closePeriod s)
  | .running | .stopped => passReport (planPeriod .full (closePeriod s))

/-- The regular boundary, its eight stages (R71). Where a flush is due to end and overheat is detected, both
at the tick at P, the detection is always first: R67 takes it at stage 1 and R79 the end at stage 4. R136
lets either be first, so this is the model's choice (log 13). -/
def boundary (s : State) : State := boundaryAfterTick (flushEnds s.period.eff.period s) (plainTick s)

/-- A measurement tick in the middle of a period (R69). Where a flush ends at it (R79) and overheat is
detected at it too, either is taken first (R136): the end first when FLUSH_TIMER_EXPIRY has been taken,
the detection first otherwise (log 13). -/
def tick (s : State) : State :=
  if flushEnds (s.period.lastTick + 10) s then
    if s.period.flushDue then
      let t := forcedBoundary .running (stopFlush (accumulate s))
      if tooHot s then detectOverheat t else t
    else
      let t := plainTick s
      if t.period.mode = .overheat then t else forcedBoundary .running (stopFlush t)
  else plainTick s

/-- The ticks below P that have fallen due in this period and are not taken yet, one for each multiple of
10 s of period time (R69); a tick that is due stays due. The tick at P is stage 1 of the boundary
(log 14). -/
def ticksOwed (s : State) : Nat :=
  if s.period.mode.runs then
    (min s.period.time (s.period.eff.period - 1) - s.period.lastTick) / 10
  else 0

/-- A tick below P is due (R69). -/
def tickDue (s : State) : Bool := 0 < ticksOwed s

/-- As many as `n` of the ticks that are due, taken one after another. -/
def takeTicks : Nat → State → State
  | 0, s => s
  | n + 1, s => if tickDue s then takeTicks n (tick s) else s

/-- The boundary with what meets it: the rooms whose age has come to exceed the hold time become LOST, so
that its pass reads their demand, and the demand-drop reports that wait for it are taken after it (R78,
log 34). -/
def boundaryWithDrops (s : State) : State :=
  let t := expireAges s
  demandDrop (fun r => t.period.drops.contains r) (boundary t)

/-- The regular boundary as it is commanded: the ticks of the period that are still due are taken first,
so that a full period has its P/10 ticks (R69, log 14). -/
def regularBoundary (s : State) : State :=
  let t := takeTicks (ticksOwed s) s
  if boundaryDue t then boundaryWithDrops t else t

/-! ## SET_MODE (R65, R66) -/

/-- STOP (R66, R123, R135). -/
def stopManifold (s : State) : State :=
  let leaving := s.period.mode = .overheat
  let t := releaseWhere (fun _ => true) (clearStarts (s.setTest .idle))
  let u := if leaving then endLockout t else t
  let v := u.setLoops (u.loops.imap fun _ l =>
    { l with cls := .off, onTime := 0, sigma := 0, n := 0 })
  v.setPeriod { v.period with
    mode := .stopped, time := 0, flushTimer := none, flushDue := false, flushRanOut := none
    records := none, lastTick := 0, drops := [] }

/-- RUN (R65). -/
def setRun (s : State) : Result × State :=
  match s.period.mode with
  | .stopped =>
    if anyEnabled s then (.ok, forcedBoundary .running (endTest s)) else (.refusedState, s)
  | .running => (.ok, s)
  | .flush =>
    if anyEnabled s then (.ok, forcedBoundary .running (stopFlush s)) else (.refusedState, s)
  | .overheat => (.refusedState, s)

/-- FLUSH (R65). -/
def setFlush (s : State) : Result × State :=
  match s.period.mode with
  | .stopped => (.ok, startFlush (forcedBoundary .flush (endTest s)))
  | .running => (.ok, startFlush (forcedBoundary .flush s))
  | .flush => (.ok, startFlush s)
  | .overheat => (.refusedState, s)

end Sys2Proof.Machine
end

