-- ==== Sys2Proof/Machine/RoomSegment.lean ====
section
/-! DEFINITION. The Room Segment Controller (section 3.5) and the House Port's side of a forward
(section 8.5): room transactions, polls, the arbiter between transactions, the forward slot, the tool
handover. -/

namespace Sys2Proof.Machine

/-- The controller's activity replaced. -/
def setActivity (a : Activity) (s : State) : State := s.setSeg { s.seg with activity := a }

/-- The forward slot replaced. -/
def setSlot (v : Slot) (s : State) : State := s.setSeg { s.seg with slot := v }

/-! ## Polling (R53, R54) -/

/-- The lowest room in use whose number is the cursor or above it (R54). -/
def pollTarget (s : State) (cursor : Nat) : Option RoomIx :=
  allRooms.find? fun r => (s.rooms.get r).cfg.inUse && cursor ≤ roomNumber r

/-- The cursor of a cycle that starts: room 1, or none when no room is in use and the cycle ends at
once (R53, R54). -/
def startCursor (s : State) : Option Nat := if (pollTarget s 1).isSome then some 1 else none

/-- A running cycle ends when no room in use remains at or above the cursor; then a pending cycle
starts (R53, R54; when this is looked at: log 15). -/
def endCycle (s : State) : State :=
  match s.seg.cursor with
  | none => s
  | some c =>
    if (pollTarget s c).isSome then s
    else if s.seg.pendingCycle then
      s.setSeg { s.seg with pendingCycle := false, cursor := startCursor s }
    else s.setSeg { s.seg with cursor := none }

/-- The kind code of REPORT (section 11.4). -/
def reportKind : Byte := 0x21

/-- A poll of a room begun (R52, R54): a FETCH of kind REPORT, selector 0, at the address the room
holds at this moment. -/
def beginPoll (r : RoomIx) (s : State) : State :=
  let a := (s.rooms.get r).cfg.address
  setActivity (.polling r
    { address := a, sent := [headerByte a true, reportKind, 0], holdLimit := s.params.g2.holdLimit,
      timedOut := false, ended := false, stale := false }) s

/-- The bytes the 716 sends for a forward (R57): for a SEND the check is formed over the bytes sent. -/
def forwardBytes (a : BitVec 7) : ForwardFrame → List Byte
  | .send kind payload =>
    let head := [headerByte a false, kind, byteOf payload.length] ++ payload
    head ++ [checkByte head]
  | .fetch kind selector => [headerByte a true, kind, selector]

/-- A WAITING forward carried (R57). -/
def beginForward (a : BitVec 7) (f : ForwardFrame) (s : State) : State :=
  setActivity (.forwarding
    { address := a, sent := forwardBytes a f, holdLimit := s.params.g2.holdLimit,
      timedOut := false, ended := false, stale := false })
    (setSlot (.active a f false) s)

/-- The controller's choice of its next action when it is IDLE (R55). -/
def arbitrate (s : State) : State :=
  match s.seg.activity with
  | .idle =>
    if s.toolRequest then setActivity .granted s
    else
      match s.seg.slot with
      | .waiting a f => beginForward a f s
      | .empty | .active _ _ _ =>
        let t := endCycle s
        match t.seg.cursor with
        | none => t
        | some c =>
          match pollTarget t c with
          | some r => beginPoll r t
          | none => t
  | .polling _ _ | .forwarding _ | .granted => s

/-- A poll is in progress, so its cycle is still running (R54). -/
def Activity.polls : Activity → Bool
  | .polling _ t => !t.ended
  | .idle | .forwarding _ | .granted => false

/-- A poll cycle falls due (R53). -/
def cycleDue (s : State) : State :=
  let t := if s.seg.activity.polls then s else endCycle s
  match t.seg.cursor with
  | none => arbitrate (t.setSeg { t.seg with cursor := startCursor t })
  | some _ => t.setSeg { t.seg with pendingCycle := true }

/-- The poll timer expires: it starts again with Tp, and a cycle falls due (R53). -/
def pollExpiry (s : State) : State :=
  cycleDue (s.setSeg { s.seg with pollTimer := s.params.g2.pollInterval })

/-! ## Outcomes (R52) -/

/-- The reply bytes the 716 receives in a FETCH: the length byte and, for an acceptable length, so many
payload bytes and the check byte. A byte that no party drives reads as 0xFF (log 19). -/
def receivedReply (bytes : List Byte) : Byte × List Byte × Byte :=
  let len := bytes.getD 0 0xFF
  let n := len.toNat
  (len, (List.range n).map (fun i => bytes.getD (i + 1) 0xFF), bytes.getD (n + 1) 0xFF)

/-- The reply of a FETCH that passes the length range and the check (R52): its payload and the bytes
exactly as received. -/
def checkedReply (sent : List Byte) (low high : Nat) (bytes : List Byte) :
    Option (List Byte × List Byte) :=
  let (len, payload, check) := receivedReply bytes
  if low ≤ len.toNat ∧ len.toNat ≤ high ∧ sum8 (sent ++ len :: payload ++ [check]) = 0 then
    some (payload, len :: payload ++ [check])
  else none

/-- The bytes of a room unit's reply; a unit that answers a FETCH without one drives nothing. -/
def endingBytes : RoomEnding → List Byte
  | .acked => []
  | .nack _ => []
  | .reply bs => bs

/-- A byte of the 716 was left unacknowledged (R52). -/
def leftUnacked : RoomEnding → Bool
  | .nack _ => true
  | .acked | .reply _ => false

/-- A hold-off that outlasted the limit, or a restart, has cut the transaction short (R52, R63). -/
def Transaction.cut (t : Transaction) : Bool := t.timedOut || t.ended

/-- The reply bytes that the 716 clocks in, and the slots it gives them (R52): a length from `low` to `high`
is acknowledged, and then every byte but the check; another length is not, and is the last byte. A byte that
the unit does not drive reads as 0xFF (log 19); a transaction cut short has the unit's bytes alone (log 36). -/
def clockedReply (low high : Nat) (cut : Bool) (bytes : List Byte) : List Byte × List Bool :=
  let (len, payload, check) := receivedReply bytes
  let came := if cut then bytes.length else len.toNat + 2
  if cut ∧ bytes = [] then ([], [])
  else if low ≤ len.toNat ∧ len.toNat ≤ high then
    ((len :: payload ++ [check]).take came,
      (List.replicate (len.toNat + 1) true ++ [false]).take came)
  else ([len], [false])

/-- The range of the length byte that the 716 takes in the reply to a poll (R52). -/
def pollLengths : Option (Nat × Nat) := some (6, 8)

/-- The range of the length byte that the 716 takes in the reply to a forwarded FETCH; a SEND has no reply
(R52). -/
def forwardLengths (t : Transaction) : Option (Nat × Nat) :=
  if headerIsFetch (t.sent.headD 0) then some (0, 32) else none

/-- What the segment carries in a transaction that ends so (R52): the bytes of the 716 up to one that is not
acknowledged, after which the stop mark comes at once, and else the reply with the slots it is given. -/
def carriedBytes (t : Transaction) (lengths : Option (Nat × Nat)) (e : RoomEnding) : RoomBytes :=
  match e, lengths with
  | .nack index, _ => { sent := t.sent.take (index + 1), received := [], acks := [] }
  | .acked, none | .reply _, none => { sent := t.sent, received := [], acks := [] }
  | .acked, some (low, high) | .reply _, some (low, high) =>
    let reply := clockedReply low high t.cut (endingBytes e)
    { sent := t.sent, received := reply.1, acks := reply.2 }

/-- The outcome of a poll (R45, R52): its report when it is good. -/
def pollResult (t : Transaction) (e : RoomEnding) : PollOutcome × Option Report :=
  if t.timedOut then (.timeout, none)
  else if leftUnacked e then (.noAck, none)
  else
    match (checkedReply t.sent 6 8 (endingBytes e)).bind fun p => reportOf p.1 with
    | some r => (.answered, some r)
    | none => (.checkError, none)

/-- The outcome of a forward's room transaction (R52), with the reply bytes of a FETCH that ended
ANSWERED (R57, R58). -/
def forwardResult (t : Transaction) (f : ForwardFrame) (e : RoomEnding) :
    PollOutcome × Option (List Byte) :=
  if t.timedOut then (.timeout, none)
  else if leftUnacked e then (.noAck, none)
  else
    match f with
    | .send _ _ => (.answered, none)
    | .fetch _ _ =>
      match checkedReply t.sent 0 32 (endingBytes e) with
      | some p => (.answered, some p.2)
      | none => (.checkError, none)

/-- A poll's outcome delivered to the Room Table, if the room's address still equals the header's and was
not changed while the poll ran (R43, R45, R46, R52). -/
def deliverPoll (r : RoomIx) (t : Transaction) (e : RoomEnding) (s : State) : State :=
  if (s.rooms.get r).cfg.address = t.address ∧ t.stale = false then
    match pollResult t e with
    | (_, some rep) => changeRoom r (Room.goodPoll rep) s
    | (o, none) => changeRoom r (Room.failedPoll o s.params.g2.lossThreshold) s
  else s

/-! ## The House Port's held slot (R151, R152) -/

/-- A reply as it goes out on the house segment: cut after the byte the house controller leaves
unacknowledged, and then IGNORING (R145, R151). -/
def sendReply (bytes : List Byte) (nackAt : Option Nat) (done : HouseState) :
    List Byte × HouseState :=
  match nackAt with
  | none => (bytes, done)
  | some j => if j + 1 < bytes.length then (bytes.take (j + 1), .ignoring) else (bytes, done)

/-- The held slot answered and the clock released: acknowledged or not (R151, R152). -/
def answerHeld (ack : Bool) (sent : List Byte) (st : HouseState) (s : State) : State :=
  s.setHouse { s.house with
    state := st, sent := sent, acks := s.house.acks ++ [ack], timeout := none }

/-- An outcome handed to the House Port (R151). -/
def handOver (o : PollOutcome) (reply : Option (List Byte)) (nackAt : Option Nat) (s : State) :
    State :=
  match s.house.state with
  | .proxyHeld r m fetch =>
    if o = .answered then
      let out := if fetch then sendReply (reply.getD []) nackAt (.proxyCache r m)
                 else ([], .proxyCache r m)
      answerHeld true out.1 out.2 s
    else answerHeld false [] .ignoring s
  | .idle | .header | .own | .proxyCache _ _ | .ignoring => s

/-- The end of a forward's room transaction (R58). -/
def endForward (t : Transaction) (e : RoomEnding) (nackAt : Option Nat) (s : State) : State :=
  match s.seg.slot with
  | .active _ f orphan =>
    let u := setSlot .empty s
    if orphan then u
    else
      let o := forwardResult t f e
      handOver o.1 o.2 nackAt u
  | .empty | .waiting _ _ => s

/-- A room transaction has left the segment with its stop mark: what the segment carried in it stays to be
read, and the controller leaves POLLING or FORWARDING (R52, log 23). -/
def leaveSegment (t : Transaction) (lengths : Option (Nat × Nat)) (e : RoomEnding) (s : State) :
    State :=
  s.setSeg { s.seg with activity := .idle, carried := carriedBytes t lengths e }

/-- A room transaction ends with its stop mark (R52): its outcome goes to its owner, the cursor moves
after a poll, a cycle that has no room left ends (R54), and the arbiter chooses (R55). A transaction that
a restart has ended has no outcome (R63). -/
def endTransaction (e : RoomEnding) (nackAt : Option Nat) (s : State) : State :=
  match s.seg.activity with
  | .idle | .granted => s
  | .polling r t =>
    let u := leaveSegment t pollLengths e s
    if t.ended then arbitrate (endCycle u)
    else
      let v := deliverPoll r t e u
      arbitrate (endCycle (v.setSeg { v.seg with cursor := some (roomNumber r + 1) }))
  | .forwarding t =>
    let u := leaveSegment t (forwardLengths t) e s
    arbitrate (endCycle (if t.ended then u else endForward t e nackAt u))

/-- The poll of a room that is on the segment as the room's address changes: its outcome will be discarded
(R43, R52). -/
def stalePoll (r : RoomIx) (s : State) : State :=
  match s.seg.activity with
  | .polling q t => if q = r then setActivity (.polling q { t with stale := true }) s else s
  | .idle | .forwarding _ | .granted => s

/-- A hold-off of `held` milliseconds: beyond the room hold limit the transaction began with, its
outcome is TIMEOUT (R52, log 20). -/
def holdOff (held : Nat) (s : State) : State :=
  match s.seg.activity with
  | .idle | .granted => s
  | .polling r t =>
    if t.holdLimit < held then setActivity (.polling r { t with timedOut := true }) s else s
  | .forwarding t =>
    if t.holdLimit < held then setActivity (.forwarding { t with timedOut := true }) s else s

/-- The forward timeout expires (R59, R152): a WAITING forward is withdrawn, an ACTIVE one orphaned,
and the held slot is left unacknowledged. -/
def expireForward (s : State) : State :=
  let t :=
    match s.seg.slot with
    | .empty => s
    | .waiting _ _ => setSlot .empty s
    | .active a f _ => setSlot (.active a f true) s
  answerHeld false [] .ignoring t

/-- The forward timeout has run out while the clock is held (R150, R152). -/
def forwardExpired (s : State) : Bool :=
  match s.house.state with
  | .proxyHeld _ _ _ => s.house.timeout = some 0
  | .idle | .header | .own | .proxyCache _ _ | .ignoring => false

/-! ## Tool handover (R60, R61) -/

/-- The tool request line rises (R60); while GRANTED it has no effect (R61). -/
def raiseRequest (s : State) : State := arbitrate (s.setToolRequest true)

/-- The tool request line falls (R60, R61). -/
def dropRequest (s : State) : State :=
  let t := s.setToolRequest false
  match t.seg.activity with
  | .granted => arbitrate (setActivity .idle t)
  | .idle | .polling _ _ | .forwarding _ => t

/-! ## Reset (R63) -/

/-- A restart ends the current transaction at once; the activity stays until its stop mark (R63,
log 30). -/
def Activity.endedByRestart : Activity → Activity
  | .idle => .idle
  | .polling r t => .polling r { t with ended := true }
  | .forwarding t => .forwarding { t with ended := true }
  | .granted => .granted

/-- The Room Segment Controller after a reset (R63): `a` is the activity it keeps, and a first cycle is
due at once. What the segment carried before a restart stays to be read (log 23). -/
def resetSegment (a : Activity) (carried : RoomBytes) (s : State) : State :=
  cycleDue (s.setSeg
    { activity := a, cursor := none, pollTimer := s.params.g2.pollInterval, pendingCycle := false,
      slot := .empty, carried := carried })

end Sys2Proof.Machine
end

