-- ==== Sys2Proof/Machine/Reset.lean ====
section
/-! DEFINITION. The kinds of reset (R174) and power loss (R172): every block's values after reset, as
the tables R21, R39, R62, R63, R84, R126, R139, R153 and R174 give them. -/

namespace Sys2Proof.Machine

/-- Class, on-time, Σ and n after a reset (R21); configuration and K stay as installed. -/
def Loop.restarted (l : Loop) : Loop := { l with cls := .off, onTime := 0, sigma := 0, n := 0 }

/-- The running state of the tables' blocks after a reset (R21, R39, R62, R84, R126, R139): group 0 is
latched from the installed table, every estimate is CLOSING, and so the pump request ON. -/
def resetBlocks (s : State) : State :=
  ((((((((s.setLoops (s.loops.imap fun _ l => l.restarted)).setChannels
      (Bank.fill 16 (Channel.afterReset s.params.timing.tClose))).setTest .idle).setProbes
      (s.probes.imap fun _ p => Probe.initial p.cfg)).setRooms
      (s.rooms.imap fun _ r => Room.initial r.cfg)).setPeriod
      { mode := .stopped, eff := s.params.timing, time := 0, flushTimer := none, flushDue := false,
        flushRanOut := none, records := none, summary := none, lastTick := 0, drops := [] }).setArb
      { plan := [], queue := [], sinceGrant := none }).setSupply
      { s.supply with pump := .on, holdTimer := none, bias := 0, latch := false, exitFlag := false })
    |> fun t => t.setStore { t.store with snapshot := none, saveLeft := 0, autosave := 0 }

/-- Autorun (R84, R174 step 5). -/
def autorun (s : State) : State :=
  if s.params.g3.autorun && anyEnabled s then forcedBoundary .running s else s

/-- Power-on and the release of the reset input (R174): straps, load, every block, autorun. A save in
progress was cut short (R172). -/
def powerUp (straps : BitVec 2) (s : State) : State :=
  let t := resetBlocks (loadImage (cutSave s))
  let u := (t.setHouse
    { own := BitVec.ofNat 7 (Config.ownBase + straps.toNat), state := .idle, received := [],
      sent := [], acks := [], timeout := none, errors := 0, lastResult := .ok,
      lastKind := none }).setMsPhase 0
  autorun (resetSegment .idle { sent := [], received := [], acks := [] } (u.setPowered true))

/-- The restart scopes (R174). -/
inductive Scope where
  | runtime
  | reload
  | factory
deriving DecidableEq, Repr

/-- The code of a restart scope (section 11.5). -/
def Scope.ofCode : Nat → Option Scope
  | 0 => some .runtime
  | 1 => some .reload
  | 2 => some .factory
  | _ => none

/-- Step 2 of a restart (R174): where the tables come from. -/
def restartTables : Scope → State → State
  | .runtime, s => s
  | .reload, s => loadImage s
  | .factory, s => installTables Tables.factory s

/-- A restart (R174): the own address, the house port, the tool grant and the error count stay (R153,
R63). The releases it makes are overtaken by the CLOSING estimates (R21). -/
def restart (scope : Scope) (s : State) : State :=
  let t := resetBlocks (restartTables scope s)
  let u := t.setHouse { t.house with timeout := none }
  autorun (resetSegment s.seg.activity.endedByRestart s.seg.carried u)

/-- The supply removed (R172): only the image stays, with a save cut short; the rest of the state is
that of a part without power (log 10). Inputs keep their levels, and the queue of commands is not the
part's. -/
def losePower (s : State) : State :=
  { State.reset with
    powered := false
    supply := { State.reset.supply with pump := .off, lineA := false, lineB := false }
    channels := Bank.fill 16 { Channel.afterReset 0 with valve := .closed }
    toolRequest := s.toolRequest
    store := { State.reset.store with image := s.store.image }
    draws := s.draws
    pending := s.pending }

end Sys2Proof.Machine
end

