-- ==== Sys2Proof/Machine/House.lean ====
section
/-! DEFINITION. The House Port at byte level (sections 8.1 to 8.5): the address match, SEND and FETCH
transactions at the own address, and transactions at proxied addresses. A frame's owner is given by the
families of management frames. -/

namespace Sys2Proof.Machine

/-- What a mark does to the house transaction state (R142, log 8). -/
def afterMark (st : HouseState) : Mark → HouseState
  | .absent => st
  | .stop => .idle
  | .start => .header

/-- The part holds the clock for a forward: no mark and no byte can be made on the house segment
(R140, R142, log 9). -/
def House.held (h : House) : Bool :=
  match h.state with
  | .proxyHeld _ _ _ => true
  | .idle | .header | .own | .proxyCache _ _ | .ignoring => false

/-- A mark made by the house controller apart from a frame: recognised in every state but PROXY_HELD, in
which no mark can be made (R140, R142). -/
def takeMark (mark : Mark) (s : State) : State :=
  if s.house.held then s
  else s.setHouse { s.house with state := afterMark s.house.state mark }

/-- The record of one house transaction: the bytes received, the bytes sent, the acknowledge slots
given, and the state it leaves (log 23). -/
structure Exchange where
  received : List Byte
  sent : List Byte
  acks : List Bool
  state : HouseState
deriving DecidableEq, Repr

/-- A transaction's record written, and the mark that follows taken. -/
def closeExchange (x : Exchange) (mark : Mark) (s : State) : State :=
  s.setHouse { s.house with
    state := afterMark x.state mark, received := x.received, sent := x.sent, acks := x.acks }

/-- `n` bytes acknowledged. -/
def acked (n : Nat) : List Bool := List.replicate n true

/-- Bytes received and all acknowledged, the state `st`. -/
def takenBytes (bytes : List Byte) (st : HouseState) : Exchange :=
  { received := bytes, sent := [], acks := acked bytes.length, state := st }

/-- Bytes received of which the last was not acknowledged: IGNORING (R142). -/
def refusedBytes (bytes : List Byte) : Exchange :=
  { received := bytes, sent := [], acks := acked (bytes.length - 1) ++ [false], state := .ignoring }

/-- A management result recorded with its kind (R155). -/
def recordResult (r : Result) (kind : Byte) (s : State) : State :=
  s.setHouse { s.house with lastResult := r, lastKind := some kind }

/-- The house frame error count raised by 1, saturating (R146). -/
def countError (s : State) : State :=
  s.setHouse { s.house with errors := saturate Config.count16 s.house.errors 1 }

/-! ## SEND at the own address (R144) -/

/-- The kind codes of the SEND frames (section 11.3). -/
inductive SendKind where
  | writeLoop
  | writeRoom
  | writeProbe
  | writeManifold
  | setMode
  | clear
  | testChannel
  | save
  | restart
  | seed
deriving DecidableEq, Repr

/-- The code of a SEND kind (section 11.3). -/
def SendKind.code : SendKind → Byte
  | .writeLoop => 0x41
  | .writeRoom => 0x42
  | .writeProbe => 0x43
  | .writeManifold => 0x44
  | .setMode => 0x45
  | .clear => 0x46
  | .testChannel => 0x47
  | .save => 0x48
  | .restart => 0x49
  | .seed => 0x4A

/-- The ten SEND kinds. -/
def SendKind.all : List SendKind :=
  [.writeLoop, .writeRoom, .writeProbe, .writeManifold, .setMode, .clear, .testChannel, .save,
   .restart, .seed]

/-- The SEND kind a kind byte names (R144). -/
def SendKind.ofCode (b : Byte) : Option SendKind := SendKind.all.find? fun k => k.code = b

/-- The lengths allowed for a SEND kind (section 11.3). -/
def SendKind.lengths : SendKind → List Nat
  | .writeLoop => [14]
  | .writeRoom => [7]
  | .writeProbe => [6]
  | .writeManifold => [19, 16, 8, 10]
  | .setMode => [1]
  | .clear => [1, 2]
  | .testChannel => [3]
  | .save => [0]
  | .restart => [1]
  | .seed => [0]

/-- The length of a WRITE_MANIFOLD of a group (section 11.3); none for a byte that names no group. -/
def groupLength : Nat → Option Nat
  | 0 => some 19
  | 1 => some 16
  | 2 => some 8
  | 3 => some 10
  | _ => none

/-- The second length test at the check byte (R144): the length agrees with the group or target type
that payload byte 0 names; one that names nothing passes. -/
def SendKind.lengthAgrees (k : SendKind) (payload : List Byte) : Bool :=
  match k with
  | .writeManifold => (groupLength (byteAt payload 0)).all fun n => payload.length = n
  | .clear => if byteAt payload 0 = 0 ∨ byteAt payload 0 = 1 then payload.length = 2 else true
  | .writeLoop | .writeRoom | .writeProbe | .setMode | .testChannel | .save | .restart | .seed =>
    true

/-- The owner of a SEND kind: given the payload, its result and the state it leaves (R154). -/
abbrev Owner := List Byte → State → Result × State

/-- A SEND at the own address, of a kind the part knows (R144): the length byte, the payload, and the
two tests and the owner's decision at the check byte. Bytes missing at the end are a frame cut off by
the mark (R142); bytes after the check byte get no slot and have no effect (log 33). -/
def ownSend (k : SendKind) (owner : Owner) (f : SendFrame) (s : State) : State :=
  if s.house.held then s
  else
    let head := [headerByte s.house.own false, k.code]
    match f.bytes with
    | [] => closeExchange (takenBytes head .own) f.mark s
    | len :: rest =>
      if !k.lengths.contains len.toNat then
        recordResult .refusedLength k.code
          (countError (closeExchange (refusedBytes (head ++ [len])) f.mark s))
      else
        let payload := rest.take len.toNat
        match rest.drop len.toNat with
        | [] => closeExchange (takenBytes (head ++ len :: payload) .own) f.mark s
        | check :: _ =>
          let bytes := head ++ len :: payload ++ [check]
          if sum8 bytes ≠ 0 then
            recordResult .checkFailed k.code
              (countError (closeExchange (refusedBytes bytes) f.mark s))
          else if !k.lengthAgrees payload then
            recordResult .refusedLength k.code
              (countError (closeExchange (refusedBytes bytes) f.mark s))
          else
            let (r, t) := owner payload s
            let x := if r.accepted then takenBytes bytes .own else refusedBytes bytes
            recordResult r k.code (closeExchange x f.mark t)

/-- A SEND at the own address whose kind byte is `kind` (R144, first point): a kind that is known is
acknowledged, and the frame is then cut off by the mark. -/
def ownSendKind (kind : Byte) (mark : Mark) (s : State) : State :=
  if s.house.held then s
  else
    let bytes := [headerByte s.house.own false, kind]
    match SendKind.ofCode kind with
    | some _ => closeExchange (takenBytes bytes .own) mark s
    | none =>
      recordResult .unknownKind kind (countError (closeExchange (refusedBytes bytes) mark s))

/-! ## FETCH at the own address (R145) -/

/-- The kinds of FETCH at the own address (section 11.4). -/
inductive FetchKind where
  | manifoldStatus
  | loopStatus
  | roomStatus
  | probeStatus
  | periodSummary
  | readLoop
  | readRoom
  | readProbe
  | readManifold
  | lastResult
deriving DecidableEq, Repr

/-- The code of a FETCH kind (section 11.4). -/
def FetchKind.code : FetchKind → Byte
  | .manifoldStatus => 0x61
  | .loopStatus => 0x62
  | .roomStatus => 0x63
  | .probeStatus => 0x64
  | .periodSummary => 0x65
  | .readLoop => 0x66
  | .readRoom => 0x67
  | .readProbe => 0x68
  | .readManifold => 0x69
  | .lastResult => 0x6F

/-- The ten FETCH kinds. -/
def FetchKind.all : List FetchKind :=
  [.manifoldStatus, .loopStatus, .roomStatus, .probeStatus, .periodSummary, .readLoop, .readRoom,
   .readProbe, .readManifold, .lastResult]

/-- The FETCH kind a kind byte names (R145). -/
def FetchKind.ofCode (b : Byte) : Option FetchKind := FetchKind.all.find? fun k => k.code = b

/-- A complete reply: length, payload and the check over the whole transaction (R141). -/
def replyBytes (head : List Byte) (payload : List Byte) : List Byte :=
  let body := byteOf payload.length :: payload
  body ++ [checkByte (head ++ body)]

/-- A selector answered: acknowledged, and the reply sent (R145, R147). -/
def answered (head : List Byte) (payload : List Byte) (nackAt : Option Nat) (done : HouseState) :
    Exchange :=
  let out := sendReply (replyBytes head payload) nackAt done
  { received := head, sent := out.1, acks := acked head.length, state := out.2 }

/-- A FETCH at the own address, of a kind the part knows (R145): `reply` is the payload, none for a
selector out of range. -/
def ownFetch (k : FetchKind) (reply : Byte → State → Option (List Byte)) (f : FetchFrame)
    (s : State) : State :=
  if s.house.held then s
  else
    let head := [headerByte s.house.own true, k.code, f.selector]
    match reply f.selector s with
    | some payload => closeExchange (answered head payload f.nackAt .own) f.mark s
    | none => closeExchange (refusedBytes head) f.mark s

/-- A FETCH at the own address whose kind byte is `kind` (R145): an unknown kind is not acknowledged
and is counted; a known one is acknowledged, and the transaction is then cut off by the mark. -/
def ownFetchKind (kind : Byte) (mark : Mark) (s : State) : State :=
  if s.house.held then s
  else
    let bytes := [headerByte s.house.own true, kind]
    match FetchKind.ofCode kind with
    | some _ => closeExchange (takenBytes bytes .own) mark s
    | none => countError (closeExchange (refusedBytes bytes) mark s)

/-! ## Proxied addresses (R143, R147 to R149) -/

/-- The room in use whose address it is and whose proxy mode is CACHE or FULL (R143). -/
def proxiedRoom (s : State) (a : BitVec 7) : Option RoomIx :=
  allRooms.find? fun r =>
    let c := (s.rooms.get r).cfg
    c.inUse && c.address = a && c.proxy ≠ .off

/-- The cached report the Room Table hands to the House Port: a FRESH or AGED room's (R51, R147). -/
def servedReport (r : Room) : Option Report :=
  match r.freshness with
  | .fresh | .aged => r.report
  | .none | .lost => none

/-- A REPORT fetch at a proxied address (R147): `head` is header, kind and selector. -/
def serveReport (r : RoomIx) (head : List Byte) (selector : Byte) (nackAt : Option Nat)
    (mark : Mark) (s : State) : State :=
  match if selector = 0 then servedReport (s.rooms.get r) else none with
  | some rep =>
    closeExchange
      (answered head (reportBytes rep) nackAt (.proxyCache r (s.rooms.get r).cfg.proxy)) mark s
  | none => closeExchange (refusedBytes head) mark s

/-- The offer of a forward at the hold-off point (R56, R149): taken, the clock is held and the forward
timeout started, and no mark can come before the outcome (log 8); not taken, the last byte is not
acknowledged. -/
def offerForward (r : RoomIx) (a : BitVec 7) (f : ForwardFrame) (bytes : List Byte) (fetch : Bool)
    (mark : Mark) (s : State) : State :=
  if s.seg.slot = .empty ∧ s.seg.activity ≠ .granted then
    let t := s.setHouse { s.house with
      state := .proxyHeld r (s.rooms.get r).cfg.proxy fetch
      received := bytes
      sent := []
      acks := acked (bytes.length - 1)
      timeout := some s.params.g2.forwardTimeout }
    arbitrate (setSlot (.waiting a f) t)
  else closeExchange (refusedBytes bytes) mark s

/-- A SEND at a FULL address after its kind byte (R149). Bytes after the check byte get no slot and have no
effect (log 33). -/
def forwardSend (r : RoomIx) (header kind : Byte) (rest : List Byte) (mark : Mark) (s : State) :
    State :=
  let st := HouseState.proxyCache r (s.rooms.get r).cfg.proxy
  match rest with
  | [] => closeExchange (takenBytes [header, kind] st) mark s
  | len :: more =>
    if 32 < len.toNat then closeExchange (refusedBytes [header, kind, len]) mark s
    else
      let payload := more.take len.toNat
      match more.drop len.toNat with
      | [] => closeExchange (takenBytes (header :: kind :: len :: payload) st) mark s
      | check :: _ =>
        let bytes := header :: kind :: len :: payload ++ [check]
        if sum8 bytes ≠ 0 then closeExchange (refusedBytes bytes) mark s
        else offerForward r (headerAddress header) (.send kind payload) bytes false mark s

/-- A transaction at a proxied address (R147 to R149), from its kind byte on. -/
def proxyTransaction (r : RoomIx) (header : Byte) (bytes : List Byte) (nackAt : Option Nat)
    (mark : Mark) (s : State) : State :=
  let fetch := headerIsFetch header
  let st := HouseState.proxyCache r (s.rooms.get r).cfg.proxy
  match bytes with
  | [] => closeExchange (takenBytes [header] st) mark s
  | kind :: rest =>
    if fetch ∧ kind = reportKind then
      match rest with
      | [] => closeExchange (takenBytes [header, kind] st) mark s
      | sel :: _ => serveReport r [header, kind, sel] sel nackAt mark s
    else if (s.rooms.get r).cfg.proxy ≠ .full then closeExchange (refusedBytes [header, kind]) mark s
    else if fetch then
      match rest with
      | [] => closeExchange (takenBytes [header, kind] st) mark s
      | sel :: _ =>
        offerForward r (headerAddress header) (.fetch kind sel) [header, kind, sel] true mark s
    else forwardSend r header kind rest mark s

end Sys2Proof.Machine
end

