-- ==== Sys2Proof/Machine/WriteFrames.lean ====
section
/-! DEFINITION. The writing frames: WRITE_LOOP, WRITE_ROOM, WRITE_PROBE, WRITE_MANIFOLD and SEED. -/

namespace Sys2Proof.Machine

/-! ## WRITE_LOOP (R2 to R5) -/

/-- An accepted WRITE_LOOP (R3, R4, R5): the configuration replaced, K set by the K action and bounded,
and a loop whose enabled changes from yes to no disabled. -/
def writeLoopRecord (i : LoopIx) (c : LoopConfig) (unity : Bool) (s : State) : State :=
  let l := s.loops.get i
  let t := s.setLoops (s.loops.set i { l with
    cfg := c, k := c.bound (if unity then 1024 else l.k) })
  if l.cfg.enabled && !c.enabled then disableLoop i t else t

/-- The owner of WRITE_LOOP (R2). -/
def ownWriteLoop : Owner := fun p s =>
  match loopOfNumber (byteAt p 0), loopPayload p, kActionPayload p with
  | some i, some c, some unity =>
    if c.admissible fun r => (s.rooms.get r).cfg.inUse then
      (.ofClamp (c.clamped ≠ c), writeLoopRecord i c.clamped unity s)
    else (.refusedRange, s)
  | _, _, _ => (.refusedRange, s)

/-! ## WRITE_ROOM (R42, R43) -/

/-- The structural checks of R42 between a room's new configuration and the other tables. -/
def roomAdmissible (r : RoomIx) (c : RoomConfig) (s : State) : Bool :=
  validAddress c.address
    && (c.address = 0 || allRooms.all fun q => q = r || (s.rooms.get q).cfg.address ≠ c.address)
    && (c.address ≠ 0 || allLoops.all fun i => !loopOfRoom s r i)

/-- A room's record after an accepted WRITE_ROOM (R43). -/
def writtenRoom (c : RoomConfig) (r : Room) : Room :=
  if r.cfg.address ≠ c.address then Room.initial c
  else { r with cfg := c, floor := if c.floorLimit.isNone then .normal else r.floor }

/-- An accepted WRITE_ROOM (R43): the record replaced; where the address changes, the outcome of a poll of
the old one is discarded. -/
def writeRoomRecord (r : RoomIx) (c : RoomConfig) (s : State) : State :=
  changeRoom r (writtenRoom c)
    (if (s.rooms.get r).cfg.address ≠ c.address then stalePoll r s else s)

/-- The owner of WRITE_ROOM (R42). -/
def ownWriteRoom : Owner := fun p s =>
  match roomOfNumber (byteAt p 0), roomPayload p with
  | some r, some c =>
    if roomAdmissible r c s then
      (.ofClamp (c.clamped ≠ c), writeRoomRecord r c.clamped s)
    else (.refusedRange, s)
  | _, _ => (.refusedRange, s)

/-! ## WRITE_PROBE (R36, R37) -/

/-- The owner of WRITE_PROBE: the configuration replaced and the runtime initialised. -/
def ownWriteProbe : Owner := fun p s =>
  match probeOfNumber (byteAt p 0), probePayload p with
  | some i, some c =>
    (.ofClamp (c.clamped ≠ c), s.setProbes (s.probes.set i (Probe.initial c.clamped)))
  | _, _ => (.refusedRange, s)

/-! ## WRITE_MANIFOLD (R156 to R160) -/

/-- Group 0 (R157): into the table only. -/
def writeGroup0 (p : List Byte) (s : State) : Result × State :=
  let t := timingPayload p
  let f := flushTimePayload p
  (.ofClamp (t.clamped ≠ t || clampFlushTime f ≠ f),
    s.setParams { s.params with timing := t.clamped, flushTime := clampFlushTime f })

/-- Group 1 (R158): a change of base or max re-clamps the bias at once (R132). -/
def writeGroup1 (p : List Byte) (s : State) : Result × State :=
  let g := group1Payload p
  if g.admissible then
    let n := g.clamped
    let t := s.setParams { s.params with g1 := n }
    let changed := n.supplyBase ≠ s.params.g1.supplyBase ∨ n.supplyMax ≠ s.params.g1.supplyMax
    let u :=
      if changed then t.setSupply { t.supply with bias := min t.supply.bias (biasRoom n) } else t
    (.ofClamp (n ≠ g), u)
  else (.refusedRange, s)

/-- Group 2 (R159): H acts at the write, on the ages as they stand (R47, log 24). -/
def writeGroup2 (p : List Byte) (s : State) : Result × State :=
  let g := group2Payload p
  (.ofClamp (g.clamped ≠ g),
    expireAges (s.setParams { s.params with g2 := g.clamped }))

/-- The autosave count after a write of its interval (R173). -/
def countForInterval (interval count : Nat) : Nat := if interval = 0 then 0 else min count interval

/-- Group 3 (R160). -/
def writeGroup3 (p : List Byte) (s : State) : Result × State :=
  match group3Payload p with
  | some g =>
    let t := s.setParams { s.params with g3 := g.clamped }
    (.ofClamp (g.clamped ≠ g),
      t.setStore { t.store with autosave := countForInterval g.clamped.autosave t.store.autosave })
  | none => (.refusedRange, s)

/-- The owner of WRITE_MANIFOLD (R156): the group is payload byte 0. -/
def ownWriteManifold : Owner := fun p s =>
  match byteAt p 0 with
  | 0 => writeGroup0 p s
  | 1 => writeGroup1 p s
  | 2 => writeGroup2 p s
  | 3 => writeGroup3 p s
  | _ => (.refusedRange, s)

/-! ## SEED (R106, R107) -/

/-- The owner of SEED. -/
def ownSeed : Owner := fun _ s =>
  let lengths := seededLengths s
  if lengths.isEmpty then (.refusedState, s)
  else
    (.ok, s.setLoops (s.loops.imap fun _ l =>
      { l with k := seededFactor lengths.length lengths.sum l }))

/-! ## The rows -/

/-- WRITE_LOOP (R2). -/
def execWriteLoop (f : SendFrame) (s : State) : Host.Outcome State Fault Refusal :=
  whenPowered (ownSend .writeLoop ownWriteLoop f) s

/-- WRITE_ROOM (R42). -/
def execWriteRoom (f : SendFrame) (s : State) : Host.Outcome State Fault Refusal :=
  whenPowered (ownSend .writeRoom ownWriteRoom f) s

/-- WRITE_PROBE (R36). -/
def execWriteProbe (f : SendFrame) (s : State) : Host.Outcome State Fault Refusal :=
  whenPowered (ownSend .writeProbe ownWriteProbe f) s

/-- WRITE_MANIFOLD with group 0 in its payload (R157). -/
def execWriteManifoldGroup0 (f : SendFrame) (s : State) : Host.Outcome State Fault Refusal :=
  whenPowered (ownSend .writeManifold ownWriteManifold f) s

/-- WRITE_MANIFOLD with group 1 in its payload (R158). -/
def execWriteManifoldGroup1 (f : SendFrame) (s : State) : Host.Outcome State Fault Refusal :=
  whenPowered (ownSend .writeManifold ownWriteManifold f) s

/-- WRITE_MANIFOLD with group 2 in its payload (R159). -/
def execWriteManifoldGroup2 (f : SendFrame) (s : State) : Host.Outcome State Fault Refusal :=
  whenPowered (ownSend .writeManifold ownWriteManifold f) s

/-- WRITE_MANIFOLD with group 3 in its payload (R160). -/
def execWriteManifoldGroup3 (f : SendFrame) (s : State) : Host.Outcome State Fault Refusal :=
  whenPowered (ownSend .writeManifold ownWriteManifold f) s

/-- SEED (R106). -/
def execSeed (f : SendFrame) (s : State) : Host.Outcome State Fault Refusal :=
  whenPowered (ownSend .seed ownSeed f) s

end Sys2Proof.Machine
end

