-- ==== Sys2Proof/Machine/CommandFrames.lean ====
section
/-! DEFINITION. The commanding frames (section 9.3): SET_MODE, CLEAR, TEST_CHANNEL, SAVE, RESTART, and
the kind byte that names no kind. -/

namespace Sys2Proof.Machine

/-- The owner of SET_MODE (R65, R161): payload byte 0 is STOP, RUN or FLUSH. -/
def ownSetMode : Owner := fun p s =>
  match byteAt p 0 with
  | 0 => (.ok, stopManifold s)
  | 1 => setRun s
  | 2 => setFlush s
  | _ => (.refusedRange, s)

/-- CLEAR of one channel (R14). -/
def Channel.cleared (c : Channel) : Channel := { c with condition := .ready }

/-- CLEAR of one probe (R38). -/
def Probe.cleared (p : Probe) : Probe :=
  match p.status with
  | .failed => Probe.initial p.cfg
  | .suspect | .ok => { p with errors := 0, recovery := 0 }
  | .absent => p

/-- The owner of CLEAR (R162): payload byte 0 is the target type. -/
def ownClear : Owner := fun p s =>
  match byteAt p 0 with
  | 0 =>
    match loopOfNumber (byteAt p 1) with
    | some i => (.ok, s.setChannels (s.channels.set i (s.channels.get i).cleared))
    | none => (.refusedRange, s)
  | 1 =>
    match probeOfNumber (byteAt p 1) with
    | some i => (.ok, s.setProbes (s.probes.set i (s.probes.get i).cleared))
    | none => (.refusedRange, s)
  | 2 =>
    (.ok, (s.setChannels (s.channels.imap fun _ c => c.cleared)).setProbes
      (s.probes.imap fun _ q => q.cleared))
  | _ => (.refusedRange, s)

/-- A channel test queued (R18, R113): its join is a grant opportunity. -/
def queueTest (i : LoopIx) (duration : Nat) (s : State) : State :=
  opportunity (setQueue (s.arb.queue ++ [.test i]) (s.setTest (.queued i duration)))

/-- The owner of TEST_CHANNEL (R18), its checks in order. -/
def ownTestChannel : Owner := fun p s =>
  match loopOfNumber (byteAt p 0) with
  | none => (.refusedRange, s)
  | some i =>
    let d := wordAt p 1
    if s.period.mode ≠ .stopped then (.refusedState, s)
    else if s.test ≠ .idle then (.refusedBusy, s)
    else if (s.channels.get i).condition = .tripped then (.refusedState, s)
    else (.ofClamp (clampNat 10 600 d ≠ d), queueTest i (clampNat 10 600 d) s)

/-- The owner of SAVE (R163). -/
def ownSave : Owner := fun _ s => if saving s then (.refusedBusy, s) else (.ok, beginSave s)

/-- The owner of RESTART (R163): payload byte 0 is the scope. -/
def ownRestart : Owner := fun p s =>
  match Scope.ofCode (byteAt p 0) with
  | none => (.refusedRange, s)
  | some scope => if saving s then (.refusedBusy, s) else (.ok, restart scope s)

/-! ## The rows -/

/-- SET_MODE with RUN in its payload (R65). -/
def execSetModeRun (f : SendFrame) (s : State) : Host.Outcome State Fault Refusal :=
  whenPowered (ownSend .setMode ownSetMode f) s

/-- SET_MODE with STOP in its payload (R66). -/
def execSetModeStop (f : SendFrame) (s : State) : Host.Outcome State Fault Refusal :=
  whenPowered (ownSend .setMode ownSetMode f) s

/-- SET_MODE with FLUSH in its payload (R65). -/
def execSetModeFlush (f : SendFrame) (s : State) : Host.Outcome State Fault Refusal :=
  whenPowered (ownSend .setMode ownSetMode f) s

/-- CLEAR with target type CHANNEL (R14). -/
def execClearChannel (f : SendFrame) (s : State) : Host.Outcome State Fault Refusal :=
  whenPowered (ownSend .clear ownClear f) s

/-- CLEAR with target type PROBE (R38). -/
def execClearProbe (f : SendFrame) (s : State) : Host.Outcome State Fault Refusal :=
  whenPowered (ownSend .clear ownClear f) s

/-- CLEAR with target type ALL (R162). -/
def execClearAll (f : SendFrame) (s : State) : Host.Outcome State Fault Refusal :=
  whenPowered (ownSend .clear ownClear f) s

/-- TEST_CHANNEL (R18). -/
def execTestChannel (f : SendFrame) (s : State) : Host.Outcome State Fault Refusal :=
  whenPowered (ownSend .testChannel ownTestChannel f) s

/-- SAVE (R163). -/
def execSave (f : SendFrame) (s : State) : Host.Outcome State Fault Refusal :=
  whenPowered (ownSend .save ownSave f) s

/-- RESTART with scope RUNTIME (R174). -/
def execRestartRuntime (f : SendFrame) (s : State) : Host.Outcome State Fault Refusal :=
  whenPowered (ownSend .restart ownRestart f) s

/-- RESTART with scope RELOAD (R174). -/
def execRestartReload (f : SendFrame) (s : State) : Host.Outcome State Fault Refusal :=
  whenPowered (ownSend .restart ownRestart f) s

/-- RESTART with scope FACTORY (R174). -/
def execRestartFactory (f : SendFrame) (s : State) : Host.Outcome State Fault Refusal :=
  whenPowered (ownSend .restart ownRestart f) s

/-- UNKNOWN_KIND (R144). -/
def execUnknownKind (kind : Byte) (mark : Mark) (s : State) : Host.Outcome State Fault Refusal :=
  whenPowered (ownSendKind kind mark) s

end Sys2Proof.Machine
end

