-- ==== Sys2Proof/Machine/StatusFrames.lean ====
section
/-! DEFINITION. Status and read-back fetches at the own address (section 9.4). A reply is none for a
selector out of range (R145). -/

namespace Sys2Proof.Machine

/-- MANIFOLD_STATUS, selector 0 (R164). -/
def replyManifoldStatus (sel : Byte) (s : State) : Option (List Byte) :=
  if sel = 0 then some (manifoldStatusBytes s) else none

/-- LOOP_STATUS, selector a loop number (R165). -/
def replyLoopStatus (sel : Byte) (s : State) : Option (List Byte) :=
  (loopOfNumber sel.toNat).map (loopStatusBytes s)

/-- ROOM_STATUS, selector a room number (R166). -/
def replyRoomStatus (sel : Byte) (s : State) : Option (List Byte) :=
  (roomOfNumber sel.toNat).map fun r => roomStatusBytes (s.rooms.get r)

/-- PROBE_STATUS, selector a probe number (R166). -/
def replyProbeStatus (sel : Byte) (s : State) : Option (List Byte) :=
  (probeOfNumber sel.toNat).map fun p => probeStatusBytes (s.probes.get p)

/-- PERIOD_SUMMARY, selector a loop number; length 0 when no summary is recorded (R166). -/
def replyPeriodSummary (sel : Byte) (s : State) : Option (List Byte) :=
  (loopOfNumber sel.toNat).map fun i =>
    s.period.summary.elim [] fun b => summaryBytes (b.get i)

/-- READ_LOOP, selector a loop number (R167). -/
def replyReadLoop (sel : Byte) (s : State) : Option (List Byte) :=
  (loopOfNumber sel.toNat).map fun i => loopReadBack i (s.loops.get i).cfg

/-- READ_ROOM, selector a room number (R167). -/
def replyReadRoom (sel : Byte) (s : State) : Option (List Byte) :=
  (roomOfNumber sel.toNat).map fun r => roomReadBack r (s.rooms.get r).cfg

/-- READ_PROBE, selector a probe number (R167). -/
def replyReadProbe (sel : Byte) (s : State) : Option (List Byte) :=
  (probeOfNumber sel.toNat).map fun p => probeReadBack p (s.probes.get p).cfg

/-- READ_MANIFOLD, selector a group (R167). -/
def replyReadManifold (sel : Byte) (s : State) : Option (List Byte) :=
  manifoldReadBack sel.toNat s.params

/-- LAST_RESULT, selector 0 (R155). -/
def replyLastResult (sel : Byte) (s : State) : Option (List Byte) :=
  if sel = 0 then some [byteOf s.house.lastResult.code, s.house.lastKind.getD 0] else none

/-! ## The rows -/

/-- MANIFOLD_STATUS (R164). -/
def execManifoldStatus (f : FetchFrame) (s : State) : Host.Outcome State Fault Refusal :=
  whenPowered (ownFetch .manifoldStatus replyManifoldStatus f) s

/-- LOOP_STATUS (R165). -/
def execLoopStatus (f : FetchFrame) (s : State) : Host.Outcome State Fault Refusal :=
  whenPowered (ownFetch .loopStatus replyLoopStatus f) s

/-- ROOM_STATUS (R166). -/
def execRoomStatus (f : FetchFrame) (s : State) : Host.Outcome State Fault Refusal :=
  whenPowered (ownFetch .roomStatus replyRoomStatus f) s

/-- PROBE_STATUS (R166). -/
def execProbeStatus (f : FetchFrame) (s : State) : Host.Outcome State Fault Refusal :=
  whenPowered (ownFetch .probeStatus replyProbeStatus f) s

/-- PERIOD_SUMMARY (R166). -/
def execPeriodSummary (f : FetchFrame) (s : State) : Host.Outcome State Fault Refusal :=
  whenPowered (ownFetch .periodSummary replyPeriodSummary f) s

/-- READ_LOOP (R167). -/
def execReadLoop (f : FetchFrame) (s : State) : Host.Outcome State Fault Refusal :=
  whenPowered (ownFetch .readLoop replyReadLoop f) s

/-- READ_ROOM (R167). -/
def execReadRoom (f : FetchFrame) (s : State) : Host.Outcome State Fault Refusal :=
  whenPowered (ownFetch .readRoom replyReadRoom f) s

/-- READ_PROBE (R167). -/
def execReadProbe (f : FetchFrame) (s : State) : Host.Outcome State Fault Refusal :=
  whenPowered (ownFetch .readProbe replyReadProbe f) s

/-- READ_MANIFOLD (R167). -/
def execReadManifold (f : FetchFrame) (s : State) : Host.Outcome State Fault Refusal :=
  whenPowered (ownFetch .readManifold replyReadManifold f) s

/-- LAST_RESULT (R155). -/
def execLastResult (f : FetchFrame) (s : State) : Host.Outcome State Fault Refusal :=
  whenPowered (ownFetch .lastResult replyLastResult f) s

/-- UNKNOWN_FETCH_KIND (R145). -/
def execUnknownFetchKind (kind : Byte) (mark : Mark) (s : State) :
    Host.Outcome State Fault Refusal :=
  whenPowered (ownFetchKind kind mark) s

end Sys2Proof.Machine
end

