-- ==== Sys2Proof/Machine/ProxyFrames.lean ====
section
/-! DEFINITION. A whole house transaction by its header (R143), and the rows at proxied addresses:
REPORT, FORWARD_OFFER and FORWARD_TIMEOUT_EXPIRY. -/

namespace Sys2Proof.Machine

/-- The owner of each SEND kind (R154). -/
def ownerOf : SendKind → Owner
  | .writeLoop => ownWriteLoop
  | .writeRoom => ownWriteRoom
  | .writeProbe => ownWriteProbe
  | .writeManifold => ownWriteManifold
  | .setMode => ownSetMode
  | .clear => ownClear
  | .testChannel => ownTestChannel
  | .save => ownSave
  | .restart => ownRestart
  | .seed => ownSeed

/-- The reply of each FETCH kind (R145). -/
def replyOf : FetchKind → Byte → State → Option (List Byte)
  | .manifoldStatus => replyManifoldStatus
  | .loopStatus => replyLoopStatus
  | .roomStatus => replyRoomStatus
  | .probeStatus => replyProbeStatus
  | .periodSummary => replyPeriodSummary
  | .readLoop => replyReadLoop
  | .readRoom => replyReadRoom
  | .readProbe => replyReadProbe
  | .readManifold => replyReadManifold
  | .lastResult => replyLastResult

/-- A transaction at the own address given by its bytes after the header (R144, R145). -/
def ownTransaction (fetch : Bool) (bytes : List Byte) (nackAt : Option Nat) (mark : Mark)
    (s : State) : State :=
  match bytes with
  | [] => closeExchange (takenBytes [headerByte s.house.own fetch] .own) mark s
  | kind :: rest =>
    if fetch then
      match FetchKind.ofCode kind, rest with
      | some k, sel :: _ => ownFetch k (replyOf k) { selector := sel, nackAt, mark } s
      | _, _ => ownFetchKind kind mark s
    else
      match SendKind.ofCode kind with
      | some k => ownSend k (ownerOf k) { bytes := rest, mark } s
      | none => ownSendKind kind mark s

/-- A house transaction given by its header byte and the bytes after it: the address match of R143,
then the own address, a proxied room, or IGNORING. -/
def houseTransaction (header : Byte) (bytes : List Byte) (nackAt : Option Nat) (mark : Mark)
    (s : State) : State :=
  if s.house.held then s
  else if headerAddress header = s.house.own then
    ownTransaction (headerIsFetch header) bytes nackAt mark s
  else
    match proxiedRoom s (headerAddress header) with
    | some r => proxyTransaction r header bytes nackAt mark s
    | none => closeExchange (refusedBytes [header]) mark s

/-! ## The rows -/

/-- REPORT (R147): a FETCH of kind REPORT at a link address. -/
def execReport (a : BitVec 7) (f : FetchFrame) (s : State) : Host.Outcome State Fault Refusal :=
  whenPowered
    (houseTransaction (headerByte a true) [reportKind, f.selector] f.nackAt f.mark) s

/-- FORWARD_OFFER (R149); without a header byte, a mark alone (R140, log 8). -/
def execForwardOffer (header : Option Byte) (bytes : List Byte) (nackAt : Option Nat) (mark : Mark)
    (s : State) : Host.Outcome State Fault Refusal :=
  whenPowered (fun s =>
    match header with
    | some h => houseTransaction h bytes nackAt mark s
    | none => takeMark mark s) s

/-- FORWARD_TIMEOUT_EXPIRY (R152), and the mark that follows. -/
def execForwardTimeoutExpiry (run : TimeoutRun) (s : State) : Host.Outcome State Fault Refusal :=
  whenPowered (fun s =>
    let t := elapseMs run.after s
    takeMark run.mark (if forwardExpired t then expireForward t else t)) s

end Sys2Proof.Machine
end

