-- ==== Sys2Proof/Machine/ProbeEvents.lean ====
section
/-! DEFINITION. The Probe Unit (chapter 2): line filter, edge capture, sample checks, conversion,
filter and status; and the rows ACCEPTED_EDGE, PROBE_CYCLE_COMPLETE and STUCK_ERROR. -/

namespace Sys2Proof.Machine

/-- The samples that make an edge (R24). -/
def Depth.samples : Depth → Nat
  | .two => 2
  | .four => 4

/-- An error counted (R31, R32). -/
def Probe.error (threshold : Nat) (e : ProbeError) (p : Probe) : Probe :=
  match p.status with
  | .absent => p
  | .suspect | .ok =>
    let n := if p.status = .ok then 1 else saturate 255 p.errors 1
    if threshold ≤ n then
      { p with errors := n, lastError := e, status := .failed, recovery := 0 }
    else { p with errors := n, lastError := e, status := .suspect }
  | .failed => { p with errors := saturate 255 p.errors 1, lastError := e, recovery := 0 }

/-- A calibrated sample taken into the filter (R30); the division by a power of two rounds toward
minus infinity. -/
def filterStep (shift : Nat) (f : Option Int) (x : Int) : Int :=
  match f with
  | none => x
  | some v =>
    if shift = 0 then x else v + (x - v + 2 ^ (shift - 1)) / 2 ^ shift

/-- A good sample given to the status machine (R29, R31, R33). -/
def Probe.goodSample (x : Int) (p : Probe) : Probe :=
  match p.status with
  | .absent => p
  | .suspect | .ok =>
    { p with
      sample := some x
      filtered := some (filterStep p.cfg.shift p.filtered x)
      errors := 0
      status := .ok }
  | .failed =>
    if Config.recoveryCount ≤ p.recovery + 1 then
      { p with sample := some x, filtered := some x, errors := 0, recovery := 0, status := .ok }
    else { p with sample := some x, errors := 0, recovery := p.recovery + 1 }

/-- The high ratio of a cycle (R28). -/
def highRatio (h period : Nat) : Nat := h * 65536 / period

/-- The raw temperature of a good sample (R29). -/
def rawTemperature (ratio : Nat) : Int := ((ratio * 17500 / 65536 : Nat) : Int) - 4500

/-- A completed cycle checked and converted (R27, R28, R29). -/
def Probe.checkCycle (threshold : Nat) (h period : Nat) (p : Probe) : Probe :=
  if period < 5000 ∨ 20000 < period then p.error threshold .period
  else
    let r := highRatio h period
    if r < 6554 ∨ 58982 < r then p.error threshold .range
    else p.goodSample (rawTemperature r + p.cfg.offset)

/-- A rising edge accepted (R25). -/
def Probe.risingEdge (threshold : Nat) (p : Probe) : Probe :=
  match p.phase with
  | .wait => { p with counter := 0, phase := .high }
  | .high => p
  | .low =>
    { p with period := some p.counter, counter := 0, phase := .high }.checkCycle threshold
      (p.high.getD 0) p.counter

/-- A falling edge accepted (R25). -/
def Probe.fallingEdge (p : Probe) : Probe :=
  match p.phase with
  | .wait | .low => p
  | .high => { p with high := some p.counter, phase := .low }

/-- An edge accepted by the line filter (R24). -/
def Probe.edge (threshold : Nat) (p : Probe) : Probe :=
  let q := { p with accepted := !p.accepted, run := 0 }
  if q.accepted then q.risingEdge threshold else q.fallingEdge

/-- The capture counter has reached 65,535: a STUCK error, and the capture restarts (R26). -/
def Probe.stuck (threshold : Nat) (p : Probe) : Probe :=
  { p with counter := 0, phase := .wait }.error threshold .stuck

/-- Samples to the next edge of a line at this level; none while it shows the accepted level (R24). -/
def Probe.toEdge (level : Bool) (p : Probe) : Option Nat :=
  if level = p.accepted then none else some (p.cfg.depth.samples - p.run)

/-- `k` samples of one level, with no edge and no STUCK error among them (R24, R25). -/
def Probe.count (level : Bool) (k : Nat) (p : Probe) : Probe :=
  { p with counter := p.counter + k, run := if level = p.accepted then 0 else p.run + k }

/-- `k` samples of one level, event by event: the next event is an edge or a STUCK error, and where
both fall on one sample the STUCK error is first, since no h or p is 65,535 (R23, log 17). `fuel`
bounds the events. -/
def Probe.feed (threshold : Nat) (level : Bool) : Nat → Nat → Probe → Probe
  | 0, _, p => p
  | fuel + 1, k, p =>
    let toStuck := Config.stuckCount - p.counter
    match p.toEdge level with
    | none =>
      if k < toStuck then p.count level k
      else feed threshold level fuel (k - toStuck) ((p.count level toStuck).stuck threshold)
    | some d =>
      if d < toStuck then
        if k < d then p.count level k
        else feed threshold level fuel (k - d) ((p.count level d).edge threshold)
      else if k < toStuck then p.count level k
      else
        let q := (p.count level toStuck).stuck threshold
        if d = toStuck then feed threshold level fuel (k - d) (q.edge threshold)
        else feed threshold level fuel (k - toStuck) q

/-- Enough events for `k` samples of one level: one edge, and one STUCK error per 65,535 samples. -/
def feedFuel (k : Nat) : Nat := k / Config.stuckCount + 3

/-- A run of equal samples taken by a fitted probe; the first sample after initialisation sets the
accepted level (R24). A probe that is not fitted is not sampled (R34). -/
def Probe.takeRun (threshold : Nat) (p : Probe) (r : LineRun) : Probe :=
  if !p.cfg.fitted || r.samples = 0 then p
  else
    let q := if p.adopting then { p with accepted := r.level, adopting := false } else p
    q.feed threshold r.level (feedFuel r.samples) r.samples

/-- The samples of a probe's line taken in order. The error threshold is read at each error (R32). -/
def sampleLine (i : ProbeIx) (line : List LineRun) (s : State) : State :=
  s.setProbes (s.probes.set i
    (line.foldl (Probe.takeRun s.params.g3.errorThreshold) (s.probes.get i)))

/-! ## The rows. The samples decide which events come about (log 17). -/

/-- ACCEPTED_EDGE (R25). -/
def execAcceptedEdge (probe : ProbeIx) (line : List LineRun) (s : State) :
    Host.Outcome State Fault Refusal :=
  whenPowered (sampleLine probe line) s

/-- PROBE_CYCLE_COMPLETE (R27). -/
def execProbeCycleComplete (probe : ProbeIx) (line : List LineRun) (s : State) :
    Host.Outcome State Fault Refusal :=
  whenPowered (sampleLine probe line) s

/-- STUCK_ERROR (R26). -/
def execStuckError (probe : ProbeIx) (line : List LineRun) (s : State) :
    Host.Outcome State Fault Refusal :=
  whenPowered (sampleLine probe line) s

end Sys2Proof.Machine
end

