-- ==== Sys2Proof/Machine/RoomEvents.lean ====
section
/-! DEFINITION. The rows of the room segment: POLL_TIMER_EXPIRY, ROOM_TRANSACTION_END,
ROOM_HOLD_TIMEOUT, TOOL_REQUEST_RAISED, TOOL_REQUEST_DROPPED and AGE_EXPIRY. -/

namespace Sys2Proof.Machine

/-- POLL_TIMER_EXPIRY (R53). -/
def execPollTimerExpiry (after : Nat) (s : State) : Host.Outcome State Fault Refusal :=
  whenPowered (timed after (fun t => t.seg.pollTimer = 0) pollExpiry) s

/-- ROOM_TRANSACTION_END (R52), and the mark that follows on the house segment (R142). -/
def execRoomTransactionEnd (ending : RoomEnding) (turn : HouseTurn) (s : State) :
    Host.Outcome State Fault Refusal :=
  whenPowered (fun s => takeMark turn.mark (endTransaction ending turn.nackAt s)) s

/-- ROOM_HOLD_TIMEOUT (R52). -/
def execRoomHoldTimeout (held : Nat) (s : State) : Host.Outcome State Fault Refusal :=
  whenPowered (holdOff held) s

/-- TOOL_REQUEST_RAISED (R60). The line is an input: it rises whether or not the part has power. -/
def execToolRequestRaised (s : State) : Host.Outcome State Fault Refusal :=
  whenPowered raiseRequest (s.setToolRequest true)

/-- TOOL_REQUEST_DROPPED (R61). The line is an input: it falls whether or not the part has power. -/
def execToolRequestDropped (s : State) : Host.Outcome State Fault Refusal :=
  whenPowered dropRequest (s.setToolRequest false)

/-- The age of a FRESH or AGED room exceeds the hold time in effect (R47). -/
def ageDue (r : RoomIx) (s : State) : Bool :=
  decide ((s.rooms.get r).freshness = .fresh ∨ (s.rooms.get r).freshness = .aged)
    && decide (s.params.g2.holdTime < (s.rooms.get r).age)

/-- The room becomes LOST (R47), with its report of a demand drop (R50). -/
def expireAge (r : RoomIx) (s : State) : State :=
  changeRoom r (Room.aged s.params.g2.holdTime) s

/-- AGE_EXPIRY (R47). -/
def execAgeExpiry (room : RoomIx) (after : Nat) (s : State) : Host.Outcome State Fault Refusal :=
  whenPowered (timed after (ageDue room) (expireAge room)) s

end Sys2Proof.Machine
end

