-- ==== Sys2Proof/Machine/PeriodEvents.lean ====
section
/-! DEFINITION. The rows of the Period Engine and the Start Arbiter: MEASUREMENT_TICK,
FLUSH_TIMER_EXPIRY, REGULAR_BOUNDARY, JOIN and SPACING_EXPIRY. -/

namespace Sys2Proof.Machine

/-- MEASUREMENT_TICK (R69). -/
def execMeasurementTick (after : Nat) (s : State) : Host.Outcome State Fault Refusal :=
  whenPowered (timed after tickDue tick) s

/-- The flush timer has reached 0 and its end is not yet noted (R79). -/
def flushExpired (s : State) : Bool :=
  s.period.mode = .flush && s.period.flushTimer = some 0 && !s.period.flushDue

/-- The flush becomes due to end at the next tick (R79). -/
def markFlushDue (s : State) : State := s.setPeriod { s.period with flushDue := true }

/-- FLUSH_TIMER_EXPIRY (R79). -/
def execFlushTimerExpiry (after : Nat) (s : State) : Host.Outcome State Fault Refusal :=
  whenPowered (timed after flushExpired markFlushDue) s

/-- REGULAR_BOUNDARY (R71). -/
def execRegularBoundary (after : Nat) (s : State) : Host.Outcome State Fault Refusal :=
  whenPowered (timed after boundaryDue regularBoundary) s

/-- The period time has reached the join time of the first plan entry, which is below P (R110). -/
def joinReached (s : State) : Bool :=
  s.period.mode.heats && s.arb.plan.head?.any fun e =>
    e.joinTime ≤ s.period.time && e.joinTime < s.period.eff.period

/-- The first plan entry joins the tail of the queue, a grant opportunity (R110). -/
def joinFirst (s : State) : State :=
  match s.arb.plan with
  | [] => s
  | e :: rest =>
    opportunity (s.setArb { s.arb with plan := rest, queue := s.arb.queue ++ [.loop e.loop] })

/-- JOIN (R110). -/
def execJoin (after : Nat) (s : State) : Host.Outcome State Fault Refusal :=
  whenPowered (timed after joinReached joinFirst) s

/-- The time since the last grant has reached s while the queue is not empty (R116). -/
def spacingReached (s : State) : Bool :=
  !s.arb.queue.isEmpty && s.arb.sinceGrant.any fun t => s.period.eff.spacing ≤ t

/-- SPACING_EXPIRY (R116). -/
def execSpacingExpiry (after : Nat) (s : State) : Host.Outcome State Fault Refusal :=
  whenPowered (timed after spacingReached opportunity) s

end Sys2Proof.Machine
end

