-- ==== Sys2Proof/Machine/ChannelEvents.lean ====
section
/-! DEFINITION. The rows of the Channel Drivers, the pump hold and the store: CLOSE_TIME_REACHED,
LOAD_CHECK, OVERCURRENT, OPENING_ENDS, CLOSING_ENDS, TEST_END, PUMP_HOLD_EXPIRY, SAVE_COMPLETES. -/

namespace Sys2Proof.Machine

/-- The close time of an energised channel is reached and is below P (R9). -/
def closeReached (i : LoopIx) (s : State) : Bool :=
  (s.channels.get i).energised && (s.channels.get i).closeTime.any fun c =>
    c ≤ s.period.time && c < s.period.eff.period

/-- One channel released, a grant opportunity (R8). -/
def releaseOne (i : LoopIx) (s : State) : State := releaseAndOffer (fun j => j = i) s

/-- CLOSE_TIME_REACHED (R9). -/
def execCloseTimeReached (loop : LoopIx) (after : Nat) (s : State) :
    Host.Outcome State Fault Refusal :=
  whenPowered (timed after (closeReached loop) (releaseOne loop)) s

/-- The load check of an energised channel is due (R11). -/
def loadCheckDue (i : LoopIx) (s : State) : Bool :=
  (s.channels.get i).energised && (s.channels.get i).loadCheck = some 0

/-- The channel is under an active channel test (R11, R19). -/
def underTest (i : LoopIx) (s : State) : Bool :=
  match s.test with
  | .active j _ _ => j = i
  | .idle | .queued _ _ => false

/-- The sense input read at a load check (R11, R13, R19). -/
def checkLoad (i : LoopIx) (load : Bool) (s : State) : State :=
  let c := s.channels.get i
  if load then
    s.setChannels (s.channels.set i { c with
      loadCheck := none
      condition := if c.condition = .absent && underTest i s then .ready else c.condition })
  else faultChannel i .absent s

/-- LOAD_CHECK (R11). -/
def execLoadCheck (loop : LoopIx) (load : Bool) (after : Nat) (s : State) :
    Host.Outcome State Fault Refusal :=
  whenPowered (timed after (loadCheckDue loop) (checkLoad loop load)) s

/-- An overcurrent (R12): an energised channel trips, a released one is left as it is. -/
def tripChannel (i : LoopIx) (s : State) : State :=
  if (s.channels.get i).energised then faultChannel i .tripped s else s

/-- OVERCURRENT (R12). -/
def execOvercurrent (loop : LoopIx) (s : State) : Host.Outcome State Fault Refusal :=
  whenPowered (tripChannel loop) s

/-- The remaining seconds of an OPENING estimate have reached 0 (R16). -/
def openingOver (i : LoopIx) (s : State) : Bool := (s.channels.get i).valve = .opening 0

/-- The estimate becomes OPEN, open-since 0 (R15). -/
def finishOpening (i : LoopIx) (s : State) : State :=
  putChannel i { s.channels.get i with valve := .isOpen 0 } s

/-- OPENING_ENDS (R16). -/
def execOpeningEnds (loop : LoopIx) (after : Nat) (s : State) : Host.Outcome State Fault Refusal :=
  whenPowered (timed after (openingOver loop) (finishOpening loop)) s

/-- The remaining seconds of a CLOSING estimate have reached 0 (R16). -/
def closingOver (i : LoopIx) (s : State) : Bool := (s.channels.get i).valve = .closing 0

/-- The estimate becomes CLOSED (R15). -/
def finishClosing (i : LoopIx) (s : State) : State :=
  putChannel i { s.channels.get i with valve := .closed } s

/-- CLOSING_ENDS (R16). -/
def execClosingEnds (loop : LoopIx) (after : Nat) (s : State) : Host.Outcome State Fault Refusal :=
  whenPowered (timed after (closingOver loop) (finishClosing loop)) s

/-- The remaining seconds of an active channel test have reached 0 (R19). -/
def testOver (s : State) : Bool :=
  match s.test with
  | .active _ _ r => r = 0
  | .idle | .queued _ _ => false

/-- The test ends: its channel released, the record IDLE (R19). -/
def finishTest (s : State) : State :=
  match s.test with
  | .active i _ _ => (releaseOne i s).setTest .idle
  | .idle | .queued _ _ => s

/-- TEST_END (R19). -/
def execTestEnd (after : Nat) (s : State) : Host.Outcome State Fault Refusal :=
  whenPowered (timed after testOver finishTest) s

/-- The pump hold timer has reached 0 in HOLD (R128). -/
def holdOver (s : State) : Bool := s.supply.pump = .hold && s.supply.holdTimer = some 0

/-- HOLD becomes OFF, the timer stopped (R128). -/
def finishHold (s : State) : State :=
  s.setSupply { s.supply with pump := .off, holdTimer := none }

/-- PUMP_HOLD_EXPIRY (R128). -/
def execPumpHoldExpiry (after : Nat) (s : State) : Host.Outcome State Fault Refusal :=
  whenPowered (timed after holdOver finishHold) s

/-- SAVE_COMPLETES (R171): at any instant of a save in progress. -/
def execSaveCompletes (after : Nat) (s : State) : Host.Outcome State Fault Refusal :=
  whenPowered (timed after saving completeSave) s

end Sys2Proof.Machine
end

