-- ==== Sys2Proof/Machine/ResetEvents.lean ====
section
/-! DEFINITION. The rows of the supply and the reset input: POWER_ON, RESET_INPUT, POWER_LOSS. -/

namespace Sys2Proof.Machine

/-- POWER_ON (R174), with the value of the address straps. A power-on of a part that has power means
that its supply went and came back (log 27). -/
def execPowerOn (straps : BitVec 2) (s : State) : Host.Outcome State Fault Refusal :=
  .next (driveLines (powerUp straps s))

/-- RESET_INPUT (R174), with the value of the address straps at its release. -/
def execResetInput (straps : BitVec 2) (s : State) : Host.Outcome State Fault Refusal :=
  whenPowered (powerUp straps) s

/-- POWER_LOSS (R172). -/
def execPowerLoss (s : State) : Host.Outcome State Fault Refusal := whenPowered losePower s

end Sys2Proof.Machine
end

