-- ==== Sys2Proof/Machine/Clock.lean ====
section
/-! DEFINITION. One second on an empty queue (log 3): the counts move, and the events that fall due are
queued, in an order the manual leaves free (log 4). -/

namespace Sys2Proof.Machine

/-- The command, when its event is due. -/
def whenDue (due : Bool) (c : Instr) : List Instr := if due then [c] else []

/-- The events of one channel that are due (R9, R11, R16). What a load check reads is free (log 5). -/
def dueOfChannel (s : State) (i : LoopIx) : List Instr :=
  whenDue (openingOver i s) (.openingEnds i 0) ++ whenDue (closingOver i s) (.closingEnds i 0)
    ++ whenDue (closeReached i s) (.closeTimeReached i 0)
    ++ whenDue (loadCheckDue i s) (.loadCheck i (Config.senseShowsLoad s.draws i) 0)

/-- A save in progress completes now: at its 2 s bound at the latest (R171, log 6). -/
def saveDue (s : State) : Bool :=
  saving s && (s.store.saveLeft = 0 || Config.saveCompletesEarly s.draws)

/-- One JOIN for each plan entry whose join time is reached (R110). -/
def dueJoins (s : State) : List Instr :=
  if s.period.mode.heats then
    (s.arb.plan.filter fun e =>
      e.joinTime ≤ s.period.time && e.joinTime < s.period.eff.period).map fun _ => .join 0
  else []

/-- Every event that has fallen due by itself: R9, R11, R16, R19, R47, R53, R68, R69, R79, R110, R116,
R128, R150, R171. -/
def dueEvents (s : State) : List Instr :=
  allLoops.flatMap (dueOfChannel s)
    ++ allRooms.flatMap (fun r => whenDue (ageDue r s) (.ageExpiry r 0))
    ++ whenDue (testOver s) (.testEnd 0)
    ++ whenDue (s.seg.pollTimer = 0) (.pollTimerExpiry 0)
    ++ whenDue (forwardExpired s) (.forwardTimeoutExpiry ⟨0, .absent⟩)
    ++ whenDue (flushExpired s) (.flushTimerExpiry 0)
    ++ List.replicate (ticksOwed s) (.measurementTick 0)
    ++ whenDue (boundaryDue s) (.regularBoundary 0)
    ++ dueJoins s
    ++ whenDue (spacingReached s) (.spacingExpiry 0)
    ++ whenDue (holdOver s) (.pumpHoldExpiry 0)
    ++ whenDue (saveDue s) (.saveCompletes 0)

/-- Events of one instant in some order: each is put at a free place among those after it (log 4). -/
def inFreeOrder (draw : Nat) : List Instr → List Instr
  | [] => []
  | c :: rest =>
    match inFreeOrder draw rest with
    | [] => [c]
    | d :: more =>
      (d :: more).insertIdx (Config.orderChoice draw rest.length % (more.length + 2)) c

/-- One second passes with nothing commanded: the counts move and what falls due is queued (log 3). -/
def idleSecond (s : State) : State :=
  if s.powered then
    let t := elapse 1 s
    (t.setPending (inFreeOrder t.draws (dueEvents t))).setDraws (t.draws + 1)
  else s

end Sys2Proof.Machine
end

