-- ==== Sys2Proof/Machine/Dispatch.lean ====
section
/-! DEFINITION. One arm per command: each calls its meaning. -/

namespace Sys2Proof.Machine

def exec (i : Instr) (s : State) : Host.Outcome State Fault Refusal :=
  match i with
  | .writeLoop frame => Sys2Proof.Machine.execWriteLoop frame s
  | .writeRoom frame => Sys2Proof.Machine.execWriteRoom frame s
  | .writeProbe frame => Sys2Proof.Machine.execWriteProbe frame s
  | .writeManifoldGroup0 frame => Sys2Proof.Machine.execWriteManifoldGroup0 frame s
  | .writeManifoldGroup1 frame => Sys2Proof.Machine.execWriteManifoldGroup1 frame s
  | .writeManifoldGroup2 frame => Sys2Proof.Machine.execWriteManifoldGroup2 frame s
  | .writeManifoldGroup3 frame => Sys2Proof.Machine.execWriteManifoldGroup3 frame s
  | .setModeRun frame => Sys2Proof.Machine.execSetModeRun frame s
  | .setModeStop frame => Sys2Proof.Machine.execSetModeStop frame s
  | .setModeFlush frame => Sys2Proof.Machine.execSetModeFlush frame s
  | .clearChannel frame => Sys2Proof.Machine.execClearChannel frame s
  | .clearProbe frame => Sys2Proof.Machine.execClearProbe frame s
  | .clearAll frame => Sys2Proof.Machine.execClearAll frame s
  | .testChannel frame => Sys2Proof.Machine.execTestChannel frame s
  | .save frame => Sys2Proof.Machine.execSave frame s
  | .restartRuntime frame => Sys2Proof.Machine.execRestartRuntime frame s
  | .restartReload frame => Sys2Proof.Machine.execRestartReload frame s
  | .restartFactory frame => Sys2Proof.Machine.execRestartFactory frame s
  | .seed frame => Sys2Proof.Machine.execSeed frame s
  | .unknownKind kind mark => Sys2Proof.Machine.execUnknownKind kind mark s
  | .manifoldStatus frame => Sys2Proof.Machine.execManifoldStatus frame s
  | .loopStatus frame => Sys2Proof.Machine.execLoopStatus frame s
  | .roomStatus frame => Sys2Proof.Machine.execRoomStatus frame s
  | .probeStatus frame => Sys2Proof.Machine.execProbeStatus frame s
  | .periodSummary frame => Sys2Proof.Machine.execPeriodSummary frame s
  | .readLoop frame => Sys2Proof.Machine.execReadLoop frame s
  | .readRoom frame => Sys2Proof.Machine.execReadRoom frame s
  | .readProbe frame => Sys2Proof.Machine.execReadProbe frame s
  | .readManifold frame => Sys2Proof.Machine.execReadManifold frame s
  | .lastResult frame => Sys2Proof.Machine.execLastResult frame s
  | .report address frame => Sys2Proof.Machine.execReport address frame s
  | .forwardOffer header bytes nackAt mark => Sys2Proof.Machine.execForwardOffer header bytes nackAt mark s
  | .forwardTimeoutExpiry run => Sys2Proof.Machine.execForwardTimeoutExpiry run s
  | .pollTimerExpiry after => Sys2Proof.Machine.execPollTimerExpiry after s
  | .roomTransactionEnd ending turn => Sys2Proof.Machine.execRoomTransactionEnd ending turn s
  | .roomHoldTimeout held => Sys2Proof.Machine.execRoomHoldTimeout held s
  | .toolRequestRaised => Sys2Proof.Machine.execToolRequestRaised s
  | .toolRequestDropped => Sys2Proof.Machine.execToolRequestDropped s
  | .ageExpiry room after => Sys2Proof.Machine.execAgeExpiry room after s
  | .probeCycleComplete probe line => Sys2Proof.Machine.execProbeCycleComplete probe line s
  | .stuckError probe line => Sys2Proof.Machine.execStuckError probe line s
  | .measurementTick after => Sys2Proof.Machine.execMeasurementTick after s
  | .flushTimerExpiry after => Sys2Proof.Machine.execFlushTimerExpiry after s
  | .regularBoundary after => Sys2Proof.Machine.execRegularBoundary after s
  | .join after => Sys2Proof.Machine.execJoin after s
  | .spacingExpiry after => Sys2Proof.Machine.execSpacingExpiry after s
  | .closeTimeReached loop after => Sys2Proof.Machine.execCloseTimeReached loop after s
  | .loadCheck loop load after => Sys2Proof.Machine.execLoadCheck loop load after s
  | .overcurrent loop => Sys2Proof.Machine.execOvercurrent loop s
  | .openingEnds loop after => Sys2Proof.Machine.execOpeningEnds loop after s
  | .closingEnds loop after => Sys2Proof.Machine.execClosingEnds loop after s
  | .testEnd after => Sys2Proof.Machine.execTestEnd after s
  | .pumpHoldExpiry after => Sys2Proof.Machine.execPumpHoldExpiry after s
  | .saveCompletes after => Sys2Proof.Machine.execSaveCompletes after s
  | .powerOn straps => Sys2Proof.Machine.execPowerOn straps s
  | .resetInput straps => Sys2Proof.Machine.execResetInput straps s
  | .acceptedEdge probe line => Sys2Proof.Machine.execAcceptedEdge probe line s
  | .unknownFetchKind kind mark => Sys2Proof.Machine.execUnknownFetchKind kind mark s
  | .powerLoss => Sys2Proof.Machine.execPowerLoss s

end Sys2Proof.Machine
end

