-- ==== Sys2Proof/Safety.lean ====
section
/-! DEFINITION. What a safe run of the Lispan 716 is, in the terms the claims use: the good frames and
what the House Port does with a frame, and the invariants that the manual's rules give the state. -/

namespace Sys2Proof.Machine

/-! ## Frames at the own address -/

/-- The bytes of a SEND from its header to its last payload byte (R141). -/
def sendHead (own : BitVec 7) (k : SendKind) (payload : List Byte) : List Byte :=
  [headerByte own false, k.code, byteOf payload.length] ++ payload

/-- Every byte of a SEND, its check byte included (R141). -/
def sendBytes (own : BitVec 7) (k : SendKind) (payload : List Byte) : List Byte :=
  sendHead own k payload ++ [checkByte (sendHead own k payload)]

/-- The SEND of a kind and payload to the own address, its length and check as R141 asks. -/
def goodFrame (s : State) (k : SendKind) (payload : List Byte) (mark : Mark) : SendFrame :=
  { bytes := (sendBytes s.house.own k payload).drop 2, mark := mark }

/-- The part has power and does not hold the clock: it takes a transaction of the house controller. -/
def State.listens (s : State) : Prop := s.powered = true ∧ s.house.held = false

/-- The House Port after a SEND that its owner answered with a result (R144, R155): every byte before
the check byte acknowledged, the check byte as the result says, and the result recorded. -/
def House.afterSend (h : House) (k : SendKind) (payload : List Byte) (r : Result) (mark : Mark) :
    House :=
  { h with
    state := afterMark (if r.accepted then .own else .ignoring) mark
    received := sendBytes h.own k payload
    sent := []
    acks := List.replicate (payload.length + 3) true ++ [r.accepted]
    lastResult := r
    lastKind := some k.code }

/-- The House Port after a SEND refused by itself at the last of these bytes (R142, R144, R146). -/
def House.afterRefusal (h : House) (bytes : List Byte) (r : Result) (kind : Byte) (mark : Mark) :
    House :=
  { h with
    state := afterMark .ignoring mark
    received := bytes
    sent := []
    acks := List.replicate (bytes.length - 1) true ++ [false]
    errors := min 65535 (h.errors + 1)
    lastResult := r
    lastKind := some kind }

/-- The House Port after bytes that it left unacknowledged at the last, with nothing counted or
recorded (R142, R143, R145, R147, R148). -/
def House.ignoringAfter (h : House) (bytes : List Byte) (mark : Mark) : House :=
  { h with
    state := afterMark .ignoring mark
    received := bytes
    sent := []
    acks := List.replicate (bytes.length - 1) true ++ [false] }

/-- The House Port after a selector that it answered with a payload, every byte of the reply taken by
the house controller (R141, R145, R147). -/
def House.afterReply (h : House) (head payload : List Byte) (done : HouseState) (mark : Mark) :
    House :=
  { h with
    state := afterMark done mark
    received := head
    sent := byteOf payload.length :: payload
      ++ [checkByte (head ++ byteOf payload.length :: payload)]
    acks := List.replicate head.length true }

/-- The kind and frame of a row that is a SEND of a known kind at the own address. -/
def ownSendOf : Instr → Option (SendKind × SendFrame)
  | .writeLoop f => some (.writeLoop, f)
  | .writeRoom f => some (.writeRoom, f)
  | .writeProbe f => some (.writeProbe, f)
  | .writeManifoldGroup0 f | .writeManifoldGroup1 f | .writeManifoldGroup2 f
  | .writeManifoldGroup3 f => some (.writeManifold, f)
  | .setModeRun f | .setModeStop f | .setModeFlush f => some (.setMode, f)
  | .clearChannel f | .clearProbe f | .clearAll f => some (.clear, f)
  | .testChannel f => some (.testChannel, f)
  | .save f => some (.save, f)
  | .restartRuntime f | .restartReload f | .restartFactory f => some (.restart, f)
  | .seed f => some (.seed, f)
  | .unknownKind .. | .manifoldStatus .. | .loopStatus .. | .roomStatus .. | .probeStatus ..
  | .periodSummary .. | .readLoop .. | .readRoom .. | .readProbe .. | .readManifold ..
  | .lastResult .. | .report .. | .forwardOffer .. | .forwardTimeoutExpiry .. | .pollTimerExpiry ..
  | .roomTransactionEnd .. | .roomHoldTimeout .. | .toolRequestRaised | .toolRequestDropped
  | .ageExpiry .. | .probeCycleComplete .. | .stuckError .. | .measurementTick ..
  | .flushTimerExpiry .. | .regularBoundary .. | .join .. | .spacingExpiry .. | .closeTimeReached ..
  | .loadCheck .. | .overcurrent .. | .openingEnds .. | .closingEnds .. | .testEnd ..
  | .pumpHoldExpiry .. | .saveCompletes .. | .powerOn .. | .resetInput .. | .acceptedEdge ..
  | .unknownFetchKind .. | .powerLoss => none

/-- The kind and frame of a row that is a FETCH of a known kind at the own address. -/
def ownFetchOf : Instr → Option (FetchKind × FetchFrame)
  | .manifoldStatus f => some (.manifoldStatus, f)
  | .loopStatus f => some (.loopStatus, f)
  | .roomStatus f => some (.roomStatus, f)
  | .probeStatus f => some (.probeStatus, f)
  | .periodSummary f => some (.periodSummary, f)
  | .readLoop f => some (.readLoop, f)
  | .readRoom f => some (.readRoom, f)
  | .readProbe f => some (.readProbe, f)
  | .readManifold f => some (.readManifold, f)
  | .lastResult f => some (.lastResult, f)
  | .writeLoop .. | .writeRoom .. | .writeProbe .. | .writeManifoldGroup0 ..
  | .writeManifoldGroup1 .. | .writeManifoldGroup2 .. | .writeManifoldGroup3 .. | .setModeRun ..
  | .setModeStop .. | .setModeFlush .. | .clearChannel .. | .clearProbe .. | .clearAll ..
  | .testChannel .. | .save .. | .restartRuntime .. | .restartReload .. | .restartFactory ..
  | .seed .. | .unknownKind .. | .report .. | .forwardOffer .. | .forwardTimeoutExpiry ..
  | .pollTimerExpiry .. | .roomTransactionEnd .. | .roomHoldTimeout .. | .toolRequestRaised
  | .toolRequestDropped | .ageExpiry .. | .probeCycleComplete .. | .stuckError ..
  | .measurementTick .. | .flushTimerExpiry .. | .regularBoundary .. | .join .. | .spacingExpiry ..
  | .closeTimeReached .. | .loadCheck .. | .overcurrent .. | .openingEnds .. | .closingEnds ..
  | .testEnd .. | .pumpHoldExpiry .. | .saveCompletes .. | .powerOn .. | .resetInput ..
  | .acceptedEdge .. | .unknownFetchKind .. | .powerLoss => none

/-- The address is that of room `r` alone, under a proxy mode, and not the part's own. -/
def ProxiedAt (s : State) (r : RoomIx) (a : BitVec 7) (mode : ProxyMode) : Prop :=
  a ≠ 0 ∧ a ≠ s.house.own ∧ (s.rooms.get r).cfg.address = a ∧ (s.rooms.get r).cfg.proxy = mode
    ∧ mode ≠ .off ∧ ∀ q, q ≠ r → (s.rooms.get q).cfg.address ≠ a

/-! ## What a release, a grant and a pass give, as the manual tabulates them -/

/-- A channel after a release (R8, R15): released, without close time and load check, an OPENING estimate
CLOSED and an OPEN one CLOSING for the closing time in effect; a released channel is left as it is. -/
def Channel.afterRelease (tClose : Nat) (c : Channel) : Channel :=
  if c.energised then
    { c with
      energised := false
      closeTime := none
      loadCheck := none
      valve :=
        match c.valve with
        | .opening _ => .closed
        | .isOpen _ => .closing tClose
        | .closed => .closed
        | .closing x => .closing x }
  else c

/-- A channel after a grant (R7, R15): energised with the close time the grant carries, its load check 2 s
ahead, a CLOSED estimate OPENING for the opening time in effect and a CLOSING one OPEN at once. -/
def Channel.afterGrant (tOpen : Nat) (close : Option Nat) (c : Channel) : Channel :=
  { c with
    energised := true
    closeTime := close
    loadCheck := some 2
    valve :=
      match c.valve with
      | .closed => .opening tOpen
      | .closing _ => .isOpen 0
      | .opening x => .opening x
      | .isOpen x => .isOpen x }

/-- The class and on-time that a demand and a K give a loop that takes part, with timing values `t`:
R95 (duty), R96 (effective time), R97 and R98 (class), R99 and R100 (on-time). -/
def ClassedAs (t : Timing) (policy : Policy) (demand k : Nat) (cls : LoopClass) (on : Nat) : Prop :=
  let u := min (demand * k / 1024) 1000
  let e := (u * t.period + 500) / 1000
  let onTime (x : Nat) : Int :=
    min (max ((x : Int) + t.tOpen - t.tClose) t.minPulse) t.period
  if u = 1000 ∨ (t.period : Int) - t.margin ≤ e then cls = .continuous ∧ on = t.period
  else if e = 0 then cls = .off ∧ on = 0
  else if t.eMin ≤ e then cls = .pulse ∧ (on : Int) = onTime e
  else if policy = .suppress then cls = .off ∧ on = 0
  else if (t.period : Int) - t.margin ≤ t.eMin then cls = .continuous ∧ on = t.period
  else cls = .pulse ∧ (on : Int) = onTime t.eMin

/-- The mean drop, the step and the new K that a full pass gives a loop that takes part, whose class in
the period just ended was `ended`: R87 (mean drop), R88 to R90 (target, relative error, step), R91
(wind-up hold), R92 (new K). Divisions truncate toward zero. -/
def LearnedAs (g : Group1) (l : Loop) (ended : LoopClass) (mean : Option Int) (step : Int) (k : Nat) :
    Prop :=
  if l.n < g.nMeas then mean = none ∧ step = 0 ∧ k = l.k
  else
    let m := l.sigma.tdiv l.n
    let target : Int := l.cfg.target.getD g.target
    let rel := ((m - target) * 1024).tdiv target
    let limited := max (-(g.stepMax : Int)) (min ((rel * g.gain).tdiv 1024) g.stepMax)
    mean = some m
      ∧ step = (if 0 < limited ∧ ended = .continuous then 0 else limited)
      ∧ (k : Int) = max (l.cfg.kmin : Int)
          (min ((l.k : Int) + ((l.k : Int) * step).tdiv 1024) (l.cfg.kmax : Int))

/-- Where water flows through a valve the pump request has work: the supply after one channel's estimate
has come to flow, or has ceased to, with `others` telling whether any other valve flows (R127, R128);
under the overheat latch nothing moves it (R134). -/
def Supply.afterFlow (p : Supply) (flows others : Bool) (pumpHold : Nat) : Supply :=
  if p.latch || others then p
  else if flows then { p with pump := .on, holdTimer := none }
  else if p.pump = .on then
    if pumpHold = 0 then { p with pump := .off, holdTimer := none }
    else { p with pump := .hold, holdTimer := some pumpHold }
  else p

/-- Some channel but this one has a flowing valve. -/
def othersFlow (s : State) (i : LoopIx) : Bool :=
  allLoops.any fun j => decide (j ≠ i) && (s.channels.get j).valve.flows

/-- A grant can be made: the energised count is below the holding limit, and no grant was made within the
start spacing (R115). -/
def Grantable (u : State) : Prop :=
  energisedCount u < u.period.eff.limit
    ∧ ∀ x, u.arb.sinceGrant = some x → u.period.eff.spacing ≤ x

/-- A loop at the head granted, the queue behind it `q` (R118): a PULSE loop with its close time, capped at
P and then marked clipped (R119); the grant time recorded. -/
def State.afterLoopGrant (u : State) (i : LoopIx) (q : List QueueEntry) : State :=
  let stop := u.period.time + (u.loops.get i).onTime
  let pulse := (u.loops.get i).cls = .pulse
  { u with
    channels := u.channels.set i ((u.channels.get i).afterGrant u.period.eff.tOpen
      (if pulse then some (min stop u.period.eff.period) else none))
    arb := { u.arb with queue := q, sinceGrant := some 0 }
    period := { u.period with
      records := u.period.records.map fun b => b.set i { b.get i with
        grantTime := some u.period.time, clipped := pulse ∧ u.period.eff.period < stop } } }

/-- A test entry at the head granted (R118, R19): no close time, and the test ACTIVE for its duration. -/
def State.afterTestGrant (u : State) (i j : LoopIx) (duration : Nat) (q : List QueueEntry) : State :=
  { u with
    channels := u.channels.set i ((u.channels.get i).afterGrant u.period.eff.tOpen none)
    arb := { u.arb with queue := q, sinceGrant := some 0 }
    test := .active j duration duration }

/-- The head of the queue granted: a loop's entry, or a test's (R118). -/
def State.afterHeadGrant (u : State) : State :=
  match u.arb.queue with
  | [] => u
  | .loop i :: q => u.afterLoopGrant i q
  | .test i :: q =>
    match u.test with
    | .queued j d => u.afterTestGrant i j d q
    | .idle | .active _ _ _ =>
      { u with
        channels := u.channels.set i ((u.channels.get i).afterGrant u.period.eff.tOpen none)
        arb := { u.arb with queue := q, sinceGrant := some 0 } }

/-- Head after head granted, `n` of them. -/
def State.afterGrants (u : State) : Nat → State
  | 0 => u
  | n + 1 => u.afterHeadGrant.afterGrants n

/-- What a grant opportunity makes of `u` (R115, R116): nothing when no grant can be made, the head granted
otherwise; with start spacing 0, head after head until the queue is empty or the holding limit reached. -/
def AfterOpportunity (u r : State) : Prop :=
  (u.arb.queue = [] ∨ ¬ Grantable u → r = u)
    ∧ (u.arb.queue ≠ [] → Grantable u → 0 < u.period.eff.spacing → r = u.afterHeadGrant)
    ∧ (u.arb.queue ≠ [] → Grantable u → u.period.eff.spacing = 0 →
        ∃ n, n ≤ u.arb.queue.length ∧ r = u.afterGrants n
          ∧ (∀ m, m < n → energisedCount (u.afterGrants m) < u.period.eff.limit)
          ∧ (n = u.arb.queue.length ∨ u.period.eff.limit ≤ energisedCount r))

/-! ## What a new period begins with (R75, R76, R109) -/

/-- The loop's channel is still energised after the close-out, and its new class is CONTINUOUS (R72,
R75). -/
def keepsRunning (old u : State) (i : LoopIx) : Bool :=
  (old.channels.get i).energised && decide ((old.loops.get i).cls ≠ .pulse)
    && decide ((u.loops.get i).cls = .continuous)

/-- The loop is carried: one of the lowest-numbered such loops, as many as the holding limit allows
(R75). -/
def isCarried (old u : State) (i : LoopIx) : Bool :=
  keepsRunning old u i
    && decide ((allLoops.filter fun j => decide (j < i) && keepsRunning old u j).length
      < u.period.eff.limit)

/-- The channel of a loop as the new period begins: a carried one stays as it is, any other is released, by
the close-out for a PULSE loop and by the carry-over else, and the energised seconds are 0 (R72, R75,
R76). -/
def channelBegun (old u : State) (i : LoopIx) : Channel :=
  let c := old.channels.get i
  let kept :=
    if isCarried old u i then c
    else c.afterRelease
      (if (old.loops.get i).cls = .pulse then old.period.eff.tClose else u.period.eff.tClose)
  { kept with energisedSeconds := 0 }

/-- Loop i stands before loop j in the start plan (R109): CONTINUOUS loops first, by number, then PULSE
loops by falling on-time, equal ones by number. -/
def StartsBefore (u : State) (i j : LoopIx) : Prop :=
  let a := u.loops.get i
  let b := u.loops.get j
  (a.cls = .continuous ∧ (b.cls = .pulse ∨ b.cls = .continuous ∧ i < j))
    ∨ (a.cls = .pulse ∧ b.cls = .pulse
        ∧ (b.onTime < a.onTime ∨ b.onTime = a.onTime ∧ i < j))

/-- The state in which the new period's first grants are decided: channels as carried over, the loops that
need a start in the plan in the given order, the k-th at k times the start spacing, and those at 0 in the
queue; a fresh record for every loop (R76, R109, R110). -/
def periodBegun (old u : State) (order : List LoopIx) : State :=
  let first := if u.period.eff.spacing = 0 then order.length else 1
  { u with
    channels := Bank.ofFn fun i => channelBegun old u i
    arb :=
      { plan := (order.zipIdx.drop first).map fun e =>
          { loop := e.1, joinTime := e.2 * u.period.eff.spacing }
        queue := (order.take first).map fun i => .loop i
        sinceGrant := old.arb.sinceGrant }
    period := { u.period with
      records := some (u.loops.imap fun _ l =>
        { cls := l.cls, onTime := l.onTime, grantTime := none, clipped := false, missed := false
          closedEarly := false }) } }

/-- The boundary that found the part as `old` has left it as `u`, its classes set: the continuous
carry-over (R75), the start plan with its order and join times (R76, R109), and the first grants. -/
def PeriodBegins (old u : State) : Prop :=
  0 < u.period.eff.period →
    ∃ order : List LoopIx, order.Nodup ∧ order.Pairwise (StartsBefore u)
      ∧ (∀ i, i ∈ order ↔ (old.loops.get i).cfg.enabled = true
          ∧ (old.channels.get i).condition = .ready ∧ (u.loops.get i).cls ≠ .off
          ∧ (channelBegun old u i).energised = false)
      ∧ AfterOpportunity (periodBegun old u order) u

/-- A loop's record after `n` ticks at which nothing else happens (R69). -/
def loopTicked (t : State) (n : Nat) (i : LoopIx) : Loop :=
  match tickDrop t i with
  | some d => { t.loops.get i with
      sigma := (t.loops.get i).sigma + n * d, n := (t.loops.get i).n + n }
  | none => t.loops.get i

/-- The full pass of the boundary that found the part as `t`, with the period's records `rec` and `n` ticks
to take, and left it as `u`: the summary of the period with what each loop waited for, measured and learned,
and every loop's K, class and on-time (R72, R73, R82, R87 to R101). -/
def FullPass (t u : State) (rec : Bank PeriodRecord 16) (n : Nat) : Prop :=
  ∃ b, u.period.summary = some b ∧ ∀ i : LoopIx,
    let e := b.get i
    let part : Prop := (t.loops.get i).cfg.enabled = true ∧ (t.channels.get i).condition = .ready
    e.planned.cls = (rec.get i).cls ∧ e.planned.onTime = (rec.get i).onTime
      ∧ e.planned.grantTime = (rec.get i).grantTime
      ∧ e.planned.clipped = (rec.get i).clipped ∧ e.planned.closedEarly = (rec.get i).closedEarly
      ∧ (e.planned.missed = true ↔ (rec.get i).missed = true ∨ .loop i ∈ t.arb.queue
          ∨ ∃ p ∈ t.arb.plan, p.loop = i)
      ∧ e.energisedSeconds = (t.channels.get i).energisedSeconds
      ∧ e.shortened = false ∧ e.n = (loopTicked t n i).n
      ∧ e.kBefore = (t.loops.get i).k ∧ e.kAfter = (u.loops.get i).k
      ∧ (part →
          LearnedAs t.params.g1 (loopTicked t n i) (rec.get i).cls e.meanDrop e.step (u.loops.get i).k
          ∧ ClassedAs t.params.timing (t.loops.get i).cfg.policy (loopDemand t i)
              (u.loops.get i).k (u.loops.get i).cls (u.loops.get i).onTime)
      ∧ (¬ part → (u.loops.get i).k = (t.loops.get i).k ∧ e.step = 0
          ∧ e.meanDrop = (if (loopTicked t n i).n < t.params.g1.nMeas then none
              else some ((loopTicked t n i).sigma.tdiv (loopTicked t n i).n))
          ∧ (u.loops.get i).cls = .off ∧ (u.loops.get i).onTime = 0)

/-- The demand-drop reports that wait for the boundary find nothing to close after it (R78): their rooms'
demand is 0, and with the group 0 values of the table a demand of 0 gives the class OFF. -/
def DropsFindNothing (s : State) : Prop :=
  ∀ r ∈ s.period.drops, derivedDemand (s.rooms.get r) = 0
    ∧ s.params.timing.margin < s.params.timing.period

/-- The supply bias recomputed from the rooms of `t` and the classes that `u` begins with (R131), where the
latch has left the classes of the pass as they were: a room is starved when it is FRESH at demand 1000, its
loops that take part, one at least, are all CONTINUOUS, and its air lies 50 cK or more below its setpoint. -/
def BiasRecomputed (t u : State) : Prop :=
  let part (r : RoomIx) (i : LoopIx) : Prop := (t.loops.get i).cfg.enabled = true
    ∧ (t.channels.get i).condition = .ready ∧ (t.loops.get i).cfg.room = some r
  let starved (r : RoomIx) : Prop :=
    (t.rooms.get r).freshness = .fresh ∧ derivedDemand (t.rooms.get r) = 1000
      ∧ (∃ i, part r i) ∧ (∀ i, part r i → (u.loops.get i).cls = .continuous)
      ∧ ∃ v, (t.rooms.get r).report = some v ∧ v.air ≤ v.setpoint - 50
  ((∃ r, starved r) → u.supply.bias = min (t.supply.bias + 50)
      (t.params.g1.supplyMax - t.params.g1.supplyBase).toNat)
    ∧ ((∀ r, ¬ starved r) → (∀ i, (u.loops.get i).cls ≠ .continuous) →
        u.supply.bias = t.supply.bias - 50)
    ∧ ((∀ r, ¬ starved r) → (∃ i, (u.loops.get i).cls = .continuous) →
        u.supply.bias = t.supply.bias)

/-- The state with every FRESH or AGED room whose age is above the hold time LOST (R47). -/
def State.agesExpired (s : State) : State :=
  { s with rooms := s.rooms.imap fun _ v =>
      if (v.freshness = .fresh ∨ v.freshness = .aged) ∧ s.params.g2.holdTime < v.age then
        { v with freshness := .lost }
      else v }

/-- The flush is due to end at the tick at period time `tickTime`: its timer has reached 0, and not after
that tick (R79, log 35). -/
def FlushEndsAt (t : State) (tickTime : Nat) : Prop :=
  (t.period.flushDue = true ∨ t.period.flushTimer = some 0)
    ∧ ∀ x, t.period.flushRanOut = some x → x ≤ tickTime

/-- One completed pass reported to the store (R173): the autosave count, and the save that begins as it
reaches the interval. -/
def PassReported (t u : State) : Prop :=
  let interval := t.params.g3.autosave
  let count := if t.store.autosave = interval then interval else t.store.autosave + 1
  (interval = 0 → u.store = { t.store with autosave := 0 })
    ∧ (0 < interval → (count ≠ interval ∨ t.store.snapshot ≠ none) →
        u.store = { t.store with autosave := count })
    ∧ (0 < interval → count = interval → t.store.snapshot = none →
        u.store.snapshot = some (imageBody (tablesOf u)) ∧ u.store.autosave = 0
          ∧ u.store.image.load = none)

/-- A channel test ended, its channel released (R20, R65). -/
def State.afterTestEnds (s : State) : State :=
  { s with
    channels :=
      match s.test with
      | .active i _ _ =>
        s.channels.set i ((s.channels.get i).afterRelease s.period.eff.tClose)
      | .idle | .queued _ _ => s.channels }

/-! ## What falls due by itself -/

/-- How many times a command is among the events that are due (R9, R11, R16, R19, R47, R53, R68, R69, R79,
R110, R116, R128, R150, R171): a tick once for each multiple of 10 s below P not yet taken, a join once for
each plan entry at its join time, any other event once. What a load check reads, and when within its 2 s a
save completes, is free (log 5, log 6). -/
def dueTimes (s : State) (c : Instr) : Nat :=
  let once (due : Bool) : Nat := if due then 1 else 0
  match c with
  | .openingEnds i 0 => once (decide ((s.channels.get i).valve = .opening 0))
  | .closingEnds i 0 => once (decide ((s.channels.get i).valve = .closing 0))
  | .closeTimeReached i 0 =>
    once ((s.channels.get i).energised && (s.channels.get i).closeTime.any fun x =>
      decide (x ≤ s.period.time ∧ x < s.period.eff.period))
  | .loadCheck i load 0 =>
    once (decide ((s.channels.get i).energised = true ∧ (s.channels.get i).loadCheck = some 0
      ∧ load = Config.senseShowsLoad s.draws i))
  | .ageExpiry r 0 =>
    once (decide (((s.rooms.get r).freshness = .fresh ∨ (s.rooms.get r).freshness = .aged)
      ∧ s.params.g2.holdTime < (s.rooms.get r).age))
  | .testEnd 0 =>
    match s.test with
    | .active _ _ 0 => 1
    | .idle | .queued _ _ | .active _ _ _ => 0
  | .pollTimerExpiry 0 => once (decide (s.seg.pollTimer = 0))
  | .forwardTimeoutExpiry run =>
    once (decide (run.after = 0 ∧ run.mark = .absent ∧ s.house.held = true
      ∧ s.house.timeout = some 0))
  | .flushTimerExpiry 0 =>
    once (decide (s.period.mode = .flush ∧ s.period.flushTimer = some 0
      ∧ s.period.flushDue = false))
  | .measurementTick 0 =>
    if s.period.mode = .stopped then 0
    else (min s.period.time (s.period.eff.period - 1) - s.period.lastTick) / 10
  | .regularBoundary 0 =>
    once (decide (s.period.mode ≠ .stopped ∧ s.period.eff.period ≤ s.period.time))
  | .join 0 =>
    if s.period.mode = .running ∨ s.period.mode = .flush then
      s.arb.plan.countP fun e =>
        decide (e.joinTime ≤ s.period.time ∧ e.joinTime < s.period.eff.period)
    else 0
  | .spacingExpiry 0 =>
    once (decide (s.arb.queue ≠ [])
      && s.arb.sinceGrant.any fun x => decide (s.period.eff.spacing ≤ x))
  | .pumpHoldExpiry 0 => once (decide (s.supply.pump = .hold ∧ s.supply.holdTimer = some 0))
  | .saveCompletes 0 =>
    once (s.store.snapshot.isSome
      && (decide (s.store.saveLeft = 0) || Config.saveCompletesEarly s.draws))
  | _ => 0

/-! ## The room segment -/

/-- Room r is in use, and its number is c or above (R54). -/
def PollableAt (s : State) (c : Nat) (r : RoomIx) : Prop :=
  (s.rooms.get r).cfg.address ≠ 0 ∧ c ≤ r.val + 1

/-- What R53 and R54 make of a cycle with this cursor: it ends when no room in use is left for it, and a
pending cycle then starts at room 1, or ends at once with no room in use. -/
def CycleChecked (s : State) (cursor cursor' : Option Nat) (pending' : Bool) : Prop :=
  (∀ c, cursor = some c → (∀ r, ¬ PollableAt s c r) →
      pending' = false
        ∧ (s.seg.pendingCycle = true → (∃ r, PollableAt s 1 r) → cursor' = some 1)
        ∧ (s.seg.pendingCycle = false ∨ (∀ r, ¬ PollableAt s 1 r) → cursor' = none))
    ∧ (cursor = none ∨ (∃ c r, cursor = some c ∧ PollableAt s c r) →
        cursor' = cursor ∧ pending' = s.seg.pendingCycle)

/-- What an IDLE controller chooses (R55): the tool's grant, else the waiting forward (R57), else the poll
of the lowest room the cycle is due at (R54), else nothing. -/
def Chosen (s : State) (cursor : Option Nat) (slot : Slot) (seg : Segment) : Prop :=
  (s.toolRequest = true → seg.activity = .granted ∧ seg.slot = slot)
    ∧ (∀ a f, s.toolRequest = false → slot = .waiting a f →
        seg.activity = .forwarding
          { address := a, sent := forwardBytes a f, holdLimit := s.params.g2.holdLimit
            timedOut := false, ended := false, stale := false }
        ∧ seg.slot = .active a f false)
    ∧ (s.toolRequest = false → (∀ a f, slot ≠ .waiting a f) → seg.slot = slot
        ∧ (cursor = none → seg.activity = .idle)
        ∧ ∀ c r, cursor = some c → PollableAt s c r → (∀ q, q < r → ¬ PollableAt s c q) →
          seg.activity = .polling r
            { address := (s.rooms.get r).cfg.address
              sent := [headerByte (s.rooms.get r).cfg.address true, 0x21, 0]
              holdLimit := s.params.g2.holdLimit
              timedOut := false, ended := false, stale := false })

/-- What the segment carries in a transaction that ends so, with the lengths that the 716 takes in a reply
(none for a SEND). R52: the 716 stops at a byte that is not acknowledged; it acknowledges each reply byte but
the check byte, and not a length that it does not take, which is then the last byte. A byte that the unit does
not drive is received as 0xFF (log 19); a transaction that a hold-off or a restart has cut short has the bytes
that had passed (log 36). -/
def CarriedIn (x : Transaction) (lengths : Option (Nat × Nat)) (e : RoomEnding) (b : RoomBytes) :
    Prop :=
  let cut : Prop := x.timedOut = true ∨ x.ended = true
  (∀ k, e = .nack k → b = { sent := x.sent.take (k + 1), received := [], acks := [] })
    ∧ ((∀ k, e ≠ .nack k) → b.sent = x.sent
      ∧ (lengths = none → b.received = [] ∧ b.acks = [])
      ∧ ∀ low high, lengths = some (low, high) →
        (e = .acked ∨ e = .reply [] →
          (cut → b.received = [] ∧ b.acks = [])
          ∧ (¬ cut → high < 255 → b.received = [0xFF] ∧ b.acks = [false]))
        ∧ ∀ len more, e = .reply (len :: more) →
          (len.toNat < low ∨ high < len.toNat → b.received = [len] ∧ b.acks = [false])
          ∧ (low ≤ len.toNat → len.toNat ≤ high →
            (len.toNat < more.length →
              b.received = len :: more.take (len.toNat + 1)
                ∧ b.acks = List.replicate (len.toNat + 1) true ++ [false])
            ∧ (more.length ≤ len.toNat → cut →
              b.received = len :: more ∧ b.acks = List.replicate (more.length + 1) true)
            ∧ (more.length ≤ len.toNat → ¬ cut →
              b.received = len :: more ++ List.replicate (len.toNat + 1 - more.length) 0xFF
                ∧ b.acks = List.replicate (len.toNat + 1) true ++ [false])))

/-- The lengths that the 716 takes in the reply to a forward: 0 to 32 for a FETCH, which its header says, and
none for a SEND (R52, R141). -/
def forwardReplyLengths (x : Transaction) : Option (Nat × Nat) :=
  if (x.sent.headD 0).getLsbD 0 then some (0, 32) else none

/-- The segment after a transaction's end, with the cursor and the slot that its outcome leaves: the cycle
is looked at, and the controller chooses (R54, R55). -/
def AfterTransactionEnd (s : State) (cursor : Option Nat) (slot : Slot) (seg : Segment) : Prop :=
  seg.pollTimer = s.seg.pollTimer ∧ CycleChecked s cursor seg.cursor seg.pendingCycle
    ∧ Chosen s seg.cursor slot seg

/-- The bytes after a header are those of a WRITE_ROOM or a WRITE_MANIFOLD: its kind byte leads them. -/
def writesRooms (bytes : List Byte) : Prop :=
  bytes.head? = some SendKind.writeRoom.code ∨ bytes.head? = some SendKind.writeManifold.code

/-- A command whose event can change a room's derived demand (R50): the end of a room transaction, an age
expiry, a WRITE_ROOM, and a WRITE_MANIFOLD, which can be of group 2; and a transaction with the own header
that carries one of these two (log 1). -/
def ChangesDemand (s : State) : Instr → Prop
  | .forwardOffer header bytes _ _ =>
    header = some (headerByte s.house.own false) ∧ writesRooms bytes
  | .roomTransactionEnd .. | .ageExpiry .. | .writeRoom .. | .writeManifoldGroup0 ..
  | .writeManifoldGroup1 .. | .writeManifoldGroup2 .. | .writeManifoldGroup3 .. => True
  | .writeLoop .. | .writeProbe .. | .setModeRun .. | .setModeStop .. | .setModeFlush ..
  | .clearChannel .. | .clearProbe .. | .clearAll .. | .testChannel .. | .save ..
  | .restartRuntime .. | .restartReload .. | .restartFactory .. | .seed .. | .unknownKind ..
  | .manifoldStatus .. | .loopStatus .. | .roomStatus .. | .probeStatus .. | .periodSummary ..
  | .readLoop .. | .readRoom .. | .readProbe .. | .readManifold .. | .lastResult .. | .report ..
  | .forwardTimeoutExpiry .. | .pollTimerExpiry .. | .roomHoldTimeout ..
  | .toolRequestRaised | .toolRequestDropped | .probeCycleComplete .. | .stuckError ..
  | .measurementTick .. | .flushTimerExpiry .. | .regularBoundary .. | .join .. | .spacingExpiry ..
  | .closeTimeReached .. | .loadCheck .. | .overcurrent .. | .openingEnds .. | .closingEnds ..
  | .testEnd .. | .pumpHoldExpiry .. | .saveCompletes .. | .powerOn .. | .resetInput ..
  | .acceptedEdge .. | .unknownFetchKind .. | .powerLoss => False

/-- A mark that the house controller makes apart from a frame, as the House Port takes it (R142): none in
PROXY_HELD. -/
def House.marked (h : House) (m : Mark) : House :=
  if h.held then h else { h with state := afterMark h.state m }

/-- One channel released, a test active on it ended (R8, R20). -/
def State.afterReleaseOf (u : State) (i : LoopIx) : State :=
  { u with
    channels := u.channels.set i ((u.channels.get i).afterRelease u.period.eff.tClose)
    test :=
      match u.test with
      | .active j d r => if j = i then .idle else .active j d r
      | .queued j d => .queued j d
      | .idle => .idle }

/-- A channel faulted: its condition, its loop out of the queue and the plan, the channel released (R11,
R12, R13). -/
def State.afterFault (u : State) (i : LoopIx) (c : Condition) : State :=
  { u with
    channels := u.channels.set i { u.channels.get i with condition := c }
    arb := { u.arb with
      plan := u.arb.plan.filter fun e => e.loop ≠ i
      queue := u.arb.queue.filter fun e => e ≠ QueueEntry.loop i } }.afterReleaseOf i

/-- What every kind of reset leaves of the blocks, once it has installed the tables `T` (R21, R39, R62,
R63, R84, R126, R139): with autorun on and a loop enabled, RUNNING by a forced boundary from STOPPED;
otherwise STOPPED with nothing planned. -/
def AfterReset (T : Tables) (t : State) : Prop :=
  let runs := T.params.g3.autorun = true ∧ ∃ i, (T.loops.get i).1.enabled = true
  t.powered = true ∧ t.params = T.params ∧ t.test = .idle
    ∧ t.probes = T.probes.imap (fun _ c => Probe.initial c)
    ∧ t.rooms = T.rooms.imap (fun _ c => Room.initial c)
    ∧ (∀ i, (t.loops.get i).cfg = (T.loops.get i).1 ∧ (t.loops.get i).k = (T.loops.get i).2
        ∧ (t.loops.get i).sigma = 0 ∧ (t.loops.get i).n = 0
        ∧ (t.channels.get i).condition = .ready ∧ (t.channels.get i).energisedSeconds = 0)
    ∧ t.period.eff = T.params.timing ∧ t.period.time = 0 ∧ t.period.flushTimer = none
    ∧ t.period.summary = none
    ∧ t.supply.pump = .on ∧ t.supply.holdTimer = none ∧ t.supply.bias = 0
    ∧ t.supply.latch = false ∧ t.supply.exitFlag = false
    ∧ t.seg.slot = .empty ∧ t.seg.pendingCycle = false
    ∧ t.seg.pollTimer = T.params.g2.pollInterval
    ∧ t.store.snapshot = none ∧ t.store.autosave = 0
    ∧ (runs → t.period.mode = .running
        ∧ ∀ i, if (T.loops.get i).1.enabled then
            ClassedAs T.params.timing (T.loops.get i).1.policy (loopDemand t i) (t.loops.get i).k
              (t.loops.get i).cls (t.loops.get i).onTime
          else (t.loops.get i).cls = .off ∧ (t.loops.get i).onTime = 0)
    ∧ (runs → PeriodBegins { t with
        channels := Bank.fill 16
          { energised := false, closeTime := none, condition := .ready, loadCheck := none
            energisedSeconds := 0, valve := .closing T.params.timing.tClose }
        arb := { plan := [], queue := [], sinceGrant := none } } t)
    ∧ (¬ runs → t.period.mode = .stopped ∧ t.period.records = none
        ∧ t.arb = { plan := [], queue := [], sinceGrant := none }
        ∧ ∀ i, (t.loops.get i).cls = .off ∧ (t.loops.get i).onTime = 0
          ∧ t.channels.get i =
              { energised := false, closeTime := none, condition := .ready, loadCheck := none
                energisedSeconds := 0, valve := .closing T.params.timing.tClose })

/-! ## Invariants -/

/-- Every K lies within its loop's bounds, and those within 128 to 4096 (R92). -/
def FactorsBounded (s : State) : Prop :=
  ∀ i, 128 ≤ (s.loops.get i).cfg.kmin ∧ (s.loops.get i).cfg.kmin ≤ (s.loops.get i).k
    ∧ (s.loops.get i).k ≤ (s.loops.get i).cfg.kmax ∧ (s.loops.get i).cfg.kmax ≤ 4096

/-- The estimate is OPENING or OPEN. -/
def Valve.driven : Valve → Bool
  | .opening _ => true
  | .isOpen _ => true
  | .closed => false
  | .closing _ => false

/-- A channel is energised exactly while its estimate is OPENING or OPEN (R15), and a released channel
has neither a close time nor a load check (R8). -/
def ChannelsCoherent (s : State) : Prop :=
  ∀ i, (s.channels.get i).energised = (s.channels.get i).valve.driven
    ∧ ((s.channels.get i).energised = false →
        (s.channels.get i).closeTime = none ∧ (s.channels.get i).loadCheck = none)

/-- The number of energised channels never exceeds the holding limit in effect (R115). -/
def HoldingLimitKept (s : State) : Prop := energisedCount s ≤ s.period.eff.limit

/-- The overheat latch is set exactly in OVERHEAT; there no channel is energised, the queue and the plan
are empty and the pump request is OFF (R134); outside it the pump request is ON exactly while water
flows (R128), and the hold timer runs exactly in HOLD. -/
def PumpFollowsFlow (s : State) : Prop :=
  (s.supply.latch = true ↔ s.period.mode = .overheat)
    ∧ (s.supply.latch = true →
        (∀ i, (s.channels.get i).energised = false) ∧ s.arb.queue = [] ∧ s.arb.plan = []
          ∧ s.supply.pump = .off)
    ∧ (s.supply.latch = false → (s.supply.pump = .on ↔ 0 < flowCount s.channels))
    ∧ (s.supply.holdTimer.isSome = true ↔ s.supply.pump = .hold)

/-- The clocks of the part: the milliseconds of the running second are below 1000 (log 2); the period time
does not pass P and is 0 in STOPPED (R64, R68); the last tick taken lies at a multiple of 10 s that the
period time has reached (R69, log 14); a demand-drop report waits only for a boundary that is due (R78,
log 34); and the flush timer runs in FLUSH alone, where the flush is due to end only once it is 0 (R79, log
35). -/
def ClocksSound (s : State) : Prop :=
  s.msPhase < 1000 ∧ s.period.time ≤ s.period.eff.period
    ∧ (s.period.mode = .stopped → s.period.time = 0)
    ∧ s.period.lastTick % 10 = 0 ∧ s.period.lastTick ≤ s.period.time
    ∧ (s.period.drops ≠ [] → s.period.mode ≠ .stopped ∧ s.period.eff.period ≤ s.period.time)
    ∧ (s.period.flushTimer.isSome = true ↔ s.period.mode = .flush)
    ∧ (s.period.flushDue = true → s.period.flushTimer = some 0)
    ∧ (∀ x, s.period.flushRanOut = some x → s.period.flushTimer = some 0 ∧ x ≤ s.period.time)

/-- Each auxiliary line of a part with power is at the level its source and sense give (R138). -/
def LinesFollow (s : State) : Prop :=
  s.powered = true →
    s.supply.lineA = lineLevel s s.params.g3.lineA ∧ s.supply.lineB = lineLevel s s.params.g3.lineB

/-- Room addresses are valid and distinct, and no loop names a room that is not in use (R42). -/
def RoomsSound (s : State) : Prop :=
  (∀ r, validAddress (s.rooms.get r).cfg.address = true)
    ∧ (∀ r q, r ≠ q → (s.rooms.get r).cfg.address ≠ 0 →
        (s.rooms.get r).cfg.address ≠ (s.rooms.get q).cfg.address)
    ∧ ∀ i r, (s.loops.get i).cfg.room = some r → (s.rooms.get r).cfg.inUse = true

/-- The supply request lies within supply base and supply max (R132). -/
def SupplyRequestBounded (s : State) : Prop :=
  s.params.g1.supplyBase ≤ supplyRequest s ∧ supplyRequest s ≤ s.params.g1.supplyMax

/-- While the store is SAVING its image fails its check (R172). -/
def SavingImageFails (s : State) : Prop :=
  s.store.snapshot.isSome = true → s.store.image.load = none

/-- The loops that wait: those of the plan, then those of the queue's loop entries. -/
def waitingLoops (s : State) : List LoopIx :=
  s.arb.plan.map PlanEntry.loop ++ s.arb.queue.filterMap fun e =>
    match e with
    | .loop i => some i
    | .test _ => none

/-- A loop waits at most once, and only while it is enabled, its channel READY and released (R112). -/
def QueueSound (s : State) : Prop :=
  (waitingLoops s).Nodup
    ∧ ∀ i ∈ waitingLoops s, (s.loops.get i).cfg.enabled = true
        ∧ (s.channels.get i).condition = .ready ∧ (s.channels.get i).energised = false

/-- The starts are in order (R112, R118, R20, R64): the queue is sound, a loop that waits is not OFF, a loop
waits only while starts are made, a test stands only in STOPPED, where no other channel is energised, and
the queue holds exactly the entry of a QUEUED test; the current-period records are there exactly outside
STOPPED (R82, R66). -/
def StartsSound (s : State) : Prop :=
  QueueSound s
    ∧ (∀ i ∈ waitingLoops s, (s.loops.get i).cls ≠ .off ∧ s.period.mode.heats = true)
    ∧ (s.period.mode ≠ .stopped → s.test = .idle)
    ∧ (s.period.mode = .stopped → ∀ i, (s.channels.get i).energised = true →
        ∃ d r, s.test = .active i d r)
    ∧ (s.arb.queue.filterMap fun e =>
          match e with
          | .loop _ => none
          | .test i => some i)
        = (match s.test with
          | .queued i _ => [i]
          | .idle => []
          | .active _ _ _ => [])
    ∧ (s.period.records.isSome = true ↔ s.period.mode ≠ .stopped)

end Sys2Proof.Machine
end

