-- ==== Sys2Proof/Certificates/Slice0/Obligations.lean ====
section
/-! DEFINITION. The statements about the Lispan 716, for the provers. A statement's docstring names the
rule it states, or says that it is the model's own and names the log entry. -/

open Sys2Proof Sys2Proof.Machine

/-! ## Steps and time -/

/-- The command at the front of the queue is what a step runs, with the queue's rest. The queue is the
model's own (log 1, log 31). -/
def Obligations.StepTakesFrontCommand : Prop :=
  ∀ (c : Instr) (rest : List Instr) (s : State),
    step { s with pending := c :: rest } = exec c { s with pending := rest }

/-- On an empty queue a part without power stays as it is; in a part with power one second passes, and
every event that is then due is queued, as often as it is due, in some order (log 3, log 4). -/
def Obligations.EmptyQueuePassesOneSecond : Prop :=
  ∀ s : State, s.pending = [] →
    (s.powered = false → step s = .next s)
    ∧ (s.powered = true → ∃ q : List Instr, (∀ c, q.count c = dueTimes (elapse 1 s) c)
        ∧ step s = .next { elapse 1 s with pending := q, draws := s.draws + 1 })

/-- Every command completes, whatever the state, and leaves the queue alone: no rule of the manual stops the
part (log 28). Only a command with a demand drop can draw a free value, for a boundary that it meets (log
34). -/
def Obligations.EveryCommandCompletes : Prop :=
  ∀ (c : Instr) (s : State),
    ∃ t, exec c s = .next t ∧ t.pending = s.pending
      ∧ (t.draws = s.draws ∨ t.draws = s.draws + 1 ∧ s.period.mode ≠ .stopped
          ∧ ∃ r, 0 < derivedDemand (s.rooms.get r) ∧ derivedDemand (t.rooms.get r) = 0)

/-- A part without power takes no command but power-on; its tool request pin still follows its line
(log 10). -/
def Obligations.UnpoweredPartStaysAsItIs : Prop :=
  ∀ (c : Instr) (s : State), s.powered = false → (∀ straps, c ≠ .powerOn straps) →
    exec c s = .next (match c with
      | .toolRequestRaised => { s with toolRequest := true }
      | .toolRequestDropped => { s with toolRequest := false }
      | _ => s)

/-- What `k` whole seconds change, with `d` of them seconds of period time: R10, R16, R19, R47, R68, R79, R117,
R128, R150; nothing else moves. That a command's seconds move the counts and take no event is the model's own
(log 2), as are the count of a save's seconds (log 6) and the period time kept as the flush timer runs out (log
35). The milliseconds of the running second are taken to be below 1000, as StepsKeepHoldingLimit says every
step keeps them. -/
def Obligations.SecondsMoveTheCounts : Prop :=
  ∀ (k : Nat) (s : State), s.msPhase < 1000 →
    let t := elapse k s
    let d := if s.period.mode = .stopped then 0 else min k (s.period.eff.period - s.period.time)
    t = { s with
      channels := t.channels, rooms := t.rooms, test := t.test, period := t.period, seg := t.seg,
      arb := t.arb, supply := t.supply, store := t.store, house := t.house }
    ∧ (∀ i, t.channels.get i = { s.channels.get i with
        energisedSeconds := (s.channels.get i).energisedSeconds
          + if (s.channels.get i).energised then d else 0
        loadCheck := (s.channels.get i).loadCheck.map fun x => x - k
        valve :=
          match (s.channels.get i).valve with
          | .closed => .closed
          | .opening r => .opening (r - k)
          | .isOpen x => .isOpen (min 65535 (x + k))
          | .closing r => .closing (r - k) })
    ∧ (∀ r, t.rooms.get r = { s.rooms.get r with
        age := if (s.rooms.get r).report.isSome then min 65535 ((s.rooms.get r).age + k)
               else (s.rooms.get r).age })
    ∧ t.test = (match s.test with
        | .idle => .idle
        | .queued i x => .queued i x
        | .active i x r => .active i x (r - k))
    ∧ t.period = { s.period with
        time := s.period.time + d
        flushTimer := s.period.flushTimer.map fun x => x - k
        flushRanOut :=
          match s.period.flushTimer with
          | some x =>
            if 0 < x ∧ x ≤ k then
              some (s.period.time + if s.period.mode = .stopped then 0
                else min x (s.period.eff.period - s.period.time))
            else s.period.flushRanOut
          | none => s.period.flushRanOut }
    ∧ t.seg = { s.seg with pollTimer := s.seg.pollTimer - k }
    ∧ t.arb = { s.arb with sinceGrant := s.arb.sinceGrant.map fun x => min 65535 (x + k) }
    ∧ t.supply = { s.supply with holdTimer := s.supply.holdTimer.map fun x => x - k }
    ∧ t.store = { s.store with saveLeft := s.store.saveLeft - k }
    ∧ t.house = { s.house with timeout := s.house.timeout.map fun x => x - 1000 * k }

/-! ## Frames at the own address -/

/-- R142, R144: a SEND that a mark cuts off before its check byte changes no table, records no result and
counts no error. One of a known kind whose length byte the kind does not allow, whose check fails, or whose
length disagrees with its group or target type, is refused at that byte, counted and recorded; nothing else
changes. -/
def Obligations.BadSendChangesNothing : Prop :=
  ∀ (c : Instr) (k : SendKind) (f : SendFrame) (s : State), s.listens → ownSendOf c = some (k, f) →
    ((∀ len rest, f.bytes = len :: rest → len.toNat ∈ k.lengths ∧ rest.length ≤ len.toNat) →
      exec c s = .next (driveLines { s with
        house := { s.house with
          state := afterMark .own f.mark
          received := [headerByte s.house.own false, k.code] ++ f.bytes
          sent := []
          acks := List.replicate (f.bytes.length + 2) true } }))
    ∧ ∀ len rest, f.bytes = len :: rest →
      let head := [headerByte s.house.own false, k.code, len]
      let refused (bytes : List Byte) (r : Result) : Host.Outcome State Fault Refusal :=
        .next (driveLines { s with house := s.house.afterRefusal bytes r k.code f.mark })
      (len.toNat ∉ k.lengths → exec c s = refused head .refusedLength)
      ∧ ∀ check more, len.toNat ∈ k.lengths → rest.drop len.toNat = check :: more →
          let bytes := head ++ rest.take len.toNat ++ [check]
          (sum8 bytes ≠ 0 → exec c s = refused bytes .checkFailed)
          ∧ (sum8 bytes = 0 → k.lengthAgrees (rest.take len.toNat) = false →
              exec c s = refused bytes .refusedLength)

/-- R144, R154: a SEND that passes the four points has the effect its owner gives it, and its result is
recorded; refused by its owner, it changes nothing else. -/
def Obligations.OwnerDecidesGoodSend : Prop :=
  ∀ (c : Instr) (k : SendKind) (p : List Byte) (m : Mark) (s : State),
    s.listens → ownSendOf c = some (k, goodFrame s k p m) →
    p.length ∈ k.lengths → k.lengthAgrees p = true →
    let r := (ownerOf k p s).1
    let t := (ownerOf k p s).2
    exec c s = .next (driveLines { t with house := t.house.afterSend k p r m })
    ∧ (r.accepted = false → t = s)

/-- R144, R145: a kind byte that names no kind of its direction is not acknowledged and is counted; a SEND
records UNKNOWN_KIND with the byte, a FETCH leaves the last result as it was. -/
def Obligations.UnknownKindsAreRefused : Prop :=
  ∀ (kind : Byte) (m : Mark) (s : State), s.listens →
    (kind < 0x41 ∨ 0x4A < kind →
      exec (.unknownKind kind m) s = .next (driveLines { s with
        house := s.house.afterRefusal [headerByte s.house.own false, kind] .unknownKind kind m }))
    ∧ (kind < 0x61 ∨ 0x69 < kind ∧ kind ≠ 0x6F →
      exec (.unknownFetchKind kind m) s = .next (driveLines { s with
        house := { s.house.ignoringAfter [headerByte s.house.own true, kind] m with
          errors := min 65535 (s.house.errors + 1) } }))

/-- R145: a FETCH at the own address with a selector in range is answered with one reply, whose bytes
with those of the house controller sum to zero; out of range the selector is not acknowledged. A byte of
the reply left unacknowledged ends it there. No table and no result changes. -/
def Obligations.FetchAnswersOrIgnores : Prop :=
  ∀ (c : Instr) (k : FetchKind) (f : FetchFrame) (s : State),
    s.listens → ownFetchOf c = some (k, f) →
    let head := [headerByte s.house.own true, k.code, f.selector]
    let range : Nat → Prop := fun n => match k with
      | .loopStatus | .periodSummary | .readLoop => 1 ≤ n ∧ n ≤ 16
      | .roomStatus | .readRoom => 1 ≤ n ∧ n ≤ 12
      | .probeStatus | .readProbe => n ≤ 16
      | .readManifold => n ≤ 3
      | .manifoldStatus | .lastResult => n = 0
    (¬ range f.selector.toNat →
      exec c s = .next (driveLines { s with house := s.house.ignoringAfter head f.mark }))
    ∧ (range f.selector.toNat → ∃ p, replyOf k f.selector s = some p ∧ p.length ≤ 32
      ∧ (f.nackAt = none →
          exec c s = .next (driveLines { s with house := s.house.afterReply head p .own f.mark })
          ∧ sum8 (head ++ (s.house.afterReply head p .own f.mark).sent) = 0)
      ∧ ∀ j, f.nackAt = some j → j ≤ p.length →
          exec c s = .next (driveLines { s with
            house := { s.house.afterReply head p .ignoring f.mark with
              sent := (byteOf p.length :: p).take (j + 1) } }))

/-- R164, R165, R155: the fields of a MANIFOLD_STATUS, a LOOP_STATUS and a LAST_RESULT reply, at the offsets
of section 11.4. -/
def Obligations.ManifoldAndLoopStatusFields : Prop :=
  ∀ (i : LoopIx) (s : State),
    (∃ p, replyOf .manifoldStatus 0 s = some p ∧ p.length = 17
      ∧ byteAt p 0 = s.period.mode.code ∧ wordAt p 1 = s.period.time % 65536
      ∧ wordAt p 3 = s.period.eff.period % 65536 ∧ byteAt p 5 = energisedCount s
      ∧ byteAt p 6 = s.arb.queue.length % 256 ∧ byteAt p 7 = s.supply.pump.code
      ∧ (byteAt p 8 = 1 ↔ heatCall s = true)
      ∧ (-32768 ≤ supplyRequest s → supplyRequest s ≤ 32767 → signedAt p 9 = supplyRequest s)
      ∧ (byteAt p 11).testBit 0 = anyProbeFailed s ∧ (byteAt p 11).testBit 1 = anyChannelFault s
      ∧ (byteAt p 11).testBit 2 = anyRoomLost s ∧ (byteAt p 11).testBit 3 = s.store.defaulted
      ∧ (byteAt p 11).testBit 4 = supplyUnmonitored s
      ∧ (byteAt p 12 = 1 ↔ s.store.snapshot.isSome = true)
      ∧ (byteAt p 13 = 1 ↔ s.seg.activity = .granted)
      ∧ byteAt p 14 = s.house.lastResult.code ∧ wordAt p 15 = s.house.errors % 65536)
    ∧ (∃ p, replyOf .loopStatus (byteOf (i.val + 1)) s = some p ∧ p.length = 13
      ∧ byteAt p 0 = (s.loops.get i).cls.code ∧ wordAt p 1 = (s.loops.get i).onTime % 65536
      ∧ byteAt p 3 = (s.channels.get i).valve.code
      ∧ byteAt p 4 = (s.channels.get i).condition.code
      ∧ (byteAt p 5 = 1 ↔ (s.channels.get i).energised = true)
      ∧ (byteAt p 6 = 1 ↔ .loop i ∈ s.arb.queue ∨ .test i ∈ s.arb.queue)
      ∧ wordAt p 7 = (s.channels.get i).energisedSeconds % 65536
      ∧ wordAt p 9 = (s.loops.get i).n % 65536 ∧ wordAt p 11 = (s.loops.get i).k % 65536)
    ∧ ∃ p, replyOf .lastResult 0 s = some p ∧ p.length = 2
      ∧ byteAt p 0 = s.house.lastResult.code
      ∧ byteAt p 1 = (s.house.lastKind.map BitVec.toNat).getD 0

/-- R166: ROOM_STATUS, PROBE_STATUS and PERIOD_SUMMARY return the named record's fields, absent ones as
section 11.4 marks them, and PERIOD_SUMMARY has length 0 while no summary is recorded. -/
def Obligations.RecordStatusFields : Prop :=
  ∀ s : State,
    let fits (z : Int) : Prop := -32768 ≤ z ∧ z ≤ 32767
    (∀ r : RoomIx, ∃ p, replyOf .roomStatus (byteOf (r.val + 1)) s = some p ∧ p.length = 18
      ∧ byteAt p 0 = (s.rooms.get r).cfg.address.toNat
      ∧ byteAt p 1 = (s.rooms.get r).cfg.proxy.code
      ∧ byteAt p 2 = (s.rooms.get r).freshness.code ∧ byteAt p 3 = (s.rooms.get r).floor.code
      ∧ wordAt p 4 = derivedDemand (s.rooms.get r) % 65536
      ∧ (byteAt p 6).testBit 0 = (s.rooms.get r).report.isSome
      ∧ (byteAt p 6).testBit 1 = ((s.rooms.get r).report.bind Report.floor).isSome
      ∧ byteAt p 11 = ((s.rooms.get r).report.elim 0 Report.demand) % 256
      ∧ ((s.rooms.get r).report = none → ∀ j, 7 ≤ j → j ≤ 13 → byteAt p j = 0)
      ∧ (∀ v, (s.rooms.get r).report = some v → v.floor = none →
          byteAt p 12 = 0 ∧ byteAt p 13 = 0)
      ∧ (∀ v, (s.rooms.get r).report = some v → fits v.air → fits v.setpoint →
          signedAt p 7 = v.air ∧ signedAt p 9 = v.setpoint)
      ∧ (∀ v z, (s.rooms.get r).report = some v → v.floor = some z → fits z → signedAt p 12 = z)
      ∧ byteAt p 14 = (s.rooms.get r).failures % 256 ∧ wordAt p 15 = (s.rooms.get r).age % 65536
      ∧ byteAt p 17 = (s.rooms.get r).lastPoll.code)
    ∧ (∀ q : ProbeIx, ∃ p, replyOf .probeStatus (byteOf q.val) s = some p ∧ p.length = 12
      ∧ byteAt p 0 = (s.probes.get q).status.code
      ∧ ((s.probes.get q).filtered = none → wordAt p 1 = 0x8000)
      ∧ (∀ v, (s.probes.get q).filtered = some v → fits v → signedAt p 1 = v)
      ∧ ((s.probes.get q).sample = none → wordAt p 3 = 0x8000)
      ∧ (∀ v, (s.probes.get q).sample = some v → fits v → signedAt p 3 = v)
      ∧ ((s.probes.get q).high = none → wordAt p 5 = 0xFFFF)
      ∧ (∀ h, (s.probes.get q).high = some h → wordAt p 5 = h % 65536)
      ∧ ((s.probes.get q).period = none → wordAt p 7 = 0xFFFF)
      ∧ (∀ h, (s.probes.get q).period = some h → wordAt p 7 = h % 65536)
      ∧ byteAt p 9 = (s.probes.get q).errors % 256
      ∧ byteAt p 10 = (s.probes.get q).recovery % 256
      ∧ byteAt p 11 = (s.probes.get q).lastError.code)
    ∧ ∀ i : LoopIx,
      (s.period.summary = none → replyOf .periodSummary (byteOf (i.val + 1)) s = some [])
      ∧ ∀ b, s.period.summary = some b →
        ∃ p, replyOf .periodSummary (byteOf (i.val + 1)) s = some p ∧ p.length = 18
          ∧ byteAt p 0 = (b.get i).planned.cls.code
          ∧ wordAt p 1 = (b.get i).planned.onTime % 65536
          ∧ ((b.get i).planned.grantTime = none → wordAt p 3 = 0xFFFF)
          ∧ (∀ g, (b.get i).planned.grantTime = some g → wordAt p 3 = g % 65536)
          ∧ wordAt p 5 = (b.get i).energisedSeconds % 65536
          ∧ (byteAt p 7).testBit 0 = (b.get i).planned.clipped
          ∧ (byteAt p 7).testBit 1 = (b.get i).planned.missed
          ∧ (byteAt p 7).testBit 2 = (b.get i).planned.closedEarly
          ∧ (byteAt p 7).testBit 3 = (b.get i).shortened
          ∧ wordAt p 8 = (b.get i).n % 65536
          ∧ ((b.get i).meanDrop = none → wordAt p 10 = 0x8000)
          ∧ (∀ m, (b.get i).meanDrop = some m → fits m → signedAt p 10 = m)
          ∧ wordAt p 12 = (b.get i).kBefore % 65536
          ∧ (fits (b.get i).step → signedAt p 14 = (b.get i).step)
          ∧ wordAt p 16 = (b.get i).kAfter % 65536

/-! ## Writes -/

/-- R2, R3: an accepted WRITE_LOOP that does not disable its loop replaces the configuration, its tuning
values clamped, sets K by the K action and clamps it to the new bounds, and changes nothing else. -/
def Obligations.WriteLoopReplacesRecord : Prop :=
  ∀ (i : LoopIx) (c : LoopConfig) (unity : Bool) (p : List Byte) (m : Mark) (s : State),
    s.listens → p.length = 14 → byteAt p 0 = i.val + 1 → loopPayload p = some c →
    kActionPayload p = some unity →
    (∀ r, c.room = some r → (s.rooms.get r).cfg.address ≠ 0) →
    let kmin := max 128 (min c.kmin 4096)
    let kmax := max 128 (min c.kmax 4096)
    let c' : LoopConfig := { c with
      fixedDemand := min c.fixedDemand 1000
      length := c.length.map fun x => max 5 (min x 200)
      kmin := kmin
      kmax := kmax
      target := c.target.map fun x => max 200 (min x 1500) }
    kmin ≤ kmax → ¬ ((s.loops.get i).cfg.enabled = true ∧ c.enabled = false) →
    exec (.writeLoop (goodFrame s .writeLoop p m)) s = .next (driveLines { s with
      loops := s.loops.set i { s.loops.get i with
        cfg := c'
        k := max kmin (min (if unity then 1024 else (s.loops.get i).k) kmax) }
      house := s.house.afterSend .writeLoop p (if c' = c then .ok else .clamped) m })

/-- R2: a WRITE_LOOP with a loop number, enabled field, policy or K action that names nothing, a room that
names nothing or is not in use, or Kmin above Kmax after clamping is refused. R42: so is a WRITE_ROOM with a
room number, an address or a proxy mode out of range, an address that another room holds, or address 0 for
a room that a loop names. R156: so is a WRITE_MANIFOLD of a group above 3. None changes anything. -/
def Obligations.WritesRefusedByRange : Prop :=
  ∀ (p : List Byte) (m : Mark) (s : State), s.listens →
    (p.length = 14 →
      (byteAt p 0 = 0 ∨ 16 < byteAt p 0 ∨ 1 < byteAt p 1 ∨ 1 < byteAt p 10 ∨ 1 < byteAt p 13
        ∨ 12 < byteAt p 2
        ∨ (∃ r : RoomIx, byteAt p 2 = r.val + 1 ∧ (s.rooms.get r).cfg.address = 0)
        ∨ max 128 (min (wordAt p 8) 4096) < max 128 (min (wordAt p 6) 4096)) →
      exec (.writeLoop (goodFrame s .writeLoop p m)) s = .next (driveLines { s with
        house := s.house.afterSend .writeLoop p .refusedRange m }))
    ∧ (p.length = 7 →
      (byteAt p 0 = 0 ∨ 12 < byteAt p 0 ∨ 2 < byteAt p 2
        ∨ (byteAt p 1 ≠ 0 ∧ (byteAt p 1 < 0x08 ∨ 0x5F < byteAt p 1))
        ∨ (byteAt p 1 ≠ 0 ∧ ∃ q : RoomIx, byteAt p 0 ≠ q.val + 1
            ∧ (s.rooms.get q).cfg.address.toNat = byteAt p 1)
        ∨ (byteAt p 1 = 0 ∧ ∃ (r : RoomIx) (i : LoopIx), byteAt p 0 = r.val + 1
            ∧ (s.loops.get i).cfg.room = some r)) →
      exec (.writeRoom (goodFrame s .writeRoom p m)) s = .next (driveLines { s with
        house := s.house.afterSend .writeRoom p .refusedRange m }))
    ∧ (p.length = 19 ∨ p.length = 16 ∨ p.length = 8 ∨ p.length = 10 → 3 < byteAt p 0 →
      exec (.writeManifoldGroup0 (goodFrame s .writeManifold p m)) s = .next (driveLines { s with
        house := s.house.afterSend .writeManifold p .refusedRange m }))

/-- R4: an accepted WRITE_LOOP that changes enabled from yes to no releases the channel, takes the loop out
of the queue and the plan, ends a test on it, makes its class OFF and its on-time 0, in RUNNING marks it
closed early (R80), and leaves K (but for the new bounds), Σ, n and the channel's condition alone; no
other loop's record changes. A test entry of the loop is taken to belong to the test record. -/
def Obligations.WriteLoopDisablesLoop : Prop :=
  ∀ (i : LoopIx) (c : LoopConfig) (unity : Bool) (p : List Byte) (m : Mark) (s : State),
    s.listens → p.length = 14 → byteAt p 0 = i.val + 1 → loopPayload p = some c →
    kActionPayload p = some unity →
    (∀ r, c.room = some r → (s.rooms.get r).cfg.address ≠ 0) →
    c.clamped.kmin ≤ c.clamped.kmax →
    (s.loops.get i).cfg.enabled = true → c.enabled = false →
    (.test i ∈ s.arb.queue → ∃ d, s.test = .queued i d) →
    ∃ t, exec (.writeLoop (goodFrame s .writeLoop p m)) s = .next t
      ∧ t.loops = s.loops.set i { s.loops.get i with
          cfg := c.clamped
          k := max c.clamped.kmin (min (if unity then 1024 else (s.loops.get i).k) c.clamped.kmax)
          cls := .off
          onTime := 0 }
      ∧ (t.channels.get i).energised = false
      ∧ (t.channels.get i).condition = (s.channels.get i).condition
      ∧ .loop i ∉ t.arb.queue ∧ .test i ∉ t.arb.queue ∧ (∀ e ∈ t.arb.plan, e.loop ≠ i)
      ∧ (∀ d, t.test ≠ .queued i d) ∧ (∀ d r, t.test ≠ .active i d r)
      ∧ (∀ b, s.period.mode = .running → s.period.records = some b →
          ∃ b', t.period.records = some b' ∧ (b'.get i).closedEarly = true)
      ∧ t.house = s.house.afterSend .writeLoop p (if c.clamped = c then .ok else .clamped) m
      ∧ t.powered = s.powered ∧ t.params = s.params ∧ t.probes = s.probes ∧ t.rooms = s.rooms
      ∧ t.seg = s.seg ∧ t.toolRequest = s.toolRequest ∧ t.store = s.store
      ∧ t.period.mode = s.period.mode ∧ t.period.eff = s.period.eff
      ∧ t.period.time = s.period.time ∧ t.period.summary = s.period.summary

/-- R42, R43: an accepted WRITE_ROOM replaces the room's configuration; with a new address the runtime is
reset, and a poll of the old one that is on the segment is marked, so that its outcome is discarded (R52);
with the same one the report, freshness, failures, age and last poll outcome stay and the floor state
becomes NORMAL when the limit is made absent. Where no demand drop closes loops (R50, R80:
DemandDropClosesLoops), nothing else changes. -/
def Obligations.WriteRoomReplacesRecord : Prop :=
  ∀ (r : RoomIx) (c : RoomConfig) (p : List Byte) (m : Mark) (s : State),
    s.listens → p.length = 7 → byteAt p 0 = r.val + 1 → roomPayload p = some c →
    (c.address = 0 ∨ 0x08 ≤ c.address.toNat ∧ c.address.toNat ≤ 0x5F) →
    (c.address ≠ 0 → ∀ q, q ≠ r → (s.rooms.get q).cfg.address ≠ c.address) →
    (c.address = 0 → ∀ i, (s.loops.get i).cfg.room ≠ some r) →
    let c' : RoomConfig := { c with
      fallback := min c.fallback 1000
      floorLimit := c.floorLimit.map fun x => max 2000 (min x 3500) }
    let room : Room :=
      if (s.rooms.get r).cfg.address = c.address then
        { s.rooms.get r with
          cfg := c'
          floor := if c.floorLimit = none then .normal else (s.rooms.get r).floor }
      else
        { cfg := c', report := none, freshness := .none, failures := 0, age := 0, floor := .normal,
          lastPoll := .none }
    let seg : Segment :=
      match s.seg.activity with
      | .polling q x =>
        if q = r ∧ (s.rooms.get r).cfg.address ≠ c.address then
          { s.seg with activity := .polling q { x with stale := true } }
        else s.seg
      | .idle | .forwarding _ | .granted => s.seg
    let house := s.house.afterSend .writeRoom p (if c' = c then .ok else .clamped) m
    ∃ t, exec (.writeRoom (goodFrame s .writeRoom p m)) s = .next t
      ∧ t.rooms = s.rooms.set r room ∧ t.seg = seg ∧ t.house = house
      ∧ (¬ (s.period.mode = .running ∧ 0 < derivedDemand (s.rooms.get r)
            ∧ derivedDemand room = 0) →
          t = driveLines { s with rooms := s.rooms.set r room, seg := seg, house := house })

/-- R36, R37: a WRITE_PROBE of a probe number above 16, a fitted field that names nothing or a depth that
is neither 2 nor 4 is refused; any other replaces the configuration, offset and shift clamped, and
initialises the runtime of that probe (R23; that the accepted level is low until the first sample sets it is
the model's, log 26); nothing else changes, in every mode. -/
def Obligations.WriteProbeInitialisesProbe : Prop :=
  ∀ (p : List Byte) (m : Mark) (s : State), s.listens → p.length = 6 →
    ((16 < byteAt p 0 ∨ 1 < byteAt p 1 ∨ (byteAt p 4 ≠ 2 ∧ byteAt p 4 ≠ 4)) →
      exec (.writeProbe (goodFrame s .writeProbe p m)) s = .next (driveLines { s with
        house := s.house.afterSend .writeProbe p .refusedRange m }))
    ∧ ∀ q : ProbeIx, byteAt p 0 = q.val → byteAt p 1 ≤ 1 → (byteAt p 4 = 2 ∨ byteAt p 4 = 4) →
        let offset := max (-500) (min (signedAt p 2) 500)
        let shift := min (byteAt p 5) 8
        exec (.writeProbe (goodFrame s .writeProbe p m)) s = .next (driveLines { s with
          probes := s.probes.set q
            { cfg :=
                { fitted := byteAt p 1 = 1, offset := offset
                  depth := if byteAt p 4 = 2 then .two else .four, shift := shift }
              accepted := false, adopting := true, run := 0, phase := .wait, counter := 0
              high := none, period := none, sample := none, filtered := none
              status := if byteAt p 1 = 1 then .suspect else .absent
              errors := 0, recovery := 0, lastError := .none }
          house := s.house.afterSend .writeProbe p
            (if offset = signedAt p 2 ∧ shift = byteAt p 5 then .ok else .clamped) m })

/-- R157: a WRITE_MANIFOLD of group 0 writes the table alone: P rounded down to a multiple of 60 and then
clamped, every other field clamped; CLAMPED whenever a stored value differs from the written one. -/
def Obligations.WriteGroup0ChangesTableOnly : Prop :=
  ∀ (p : List Byte) (m : Mark) (s : State), s.listens → p.length = 19 → byteAt p 0 = 0 →
    let written : Timing :=
      { period := wordAt p 1, limit := byteAt p 3, spacing := byteAt p 4, tOpen := wordAt p 5
        tClose := wordAt p 7, margin := wordAt p 9, eMin := wordAt p 11, minPulse := wordAt p 13
        tSettle := wordAt p 15 }
    let kept : Timing :=
      { period := max 900 (min (wordAt p 1 / 60 * 60) 3600), limit := max 1 (min (byteAt p 3) 16)
        spacing := min (byteAt p 4) 120, tOpen := max 30 (min (wordAt p 5) 600)
        tClose := max 30 (min (wordAt p 7) 900), margin := min (wordAt p 9) 600
        eMin := min (wordAt p 11) 900, minPulse := max 60 (min (wordAt p 13) 900)
        tSettle := min (wordAt p 15) 1200 }
    let flush := max 60 (min (wordAt p 17) 7200)
    exec (.writeManifoldGroup0 (goodFrame s .writeManifold p m)) s = .next (driveLines { s with
      params := { s.params with timing := kept, flushTime := flush }
      house := s.house.afterSend .writeManifold p
        (if kept = written ∧ flush = wordAt p 17 then .ok else .clamped) m })

/-- R158, R132: a WRITE_MANIFOLD of group 1 whose clamped base is above its clamped max is refused; any
other replaces the group, clamped, and where it changes base or max brings the bias to at most max − base.
Temperatures and temperature differences are read as signed values (R175); the result is CLAMPED whenever a
stored value differs from the written one. -/
def Obligations.WriteGroup1KeepsBiasInRange : Prop :=
  ∀ (p : List Byte) (m : Mark) (s : State), s.listens → p.length = 16 → byteAt p 0 = 1 →
    let base := max 2500 (min (signedAt p 8) 5000)
    let top := max 2800 (min (signedAt p 10) 5500)
    let kept : Group1 :=
      { nMeas := max 1 (min (byteAt p 1) 120)
        target := (max 200 (min (signedAt p 2) 1500)).toNat
        gain := min (wordAt p 4) 1024, stepMax := max 1 (min (wordAt p 6) 256)
        supplyBase := base, supplyMax := top, trip := max 4000 (min (signedAt p 12) 6500)
        hysteresis := (max 100 (min (signedAt p 14) 1000)).toNat }
    (top < base →
      exec (.writeManifoldGroup1 (goodFrame s .writeManifold p m)) s = .next (driveLines { s with
        house := s.house.afterSend .writeManifold p .refusedRange m }))
    ∧ (base ≤ top →
      exec (.writeManifoldGroup1 (goodFrame s .writeManifold p m)) s = .next (driveLines { s with
        params := { s.params with g1 := kept }
        supply := { s.supply with
          bias := if base = s.params.g1.supplyBase ∧ top = s.params.g1.supplyMax then s.supply.bias
            else min s.supply.bias (top - base).toNat }
        house := s.house.afterSend .writeManifold p
          (if kept.nMeas = byteAt p 1 ∧ kept.target = signedAt p 2 ∧ kept.gain = wordAt p 4
              ∧ kept.stepMax = wordAt p 6 ∧ base = signedAt p 8 ∧ top = signedAt p 10
              ∧ kept.trip = signedAt p 12 ∧ kept.hysteresis = signedAt p 14
            then .ok else .clamped) m }))

/-- R159, R47: a WRITE_MANIFOLD of group 2 replaces the group, clamped, and makes LOST at once every FRESH
or AGED room whose age is above the new H, its report and age kept. Where no demand drop closes loops
(DemandDropClosesLoops), nothing else changes. -/
def Obligations.WriteGroup2AgesRooms : Prop :=
  ∀ (p : List Byte) (m : Mark) (s : State), s.listens → p.length = 8 → byteAt p 0 = 2 →
    let written : Group2 :=
      { pollInterval := byteAt p 1, lossThreshold := byteAt p 2, holdTime := wordAt p 3
        forwardTimeout := wordAt p 5, holdLimit := byteAt p 7 }
    let kept : Group2 :=
      { pollInterval := max 5 (min (byteAt p 1) 120), lossThreshold := max 1 (min (byteAt p 2) 16)
        holdTime := max 60 (min (wordAt p 3) 7200), forwardTimeout := max 50 (min (wordAt p 5) 2000)
        holdLimit := max 5 (min (byteAt p 7) 100) }
    let room (v : Room) : Room :=
      if (v.freshness = .fresh ∨ v.freshness = .aged) ∧ kept.holdTime < v.age then
        { v with freshness := .lost }
      else v
    let house := s.house.afterSend .writeManifold p (if kept = written then .ok else .clamped) m
    ∃ t, exec (.writeManifoldGroup2 (goodFrame s .writeManifold p m)) s = .next t
      ∧ t.params = { s.params with g2 := kept } ∧ t.rooms = (s.rooms.imap fun _ v => room v)
      ∧ t.house = house
      ∧ ((∀ r, ¬ (s.period.mode = .running ∧ 0 < derivedDemand (s.rooms.get r)
            ∧ derivedDemand (room (s.rooms.get r)) = 0)) →
          t = driveLines { s with
            params := { s.params with g2 := kept }
            rooms := s.rooms.imap fun _ v => room v
            house := house })

/-- R160, R173: a WRITE_MANIFOLD of group 3 with autorun, a source or a sense that names nothing is
refused; any other replaces the group, clamped, moves the lines by the new routing at once (R138), and
brings the autosave count to the new interval where it is above it. -/
def Obligations.WriteGroup3RoutesLines : Prop :=
  ∀ (p : List Byte) (m : Mark) (s : State), s.listens → p.length = 10 → byteAt p 0 = 3 →
    ((1 < byteAt p 4 ∨ 4 < byteAt p 5 ∨ 1 < byteAt p 6 ∨ 4 < byteAt p 7 ∨ 1 < byteAt p 8) →
      exec (.writeManifoldGroup3 (goodFrame s .writeManifold p m)) s = .next (driveLines { s with
        house := s.house.afterSend .writeManifold p .refusedRange m }))
    ∧ ∀ srcA srcB : Source, byteAt p 4 ≤ 1 → byteAt p 5 = srcA.code → byteAt p 6 ≤ 1 →
        byteAt p 7 = srcB.code → byteAt p 8 ≤ 1 →
        let g : Group3 :=
          { pumpHold := min (wordAt p 1) 900, autosave := byteAt p 3, autorun := byteAt p 4 = 1
            lineA := { source := srcA, senseHigh := byteAt p 6 = 0 }
            lineB := { source := srcB, senseHigh := byteAt p 8 = 0 }
            errorThreshold := max 1 (byteAt p 9) }
        exec (.writeManifoldGroup3 (goodFrame s .writeManifold p m)) s = .next (driveLines { s with
          params := { s.params with g3 := g }
          store := { s.store with autosave := min s.store.autosave g.autosave }
          house := s.house.afterSend .writeManifold p
            (if wordAt p 1 ≤ 900 ∧ 1 ≤ byteAt p 9 then .ok else .clamped) m })

/-- R138: after every command a part with power has each auxiliary line high exactly when its source is
active and its sense high, or its source not active and its sense low; driving the lines changes nothing
else. The factory routing is the pump request on A and the heat call on B, both sense high. -/
def Obligations.LinesFollowSources : Prop :=
  (∀ (c : Instr) (s t : State), exec c s = .next t → t.powered = true →
    let active (src : Source) : Prop := match src with
      | .off => False
      | .pump => t.supply.pump = .on ∨ t.supply.pump = .hold
      | .heatCall => (t.period.mode = .running ∨ t.period.mode = .flush)
          ∧ ∃ i, (t.loops.get i).cls ≠ .off
      | .overheat => t.supply.latch = true
      | .fault => (∃ q, (t.probes.get q).status = .failed)
          ∨ (∃ i, (t.channels.get i).condition ≠ .ready)
          ∨ (∃ r, (t.rooms.get r).freshness = .lost) ∨ t.store.defaulted = true
          ∨ ((t.period.mode = .running ∨ t.period.mode = .flush) ∧ (t.probes.get 0).status ≠ .ok)
    let high (r : Routing) : Prop := active r.source ↔ r.senseHigh = true
    (t.supply.lineA = true ↔ high t.params.g3.lineA)
      ∧ (t.supply.lineB = true ↔ high t.params.g3.lineB))
  ∧ (∀ s : State, driveLines s = { s with supply := { s.supply with
      lineA := (driveLines s).supply.lineA, lineB := (driveLines s).supply.lineB } })
  ∧ Params.factory.g3.lineA = { source := .pump, senseHigh := true }
  ∧ Params.factory.g3.lineB = { source := .heatCall, senseHigh := true }

/-- R106, R107: SEED sets each enabled loop with a length to K = 1024 · length · k / Λ, truncated and
clamped to its bounds, k and Λ being the number and the sum of those lengths; every other K and all else
stays. With no such loop it is refused with REFUSED_STATE. -/
def Obligations.SeedSetsFactorsFromLengths : Prop :=
  ∀ (m : Mark) (s : State), s.listens →
    let seeded : List Nat := allLoops.filterMap fun i =>
      if (s.loops.get i).cfg.enabled then (s.loops.get i).cfg.length else none
    (seeded = [] →
      exec (.seed (goodFrame s .seed [] m)) s = .next (driveLines { s with
        house := s.house.afterSend .seed [] .refusedState m }))
    ∧ (seeded ≠ [] →
      ∃ t, exec (.seed (goodFrame s .seed [] m)) s = .next t
        ∧ t = driveLines { s with
            loops := t.loops, house := s.house.afterSend .seed [] .ok m }
        ∧ ∀ i, t.loops.get i = { s.loops.get i with k :=
            match (s.loops.get i).cfg.enabled, (s.loops.get i).cfg.length with
            | true, some x => max (s.loops.get i).cfg.kmin
                (min (1024 * x * seeded.length / seeded.sum) (s.loops.get i).cfg.kmax)
            | _, _ => (s.loops.get i).k })

/-! ## Commanding frames -/

/-- R66: SET_MODE STOP, in every mode: every energised channel is released, the queue and the plan are
emptied, a test ends, the flush timer stops, the period time becomes 0, every class OFF with on-time, Σ and
n 0, and the current records are discarded; the summary, K, the parameters in effect and every
configuration stay. Leaving OVERHEAT, it ends the lockout (R135). -/
def Obligations.StopReleasesAndClears : Prop :=
  ∀ (m : Mark) (s : State), s.listens →
    exec (.setModeStop (goodFrame s .setMode [0] m)) s = .next (driveLines { s with
      loops := s.loops.imap fun _ l => { l with cls := .off, onTime := 0, sigma := 0, n := 0 }
      channels := s.channels.imap fun _ c => c.afterRelease s.period.eff.tClose
      test := .idle
      arb := { s.arb with plan := [], queue := [] }
      period := { s.period with
        mode := .stopped, time := 0, flushTimer := none, flushDue := false, flushRanOut := none
        records := none
        lastTick := 0, drops := [] }
      supply :=
        if s.period.mode = .overheat then
          { s.supply with
            latch := false, exitFlag := false, holdTimer := none
            pump := if 0 < flowCount s.channels then .on else .off }
        else s.supply
      house := s.house.afterSend .setMode [0] .ok m })

/-- R65, R77, R102, R161: SET_MODE RUN is refused with REFUSED_STATE in OVERHEAT, and in STOPPED or FLUSH
with no loop enabled, and changes nothing, and a mode value above 2 with REFUSED_RANGE in every mode
(R161); in RUNNING it is accepted and brings no boundary. Accepted in STOPPED or FLUSH it enters RUNNING
with a forced boundary: the flush timer stops, the period starts at 0 with the group 0 values of the
table, every enabled loop with a READY channel is classed from its demand and its unchanged K, every other
loop is OFF, and no more channels are energised than the holding limit; CONTINUOUS loops are carried and the
start plan is built as R75, R76 and R109 say, after a channel test of STOPPED has ended (R20). From FLUSH the
cut-short period is summarised as shortened, from STOPPED the summary stays. -/
def Obligations.RunEntersRunning : Prop :=
  ∀ (m : Mark) (s : State), s.listens →
    let same (r : Result) : Host.Outcome State Fault Refusal :=
      .next (driveLines { s with house := s.house.afterSend .setMode [1] r m })
    let noneEnabled := ∀ i, (s.loops.get i).cfg.enabled = false
    (s.period.mode = .overheat ∨ ((s.period.mode = .stopped ∨ s.period.mode = .flush) ∧ noneEnabled) →
      exec (.setModeRun (goodFrame s .setMode [1] m)) s = same .refusedState)
    ∧ (∀ x : Byte, 2 < x.toNat →
      exec (.setModeRun (goodFrame s .setMode [x] m)) s = .next (driveLines { s with
        house := s.house.afterSend .setMode [x] .refusedRange m }))
    ∧ (s.period.mode = .running →
      exec (.setModeRun (goodFrame s .setMode [1] m)) s = same .ok)
    ∧ ((s.period.mode = .stopped ∨ s.period.mode = .flush) →
      (∃ i, (s.loops.get i).cfg.enabled = true) →
      ∃ t, exec (.setModeRun (goodFrame s .setMode [1] m)) s = .next t
        ∧ t.period.mode = .running ∧ t.period.time = 0 ∧ t.period.eff = s.params.timing
        ∧ energisedCount t ≤ s.params.timing.limit
        ∧ (∀ i, (t.loops.get i).cfg = (s.loops.get i).cfg ∧ (t.loops.get i).k = (s.loops.get i).k
            ∧ (t.loops.get i).sigma = 0 ∧ (t.loops.get i).n = 0
            ∧ if (s.loops.get i).cfg.enabled ∧ (s.channels.get i).condition = .ready then
                ClassedAs s.params.timing (s.loops.get i).cfg.policy (loopDemand s i)
                  (s.loops.get i).k (t.loops.get i).cls (t.loops.get i).onTime
              else (t.loops.get i).cls = .off ∧ (t.loops.get i).onTime = 0)
        ∧ (s.period.mode = .stopped → t.test = .idle ∧ t.period.summary = s.period.summary)
        ∧ (s.period.mode = .flush → t.period.flushTimer = none
          ∧ ∃ b, t.period.summary = some b ∧ ∀ i,
            (b.get i).shortened = true ∧ (b.get i).step = 0 ∧ (b.get i).kAfter = (s.loops.get i).k)
        ∧ PeriodBegins (if s.period.mode = .stopped then s.afterTestEnds else s) t
        ∧ t.house = s.house.afterSend .setMode [1] .ok m
        ∧ t.powered = s.powered ∧ t.params = s.params ∧ t.probes = s.probes ∧ t.rooms = s.rooms
        ∧ t.seg = s.seg ∧ t.toolRequest = s.toolRequest ∧ t.store = s.store)

/-- R65, R79, R103: SET_MODE FLUSH is refused with REFUSED_STATE in OVERHEAT; in FLUSH it starts the flush
timer again with the flush time of the table and does nothing else; in STOPPED and RUNNING it enters FLUSH
with a forced boundary and starts the timer: every enabled loop with a READY channel is CONTINUOUS for the
P of the table, every other loop OFF, and no K changes; CONTINUOUS loops are carried and the rest put into
the start plan in their order (R75, R76, R109), after a channel test of STOPPED has ended (R20). From
RUNNING the cut-short period is summarised as shortened, with no step and every K as it was; from STOPPED the
summary stays (R77). -/
def Obligations.FlushRunsEveryLoop : Prop :=
  ∀ (m : Mark) (s : State), s.listens →
    (s.period.mode = .overheat →
      exec (.setModeFlush (goodFrame s .setMode [2] m)) s = .next (driveLines { s with
        house := s.house.afterSend .setMode [2] .refusedState m }))
    ∧ (s.period.mode = .flush →
      exec (.setModeFlush (goodFrame s .setMode [2] m)) s = .next (driveLines { s with
        period := { s.period with
          flushTimer := some s.params.flushTime, flushDue := false, flushRanOut := none }
        house := s.house.afterSend .setMode [2] .ok m }))
    ∧ (s.period.mode = .stopped ∨ s.period.mode = .running →
      ∃ t, exec (.setModeFlush (goodFrame s .setMode [2] m)) s = .next t
        ∧ t.period.mode = .flush ∧ t.period.time = 0 ∧ t.period.eff = s.params.timing
        ∧ t.period.flushTimer = some s.params.flushTime
        ∧ energisedCount t ≤ s.params.timing.limit
        ∧ (∀ i, t.loops.get i = { s.loops.get i with
            sigma := 0, n := 0
            cls := if (s.loops.get i).cfg.enabled ∧ (s.channels.get i).condition = .ready
                   then .continuous else .off
            onTime := if (s.loops.get i).cfg.enabled ∧ (s.channels.get i).condition = .ready
                      then s.params.timing.period else 0 })
        ∧ t.supply.bias = s.supply.bias
        ∧ (s.period.mode = .stopped → t.test = .idle ∧ t.period.summary = s.period.summary)
        ∧ (∀ rec, s.period.mode = .running → s.period.records = some rec →
          ∃ b, t.period.summary = some b ∧ ∀ i,
            (b.get i).shortened = true ∧ (b.get i).step = 0
              ∧ (b.get i).kBefore = (s.loops.get i).k ∧ (b.get i).kAfter = (s.loops.get i).k
              ∧ (b.get i).n = (s.loops.get i).n
              ∧ (b.get i).energisedSeconds = (s.channels.get i).energisedSeconds
              ∧ (b.get i).planned.cls = (rec.get i).cls
              ∧ (b.get i).planned.onTime = (rec.get i).onTime
              ∧ (b.get i).planned.grantTime = (rec.get i).grantTime)
        ∧ PeriodBegins (if s.period.mode = .stopped then s.afterTestEnds else s) t
        ∧ t.house = s.house.afterSend .setMode [2] .ok m
        ∧ t.powered = s.powered ∧ t.params = s.params ∧ t.probes = s.probes ∧ t.rooms = s.rooms
        ∧ t.seg = s.seg ∧ t.toolRequest = s.toolRequest ∧ t.store = s.store)

/-- R14, R38, R162: CLEAR of a channel makes it READY; CLEAR of a probe initialises a FAILED one and sets
the counts of a SUSPECT or OK one to 0; CLEAR ALL, with or without a second byte, does both for every
channel and probe; a number or target type out of range is refused, an unknown target type with or without a
second byte. Nothing else changes, in every mode. -/
def Obligations.ClearActsOnChannelsAndProbes : Prop :=
  ∀ (m : Mark) (x y : Byte) (s : State), s.listens →
    let channel (c : Channel) : Channel := { c with condition := .ready }
    let probe (q : Probe) : Probe :=
      if q.status = .failed then Probe.initial q.cfg
      else if q.status = .absent then q
      else { q with errors := 0, recovery := 0 }
    let refused (p : List Byte) : Host.Outcome State Fault Refusal :=
      .next (driveLines { s with house := s.house.afterSend .clear p .refusedRange m })
    let all (p : List Byte) : Host.Outcome State Fault Refusal :=
      .next (driveLines { s with
        channels := s.channels.imap fun _ c => channel c
        probes := s.probes.imap fun _ q => probe q
        house := s.house.afterSend .clear p .ok m })
    (∀ i : LoopIx, x.toNat = i.val + 1 →
      exec (.clearChannel (goodFrame s .clear [0, x] m)) s = .next (driveLines { s with
        channels := s.channels.set i (channel (s.channels.get i))
        house := s.house.afterSend .clear [0, x] .ok m }))
    ∧ (x.toNat = 0 ∨ 16 < x.toNat →
      exec (.clearChannel (goodFrame s .clear [0, x] m)) s = refused [0, x])
    ∧ (∀ q : ProbeIx, x.toNat = q.val →
      exec (.clearProbe (goodFrame s .clear [1, x] m)) s = .next (driveLines { s with
        probes := s.probes.set q (probe (s.probes.get q))
        house := s.house.afterSend .clear [1, x] .ok m }))
    ∧ (16 < x.toNat → exec (.clearProbe (goodFrame s .clear [1, x] m)) s = refused [1, x])
    ∧ exec (.clearAll (goodFrame s .clear [2] m)) s = all [2]
    ∧ exec (.clearAll (goodFrame s .clear [2, x] m)) s = all [2, x]
    ∧ (2 < x.toNat → exec (.clearAll (goodFrame s .clear [x] m)) s = refused [x]
        ∧ exec (.clearAll (goodFrame s .clear [x, y] m)) s = refused [x, y])

/-- R18: the checks of TEST_CHANNEL in their order, and a refused frame changes nothing. An accepted one
clamps the duration to 10 to 600 s; in a part whose queue is empty its test entry is granted at once when
no grant was made within the start spacing (R113, R19), and otherwise waits in the queue. -/
def Obligations.TestChannelChecksAndQueues : Prop :=
  ∀ (p : List Byte) (m : Mark) (s : State), s.listens → p.length = 3 →
    let d := max 10 (min (wordAt p 1) 600)
    let r : Result := if d = wordAt p 1 then .ok else .clamped
    let refused (r : Result) : Host.Outcome State Fault Refusal :=
      .next (driveLines { s with house := s.house.afterSend .testChannel p r m })
    (byteAt p 0 = 0 ∨ 16 < byteAt p 0 →
      exec (.testChannel (goodFrame s .testChannel p m)) s = refused .refusedRange)
    ∧ ∀ i : LoopIx, byteAt p 0 = i.val + 1 →
      (s.period.mode ≠ .stopped →
        exec (.testChannel (goodFrame s .testChannel p m)) s = refused .refusedState)
      ∧ (s.period.mode = .stopped → s.test ≠ .idle →
        exec (.testChannel (goodFrame s .testChannel p m)) s = refused .refusedBusy)
      ∧ (s.period.mode = .stopped → s.test = .idle → (s.channels.get i).condition = .tripped →
        exec (.testChannel (goodFrame s .testChannel p m)) s = refused .refusedState)
      ∧ (s.period.mode = .stopped → s.test = .idle → (s.channels.get i).condition ≠ .tripped →
          s.arb.queue = [] → energisedCount s < s.period.eff.limit →
        ((∀ x, s.arb.sinceGrant = some x → s.period.eff.spacing ≤ x) →
          exec (.testChannel (goodFrame s .testChannel p m)) s = .next (driveLines { s with
            channels := s.channels.set i
              ((s.channels.get i).afterGrant s.period.eff.tOpen none)
            test := .active i d d
            arb := { s.arb with sinceGrant := some 0 }
            house := s.house.afterSend .testChannel p r m }))
        ∧ (∀ x, s.arb.sinceGrant = some x → x < s.period.eff.spacing →
          exec (.testChannel (goodFrame s .testChannel p m)) s = .next (driveLines { s with
            test := .queued i d
            arb := { s.arb with queue := [.test i] }
            house := s.house.afterSend .testChannel p r m })))

/-- R163, R171: SAVE is refused with REFUSED_BUSY while the store is SAVING; otherwise it takes a snapshot
of the tables, makes the check word of the image invalid and sets the autosave count to 0. SAVE_COMPLETES
writes the snapshot with its check word, ends the SAVING and clears the store-defaulted flag, and the image
then loads again what the snapshot holds. -/
def Obligations.SaveTakesSnapshotAndCompletes : Prop :=
  ∀ (m : Mark) (a : Nat) (s : State), s.listens →
    (s.store.snapshot ≠ none →
      exec (.save (goodFrame s .save [] m)) s = .next (driveLines { s with
        house := s.house.afterSend .save [] .refusedBusy m }))
    ∧ (s.store.snapshot = none →
      ∃ t, exec (.save (goodFrame s .save [] m)) s = .next t
        ∧ t = driveLines { s with
            store := { s.store with
              image := t.store.image
              snapshot := some (imageBody (tablesOf s)), saveLeft := 2, autosave := 0 }
            house := s.house.afterSend .save [] .ok m }
        ∧ t.store.image.load = none)
    ∧ ∀ b, s.store.snapshot = some b →
        exec (.saveCompletes a) s = .next (driveLines { elapse a s with
          store := { s.store with
            image := .written b (some b.checkWord), snapshot := none, saveLeft := 0
            defaulted := false } })
        ∧ (Image.written b (some b.checkWord)).load = b.tables

/-- R163, R174: RESTART is refused with REFUSED_BUSY while the store is SAVING, and a scope above 2 with
REFUSED_RANGE at any time. Otherwise RUNTIME keeps the tables as they stand, RELOAD takes them from the image,
with the factory values where the load fails, and FACTORY installs the factory values; then every block takes
its values after reset. The image, the own address, the error count and the tool grant stay; the
store-defaulted flag follows a load and otherwise stays. That what the room segment carried last stays to be
read is the model's (log 23). -/
def Obligations.RestartScopes : Prop :=
  ∀ (m : Mark) (s : State), s.listens →
    let f (scope : Byte) := goodFrame s .restart [scope] m
    (s.store.snapshot ≠ none →
      let busy (scope : Byte) : Host.Outcome State Fault Refusal := .next (driveLines { s with
        house := s.house.afterSend .restart [scope] .refusedBusy m })
      exec (.restartRuntime (f 0)) s = busy 0 ∧ exec (.restartReload (f 1)) s = busy 1
        ∧ exec (.restartFactory (f 2)) s = busy 2)
    ∧ (∀ x : Byte, 2 < x.toNat →
      exec (.restartRuntime (f x)) s = .next (driveLines { s with
        house := s.house.afterSend .restart [x] .refusedRange m }))
    ∧ (s.store.snapshot = none →
      let restarted (scope : Byte) (T : Tables) (flag : Bool) (t : State) : Prop :=
        AfterReset T t ∧ t.store.image = s.store.image ∧ t.store.defaulted = flag
          ∧ t.house = { s.house.afterSend .restart [scope] .ok m with timeout := none }
          ∧ t.toolRequest = s.toolRequest ∧ t.seg.carried = s.seg.carried
          ∧ (s.seg.activity = .granted → t.seg.activity = .granted)
      (∃ t, exec (.restartRuntime (f 0)) s = .next t
        ∧ restarted 0 (tablesOf s) s.store.defaulted t)
      ∧ (∃ t, exec (.restartReload (f 1)) s = .next t
        ∧ restarted 1 (s.store.image.load.getD Tables.factory) (s.store.image.load.isNone) t)
      ∧ ∃ t, exec (.restartFactory (f 2)) s = .next t
        ∧ restarted 2 Tables.factory s.store.defaulted t)

/-! ## Supply and reset input -/

/-- R174, R153, R155, R169: POWER_ON, and RESET_INPUT of a part with power, read the straps, install the
image or, where its load fails, the factory values, and give every block its values after reset: own
address 0x60 plus the straps, no error, last result OK with no kind. The image stays. That the room segment
has carried nothing is the model's (log 23). -/
def Obligations.PowerOnLoadsAndResets : Prop :=
  ∀ (straps : BitVec 2) (s : State),
    let T := s.store.image.load.getD Tables.factory
    let started (t : State) : Prop :=
      AfterReset T t ∧ t.store.image = s.store.image
        ∧ t.store.defaulted = s.store.image.load.isNone
        ∧ t.house.own.toNat = 0x60 + straps.toNat ∧ t.house.state = .idle
        ∧ t.house.timeout = none ∧ t.house.errors = 0 ∧ t.house.lastResult = .ok
        ∧ t.house.lastKind = none
        ∧ t.seg.carried = { sent := [], received := [], acks := [] }
        ∧ (t.seg.activity = .granted ↔ s.toolRequest = true)
    (∃ t, exec (.powerOn straps) s = .next t ∧ started t)
    ∧ (s.powered = true → ∃ t, exec (.resetInput straps) s = .next t ∧ started t)

/-- R172: power loss and the reset input cut a save short: its image fails its check at the load that
follows, at the next power-on or at the reset input itself, which installs the factory values and sets the
store-defaulted flag. Power loss leaves the image as it is. That the part without power holds no snapshot,
energises no channel, leads no transaction and runs no forward timeout is the model's choice (log 10). -/
def Obligations.PowerLossCutsSave : Prop :=
  ∀ s : State, s.powered = true →
    ∃ t, exec .powerLoss s = .next t ∧ t.powered = false ∧ t.store.image = s.store.image
      ∧ t.store.snapshot = none ∧ (∀ i, (t.channels.get i).energised = false)
      ∧ t.seg.activity = .idle ∧ t.house.timeout = none
      ∧ (SavingImageFails s → s.store.snapshot ≠ none → ∀ straps,
          (∃ u, exec (.powerOn straps) t = .next u ∧ u.store.defaulted = true
            ∧ AfterReset Tables.factory u)
          ∧ ∃ u, exec (.resetInput straps) s = .next u ∧ u.store.defaulted = true
            ∧ u.store.snapshot = none ∧ AfterReset Tables.factory u)

/-! ## Proxied addresses and forwards -/

/-- R143: a header whose address is neither the own one nor that of a room in use under CACHE or FULL is
not acknowledged; R148: under CACHE every frame but a REPORT fetch is refused at its kind byte. Nothing else
changes. R140, R142: a mark alone is taken in every house transaction state but PROXY_HELD: a stop mark makes
it IDLE, a start mark HEADER; that the row FORWARD_OFFER without a header carries it is the model's (log 8). -/
def Obligations.UnservedHeadersAreIgnored : Prop :=
  (∀ (header : Byte) (bytes : List Byte) (nackAt : Option Nat) (f : FetchFrame) (m : Mark)
    (s : State), s.listens →
    let silent (a : BitVec 7) : Prop := a ≠ s.house.own
      ∧ ∀ r, (s.rooms.get r).cfg.address = 0 ∨ (s.rooms.get r).cfg.address ≠ a
          ∨ (s.rooms.get r).cfg.proxy = .off
    (silent (headerAddress header) →
      exec (.forwardOffer (some header) bytes nackAt m) s = .next (driveLines { s with
        house := s.house.ignoringAfter [header] m }))
    ∧ (∀ a, silent a →
      exec (.report a f) s = .next (driveLines { s with
        house := s.house.ignoringAfter [headerByte a true] f.mark }))
    ∧ ∀ (r : RoomIx) (kind : Byte) (rest : List Byte), bytes = kind :: rest →
      ProxiedAt s r (headerAddress header) .cache →
      (headerIsFetch header = false ∨ kind ≠ 0x21) →
      exec (.forwardOffer (some header) bytes nackAt m) s = .next (driveLines { s with
        house := s.house.ignoringAfter [header, kind] m }))
  ∧ ∀ (m : Mark) (s : State), s.powered = true →
      exec (.forwardOffer none [] none m) s = .next (driveLines { s with
        house := { s.house with
          state :=
            match s.house.state, m with
            | .proxyHeld r p f, _ => .proxyHeld r p f
            | st, .absent => st
            | _, .stop => .idle
            | _, .start => .header } })

/-- R147: a REPORT fetch at a proxied address is answered, with selector 0 and a FRESH or AGED room, with
the four values of the cached report as the unit sent them; with another selector, or a room NONE or LOST,
the selector is not acknowledged. It changes nothing in the room and is not forwarded. -/
def Obligations.ReportIsServedFromCache : Prop :=
  ∀ (r : RoomIx) (a : BitVec 7) (mode : ProxyMode) (f : FetchFrame) (s : State),
    s.listens → ProxiedAt s r a mode → f.nackAt = none →
    let head : List Byte := [headerByte a true, 0x21, f.selector]
    (f.selector ≠ 0 ∨ (s.rooms.get r).freshness = .none ∨ (s.rooms.get r).freshness = .lost →
      exec (.report a f) s = .next (driveLines { s with
        house := s.house.ignoringAfter head f.mark }))
    ∧ ∀ v, f.selector = 0 →
        (s.rooms.get r).freshness = .fresh ∨ (s.rooms.get r).freshness = .aged →
        (s.rooms.get r).report = some v →
      let payload := signedBytes v.air ++ signedBytes v.setpoint ++ [byteOf v.demand] ++
        (match v.floor with
          | some z => 1 :: signedBytes z
          | none => [0])
      exec (.report a f) s = .next (driveLines { s with
        house := s.house.afterReply head payload (.proxyCache r mode) f.mark })

/-- R149, R150, R56, R57: at its hold-off point a SEND with a zero sum, or a FETCH of a kind other than
REPORT, to a FULL address is offered as a forward. Taken (slot EMPTY, segment not granted), the clock is
held with the forward timeout of the table, and an IDLE controller without a tool request carries it at
once, byte for byte; not taken, the last byte is not acknowledged and nothing else changes. A SEND whose length
byte is above 32, or whose sum is not zero, is refused at that byte, and a frame that a mark cuts off before
its hold-off point offers nothing; none is counted or recorded. -/
def Obligations.ForwardOfferIsTakenOrRefused : Prop :=
  ∀ (r : RoomIx) (header kind : Byte) (rest : List Byte) (nackAt : Option Nat) (m : Mark) (s : State)
    (frame : ForwardFrame),
    s.listens → ProxiedAt s r (headerAddress header) .full →
    let bytes := header :: kind :: rest
    let a := headerAddress header
    let refusedAt (bs : List Byte) : Host.Outcome State Fault Refusal :=
      .next (driveLines { s with house := s.house.ignoringAfter bs m })
    let cutOff (bs : List Byte) : Host.Outcome State Fault Refusal :=
      .next (driveLines { s with
        house := { s.house with
          state := afterMark (.proxyCache r .full) m
          received := bs
          sent := []
          acks := List.replicate bs.length true } })
    ((headerIsFetch header = true ∧ kind ≠ 0x21 ∧ ∃ sel, rest = [sel] ∧ frame = .fetch kind sel)
      ∨ (headerIsFetch header = false ∧ sum8 (header :: kind :: rest) = 0
        ∧ ∃ payload check, payload.length ≤ 32
          ∧ rest = byteOf payload.length :: payload ++ [check] ∧ frame = .send kind payload) →
      (s.seg.slot ≠ .empty ∨ s.seg.activity = .granted →
        exec (.forwardOffer (some header) (kind :: rest) nackAt m) s = refusedAt bytes)
      ∧ (s.seg.slot = .empty → s.seg.activity ≠ .granted →
        ∃ seg, exec (.forwardOffer (some header) (kind :: rest) nackAt m) s
          = .next (driveLines { s with
            house := { s.house with
              state := .proxyHeld r .full (headerIsFetch header)
              received := bytes
              sent := []
              acks := List.replicate (bytes.length - 1) true
              timeout := some s.params.g2.forwardTimeout }
            seg := seg })
          ∧ (s.seg.activity = .idle → s.toolRequest = false → seg = { s.seg with
              activity := .forwarding
                { address := a, sent := bytes, holdLimit := s.params.g2.holdLimit
                  timedOut := false, ended := false, stale := false }
              slot := .active a frame false })
          ∧ (s.seg.activity = .idle → s.toolRequest = true → seg = { s.seg with
              activity := .granted, slot := .waiting a frame })
          ∧ (s.seg.activity ≠ .idle → seg = { s.seg with slot := .waiting a frame })))
    ∧ (headerIsFetch header = false →
        (∀ len more, rest = len :: more → 32 < len.toNat →
          exec (.forwardOffer (some header) (kind :: rest) nackAt m) s
            = refusedAt [header, kind, len])
        ∧ (∀ payload check, payload.length ≤ 32 →
            rest = byteOf payload.length :: payload ++ [check] → sum8 bytes ≠ 0 →
          exec (.forwardOffer (some header) (kind :: rest) nackAt m) s = refusedAt bytes)
        ∧ (∀ len more, rest = len :: more → len.toNat ≤ 32 → more.length ≤ len.toNat →
          exec (.forwardOffer (some header) (kind :: rest) nackAt m) s = cutOff bytes))
    ∧ exec (.forwardOffer (some header) [kind] nackAt m) s = cutOff [header, kind]
    ∧ exec (.forwardOffer (some header) [] nackAt m) s = cutOff [header]

/-- R58, R151, R57: when a carried forward's room transaction ends, its outcome goes to the held slot: the slot
acknowledged for a SEND that the unit acknowledged whole and for a FETCH that it answered with at most 32
payload bytes and a right check, whose bytes are then sent on as received, up to one that the house controller
leaves unacknowledged; not acknowledged after a timeout, a byte not acknowledged, a length above 32 or a wrong
check. An orphan's outcome is discarded in every house state, and a transaction that a restart ended has none
(R63). What the room segment carried is R52's: the bytes of the 716 up to one that was not acknowledged, and
the reply, each byte acknowledged but the check byte, or a length above 32, not acknowledged, as its last (what
a transaction cut short carried: log 36; that a byte which the unit does not drive is received as 0xFF: log
19). No room's record changes; the controller chooses (R55). That the cycle's end (R54) is looked at when a
forward, or a transaction that a restart ended, comes to its end is the model's inference (log 15). R152, R59:
when the forward timeout runs out, a WAITING forward is withdrawn, an ACTIVE one becomes an orphan, and the
held slot is left unacknowledged, the clock released and the transaction ignored. The mark that the row carries
comes after (R142). -/
def Obligations.HeldSlotIsAnswered : Prop :=
  ∀ (m : Mark) (s : State), s.powered = true →
    (∀ (r : RoomIx) (mode : ProxyMode) (fetch : Bool), s.house.state = .proxyHeld r mode fetch →
      (∀ (e : RoomEnding) (k : Option Nat) (x : Transaction) (a : BitVec 7) (f : ForwardFrame),
        s.seg.activity = .forwarding x → x.ended = false → s.seg.slot = .active a f false →
        (fetch = true ↔ ∃ k sel, f = .fetch k sel) →
        let failed : House := { s.house with
          state := .ignoring, sent := [], acks := s.house.acks ++ [false], timeout := none }
        ∃ seg h, exec (.roomTransactionEnd e ⟨k, m⟩) s
            = .next (driveLines { s with seg := seg, house := h.marked m })
          ∧ AfterTransactionEnd s s.seg.cursor .empty seg
          ∧ CarriedIn x (forwardReplyLengths x) e seg.carried
          ∧ (x.timedOut = true ∨ (∃ j, e = .nack j) → h = failed)
          ∧ (x.timedOut = false → fetch = false → e = .acked →
            h = { s.house with
              state := .proxyCache r mode, sent := [], acks := s.house.acks ++ [true]
              timeout := none })
          ∧ (∀ len more, x.timedOut = false → fetch = true → e = .reply (len :: more) →
              32 < len.toNat → h = failed)
          ∧ ∀ payload check, x.timedOut = false → fetch = true → payload.length ≤ 32 →
            let reply := byteOf payload.length :: payload ++ [check]
            e = .reply reply →
            (sum8 (x.sent ++ reply) = 0 →
              (k = none → h = { s.house with
                state := .proxyCache r mode, sent := reply
                acks := s.house.acks ++ [true], timeout := none })
              ∧ ∀ j, k = some j → j ≤ payload.length → h = { s.house with
                state := .ignoring, sent := reply.take (j + 1)
                acks := s.house.acks ++ [true], timeout := none })
            ∧ (sum8 (x.sent ++ reply) ≠ 0 → h = failed))
      ∧ ∀ n : Nat, s.house.timeout = some n →
        exec (.forwardTimeoutExpiry ⟨n, m⟩) s = .next (driveLines { elapseMs n s with
          seg := { (elapseMs n s).seg with slot :=
            match s.seg.slot with
            | .empty => .empty
            | .waiting _ _ => .empty
            | .active a f _ => .active a f true }
          house := { s.house with
            state := afterMark .ignoring m, sent := [], acks := s.house.acks ++ [false]
            timeout := none } }))
    ∧ (∀ (e : RoomEnding) (k : Option Nat) (x : Transaction) (a : BitVec 7) (f : ForwardFrame),
        s.seg.activity = .forwarding x → x.ended = false → s.seg.slot = .active a f true →
        ∃ seg, exec (.roomTransactionEnd e ⟨k, m⟩) s
            = .next (driveLines { s with seg := seg, house := s.house.marked m })
          ∧ AfterTransactionEnd s s.seg.cursor .empty seg
          ∧ CarriedIn x (forwardReplyLengths x) e seg.carried)
    ∧ ∀ (e : RoomEnding) (k : Option Nat) (x : Transaction),
        (s.seg.activity = .forwarding x ∨ ∃ r, s.seg.activity = .polling r x) → x.ended = true →
        ∃ seg, exec (.roomTransactionEnd e ⟨k, m⟩) s
            = .next (driveLines { s with seg := seg, house := s.house.marked m })
          ∧ AfterTransactionEnd s s.seg.cursor s.seg.slot seg
          ∧ (s.seg.activity = .forwarding x → CarriedIn x (forwardReplyLengths x) e seg.carried)
          ∧ ∀ r, s.seg.activity = .polling r x → CarriedIn x (some (6, 8)) e seg.carried

/-! ## The room segment -/

/-- R53, R54: when the poll timer runs out it starts again with Tp, whatever the controller does. With no
cycle running the cycle starts at room 1, or ends at once with no room in use, and an IDLE controller chooses
(R55): with no tool request and no forward it polls the lowest room in use. With a cycle running the pending
flag is set, and a cycle due behind a pending one is lost. Whether a cycle has come to its end is looked at
as the timer runs out, unless a poll is running (log 15). -/
def Obligations.PollTimerStartsCycle : Prop :=
  ∀ (a : Nat) (s : State), s.powered = true → s.seg.pollTimer = a →
    let t := elapse a s
    ∃ seg, exec (.pollTimerExpiry a) s = .next (driveLines { t with seg := seg })
      ∧ seg.pollTimer = s.params.g2.pollInterval ∧ seg.carried = s.seg.carried
      ∧ (∀ r : RoomIx, s.seg.cursor = none → s.seg.activity = .idle → s.toolRequest = false →
          (∀ b f, s.seg.slot ≠ .waiting b f) → (s.rooms.get r).cfg.address ≠ 0 →
          (∀ q, q < r → (s.rooms.get q).cfg.address = 0) →
        seg = { s.seg with
          pollTimer := s.params.g2.pollInterval
          cursor := some 1
          activity := .polling r
            { address := (s.rooms.get r).cfg.address
              sent := [headerByte (s.rooms.get r).cfg.address true, 0x21, 0]
              holdLimit := s.params.g2.holdLimit
              timedOut := false, ended := false, stale := false } })
      ∧ (∀ (r : RoomIx) (x : Transaction) (c : Nat), s.seg.activity = .polling r x →
          x.ended = false → s.seg.cursor = some c →
        seg = { s.seg with pollTimer := s.params.g2.pollInterval, pendingCycle := true })
      ∧ ((∀ r x, s.seg.activity = .polling r x → x.ended = true) →
        ∃ cursor pending, CycleChecked s s.seg.cursor cursor pending
          ∧ (cursor ≠ none → seg = { s.seg with
              pollTimer := s.params.g2.pollInterval, cursor := cursor, pendingCycle := true })
          ∧ (cursor = none → seg.pendingCycle = pending
            ∧ ((∃ r, PollableAt s 1 r) → seg.cursor = some 1)
            ∧ ((∀ r, ¬ PollableAt s 1 r) → seg.cursor = none)
            ∧ (s.seg.activity ≠ .idle →
                seg.activity = s.seg.activity ∧ seg.slot = s.seg.slot)
            ∧ (s.seg.activity = .idle → Chosen s seg.cursor s.seg.slot seg)))

/-- R45, R48, R52: a poll whose reply is a well-formed REPORT with a right check, at the address the room had
all the while, replaces the cached report, makes the room FRESH with no failures and age 0, and applies the
floor rule. The 716 acknowledges each byte of the reply but the check byte. The cursor moves behind the room,
the cycle is looked at and the controller chooses (R54, R55). Where no demand drop closes loops
(DemandDropClosesLoops), nothing else changes but for the mark that the row carries. -/
def Obligations.GoodPollReplacesReport : Prop :=
  ∀ (r : RoomIx) (x : Transaction) (v : Report) (payload : List Byte) (check : Byte) (k : Option Nat)
    (m : Mark) (s : State), s.powered = true → s.seg.activity = .polling r x → x.ended = false →
    x.timedOut = false → x.stale = false → (s.rooms.get r).cfg.address = x.address →
    payload.length = 6 ∨ payload.length = 8 → reportOf payload = some v →
    sum8 (x.sent ++ byteOf payload.length :: payload ++ [check]) = 0 →
    let room := s.rooms.get r
    let floor : FloorState :=
      match room.floor, room.cfg.floorLimit, v.floor with
      | .normal, some l, some z => if l ≤ z then .limited else .normal
      | .limited, some l, some z => if z < l - 100 then .normal else .limited
      | _, _, _ => .normal
    let room' : Room :=
      { room with
        report := some v, freshness := .fresh, failures := 0, age := 0, floor := floor
        lastPoll := .answered }
    ∃ t, exec (.roomTransactionEnd
        (.reply (byteOf payload.length :: payload ++ [check])) ⟨k, m⟩) s = .next t
      ∧ t.rooms = s.rooms.set r room' ∧ t.house = s.house.marked m
      ∧ AfterTransactionEnd s (some (r.val + 2)) s.seg.slot t.seg
      ∧ t.seg.carried =
        { sent := x.sent, received := byteOf payload.length :: payload ++ [check]
          acks := List.replicate (payload.length + 1) true ++ [false] }
      ∧ (¬ (s.period.mode = .running ∧ 0 < derivedDemand room ∧ derivedDemand room' = 0) →
          t = driveLines { s with
            rooms := s.rooms.set r room', seg := t.seg, house := s.house.marked m })

/-- R46: a failed poll, at the address the room had all the while, records its outcome (TIMEOUT, NO_ACK or
CHECK_ERROR, R52) and raises the failures; at or above the loss threshold the room is LOST, below it a FRESH
room becomes AGED; the report, its age and the floor state stay. Where no demand drop closes loops
(DemandDropClosesLoops), nothing else changes but the room segment, whose cursor moves behind the room and
whose controller chooses (R54, R55), and for the mark that the row carries. With the room's address changed
while the poll ran, even if it was written back, no room changes, whatever the outcome (R43, R52). What the
segment carried is R52's: the bytes of the 716 up to one that was not acknowledged, and the reply, each byte
acknowledged but the check byte, or a length outside 6 to 8, not acknowledged, as its last (what a transaction
cut short carried: log 36). That a byte which the unit does not drive is received as 0xFF is the model's
inference (log 19): by it a unit that sends no reply makes the outcome CHECK_ERROR, and a reply shorter than
its length says is checked with such bytes in the places of those that are missing. -/
def Obligations.FailedPollAgesRoom : Prop :=
  ∀ (r : RoomIx) (x : Transaction) (e : RoomEnding) (o : PollOutcome) (k : Option Nat) (m : Mark)
    (s : State),
    s.powered = true → s.seg.activity = .polling r x → x.ended = false →
    let room := s.rooms.get r
    let n := min 255 (room.failures + 1)
    let room' : Room :=
      { room with
        lastPoll := o
        failures := n
        freshness :=
          if s.params.g2.lossThreshold ≤ n then .lost
          else if room.freshness = .fresh then .aged else room.freshness }
    ((x.timedOut = true ∧ o = .timeout
        ∨ x.timedOut = false ∧ (∃ j, e = .nack j) ∧ o = .noAck
        ∨ x.timedOut = false ∧ o = .checkError ∧ ∃ payload check, payload.length ≤ 255
            ∧ e = .reply (byteOf payload.length :: payload ++ [check])
            ∧ (payload.length < 6 ∨ 8 < payload.length ∨ reportOf payload = none
              ∨ sum8 (x.sent ++ byteOf payload.length :: payload ++ [check]) ≠ 0)
        ∨ x.timedOut = false ∧ o = .checkError ∧ (e = .acked ∨ e = .reply [])
        ∨ x.timedOut = false ∧ o = .checkError ∧ ∃ len more, e = .reply (len :: more)
            ∧ more.length ≤ len.toNat
            ∧ (let body := more ++ List.replicate (len.toNat + 1 - more.length) 0xFF
              len.toNat < 6 ∨ 8 < len.toNat ∨ reportOf (body.take len.toNat) = none
                ∨ sum8 (x.sent ++ len :: body) ≠ 0)) →
      room.cfg.address = x.address → x.stale = false →
      ∃ t, exec (.roomTransactionEnd e ⟨k, m⟩) s = .next t
        ∧ t.rooms = s.rooms.set r room' ∧ t.house = s.house.marked m
        ∧ AfterTransactionEnd s (some (r.val + 2)) s.seg.slot t.seg
        ∧ CarriedIn x (some (6, 8)) e t.seg.carried
        ∧ (¬ (s.period.mode = .running ∧ 0 < derivedDemand room ∧ derivedDemand room' = 0) →
            t = driveLines { s with
              rooms := s.rooms.set r room', seg := t.seg, house := s.house.marked m }))
    ∧ (room.cfg.address ≠ x.address ∨ x.stale = true →
      ∃ seg, exec (.roomTransactionEnd e ⟨k, m⟩) s
          = .next (driveLines { s with seg := seg, house := s.house.marked m })
        ∧ AfterTransactionEnd s (some (r.val + 2)) s.seg.slot seg
        ∧ CarriedIn x (some (6, 8)) e seg.carried)

/-- R50, R80: whatever event of the Room Table makes a room's derived demand fall from above 0 to 0 in RUNNING
(a good or a failed poll, FLOOR_LIMITED entry, an age expiry, a WRITE_ROOM or a WRITE_MANIFOLD of group 2, also
one that comes as a transaction of the row FORWARD_OFFER with the own header, log 1), the room's enabled loops
that are not OFF close: class OFF, on-time 0, out of the queue and the plan, marked closed early, and the
channel released; every other loop's record stays, and its channel is not released. R78: a report made while a
regular boundary is due is taken at once, or waits for the boundary; which is free (log 34). A drop that comes
about within a regular boundary is AgeAboveHoldTimeLosesRoom's. A poll that is not acknowledged is one such
command that completes so. No test is taken to stand in the queue. -/
def Obligations.DemandDropClosesLoops : Prop :=
  ∀ (b : Bank PeriodRecord 16) (s : State), s.powered = true → s.period.mode = .running →
    s.period.records = some b → (∀ i, .test i ∉ s.arb.queue) →
    (∀ (c : Instr) (t : State), ChangesDemand s c → exec c s = .next t →
      let dropped (r : RoomIx) : Prop :=
        0 < derivedDemand (s.rooms.get r) ∧ derivedDemand (t.rooms.get r) = 0
      let now (r : RoomIx) : Prop :=
        t.period.time < s.period.eff.period ∨ Config.dropAfterBoundary s.draws r = false
      let closed (i : LoopIx) : Prop := (s.loops.get i).cfg.enabled = true
        ∧ (s.loops.get i).cls ≠ .off
        ∧ ∃ r, (s.loops.get i).cfg.room = some r ∧ dropped r ∧ now r
      ∃ b', t.period.records = some b'
        ∧ (∀ i, closed i →
            t.loops.get i = { s.loops.get i with cls := .off, onTime := 0 }
            ∧ (t.channels.get i).energised = false
            ∧ .loop i ∉ t.arb.queue ∧ (∀ e ∈ t.arb.plan, e.loop ≠ i)
            ∧ (b'.get i).closedEarly = true ∧ (b'.get i).cls = (b.get i).cls
            ∧ (b'.get i).onTime = (b.get i).onTime)
        ∧ (∀ i, ¬ closed i → t.loops.get i = s.loops.get i
            ∧ (b'.get i).closedEarly = (b.get i).closedEarly
            ∧ ((s.channels.get i).energised = true → (t.channels.get i).energised = true))
        ∧ (∀ r, r ∈ t.period.drops ↔ r ∈ s.period.drops ∨ dropped r ∧ ¬ now r)
        ∧ t.probes = s.probes
        ∧ t.store = { s.store with saveLeft := t.store.saveLeft, autosave := t.store.autosave }
        ∧ (t.store.autosave = s.store.autosave
          ∨ t.store.autosave = min s.store.autosave t.params.g3.autosave)
        ∧ t.period.mode = s.period.mode ∧ t.period.eff = s.period.eff
        ∧ t.period.summary = s.period.summary)
    ∧ ∀ (r : RoomIx) (x : Transaction) (j : Nat) (k : Option Nat) (m : Mark),
        s.seg.activity = .polling r x → x.ended = false → x.stale = false →
        (s.rooms.get r).cfg.address = x.address → 0 < derivedDemand (s.rooms.get r) →
        (s.rooms.get r).cfg.fallback = 0 →
        s.params.g2.lossThreshold ≤ min 255 ((s.rooms.get r).failures + 1) →
        ∃ t, exec (.roomTransactionEnd (.nack j) ⟨k, m⟩) s = .next t
          ∧ derivedDemand (t.rooms.get r) = 0 ∧ (t.rooms.get r).freshness = .lost
          ∧ t.params = s.params ∧ t.house = s.house.marked m ∧ t.store = s.store
          ∧ t.period.time = s.period.time

/-- R52: a hold-off longer than the room hold limit that the transaction began with makes its outcome
TIMEOUT. That a hold-off within the limit changes nothing, and that its milliseconds move no count of the
part, is the model's choice (log 20). -/
def Obligations.HoldOffBeyondLimitTimesOut : Prop :=
  ∀ (held : Nat) (r : RoomIx) (x : Transaction) (s : State), s.powered = true →
    (s.seg.activity = .polling r x → x.holdLimit < held →
      exec (.roomHoldTimeout held) s = .next (driveLines { s with
        seg := { s.seg with activity := .polling r { x with timedOut := true } } }))
    ∧ (s.seg.activity = .forwarding x → x.holdLimit < held →
      exec (.roomHoldTimeout held) s = .next (driveLines { s with
        seg := { s.seg with activity := .forwarding { x with timedOut := true } } }))
    ∧ (s.seg.activity = .polling r x ∨ s.seg.activity = .forwarding x → held ≤ x.holdLimit →
      exec (.roomHoldTimeout held) s = .next (driveLines s))

/-- R60, R61, R55: a tool request raised with the controller IDLE is granted at once; during a
transaction it waits. Dropped while GRANTED it ends the grant, and a forward still WAITING is carried
first, or else the running cycle resumes at its cursor. -/
def Obligations.ToolGrantFollowsRequest : Prop :=
  ∀ (s : State), s.powered = true →
    (s.seg.activity = .idle →
      exec .toolRequestRaised s = .next (driveLines { s with
        toolRequest := true, seg := { s.seg with activity := .granted } }))
    ∧ (s.seg.activity ≠ .idle →
      exec .toolRequestRaised s = .next (driveLines { s with toolRequest := true }))
    ∧ (∀ a f, s.seg.activity = .granted → s.seg.slot = .waiting a f →
      exec .toolRequestDropped s = .next (driveLines { s with
        toolRequest := false
        seg := { s.seg with
          activity := .forwarding
            { address := a, sent := forwardBytes a f, holdLimit := s.params.g2.holdLimit
              timedOut := false, ended := false, stale := false }
          slot := .active a f false } }))
    ∧ (s.seg.activity = .granted → s.seg.slot = .empty → s.seg.cursor = none →
      exec .toolRequestDropped s = .next (driveLines { s with
        toolRequest := false, seg := { s.seg with activity := .idle } }))
    ∧ (∀ (r : RoomIx) (c : Nat), s.seg.activity = .granted → s.seg.slot = .empty →
        s.seg.cursor = some c → (s.rooms.get r).cfg.address ≠ 0 → c ≤ r.val + 1 →
        (∀ q, q < r → (s.rooms.get q).cfg.address = 0 ∨ q.val + 1 < c) →
      exec .toolRequestDropped s = .next (driveLines { s with
        toolRequest := false
        seg := { s.seg with
          activity := .polling r
            { address := (s.rooms.get r).cfg.address
              sent := [headerByte (s.rooms.get r).cfg.address true, 0x21, 0]
              holdLimit := s.params.g2.holdLimit
              timedOut := false, ended := false, stale := false } } }))
    ∧ (s.seg.activity ≠ .granted →
      exec .toolRequestDropped s = .next (driveLines { s with toolRequest := false }))

/-- R47: a FRESH or AGED room whose age has come to exceed H becomes LOST, its report, failures and floor
state kept; where no demand drop closes loops (DemandDropClosesLoops), nothing else changes. R78: a regular
boundary of RUNNING that is taken before the AGE_EXPIRY of the same instant finds the room LOST: where its
demand falls to 0 by this, its loops are OFF in the new period, and the report finds nothing to close, so
that none is marked closed early there. Probe 0 is taken to show no overheat. -/
def Obligations.AgeAboveHoldTimeLosesRoom : Prop :=
  ∀ (r : RoomIx) (a : Nat) (s : State), s.powered = true →
    let t := elapse a s
    (s.rooms.get r).freshness = .fresh ∨ (s.rooms.get r).freshness = .aged →
    s.params.g2.holdTime < (t.rooms.get r).age →
    let rooms := t.rooms.set r { t.rooms.get r with freshness := .lost }
    ∃ u, exec (.ageExpiry r a) s = .next u ∧ u.rooms = rooms ∧ u.seg = t.seg ∧ u.house = t.house
      ∧ (¬ (s.period.mode = .running ∧ 0 < derivedDemand (s.rooms.get r)
            ∧ (s.rooms.get r).floor = .normal ∧ (s.rooms.get r).cfg.fallback = 0) →
          u = driveLines { t with rooms := rooms })
      ∧ (s.period.mode = .running → s.period.eff.period ≤ t.period.time →
        (∀ f, (s.probes.get 0).status = .ok → (s.probes.get 0).filtered = some f →
          f < s.params.g1.trip) →
        (s.rooms.get r).floor = .normal → (s.rooms.get r).cfg.fallback = 0 →
        s.params.timing.margin < s.params.timing.period →
        ∃ v b, exec (.regularBoundary a) s = .next v
          ∧ v.period.mode = .running ∧ v.period.time = 0
          ∧ v.rooms.get r = { t.rooms.get r with freshness := .lost }
          ∧ v.period.records = some b
          ∧ ∀ i, (s.loops.get i).cfg.room = some r →
              (v.loops.get i).cls = .off ∧ (v.loops.get i).onTime = 0
                ∧ (v.channels.get i).energised = false ∧ (b.get i).closedEarly = false)

/-! ## Probes -/

/-- R27, R28, R29, R30, R31, R32, R33: the rising edge that completes a cycle of `c` ticks, high for `h`,
overwrites the last period, and the cycle is a PERIOD error below 5000 or above 20000 ticks, a RANGE error
with a high ratio below 6554 or above 58982, and otherwise a good sample, converted, calibrated, and taken
into the filter or counted toward recovery; an error is counted against the threshold in effect. The next
cycle begins. No other probe changes, and nothing else. -/
def Obligations.CompletedCycleIsChecked : Prop :=
  ∀ (i : ProbeIx) (h : Nat) (s : State), s.powered = true →
    let p := s.probes.get i
    let depth := if p.cfg.depth = .two then 2 else 4
    let c := p.counter + depth
    let ratio := h * 65536 / c
    let x : Int := ((ratio * 17500 / 65536 : Nat) : Int) - 4500 + p.cfg.offset
    p.cfg.fitted = true → p.adopting = false → p.run = 0 → p.accepted = false → p.phase = .low →
    p.high = some h → c < 65535 → p.status ≠ .absent →
    let p' : Probe :=
      { p with accepted := true, period := some c, counter := 0, phase := .high }
    let becomes (q : Probe) : Prop :=
      exec (.probeCycleComplete i [{ level := true, samples := depth }]) s
        = .next (driveLines { s with probes := s.probes.set i q })
    let error (e : ProbeError) : Prop :=
      let n := if p.status = .ok then 1 else min 255 (p.errors + 1)
      if p.status = .failed then becomes { p' with errors := n, lastError := e, recovery := 0 }
      else if s.params.g3.errorThreshold ≤ n then
        becomes { p' with errors := n, lastError := e, recovery := 0, status := .failed }
      else becomes { p' with errors := n, lastError := e, status := .suspect }
    (c < 5000 ∨ 20000 < c → error .period)
    ∧ (5000 ≤ c → c ≤ 20000 → (ratio < 6554 ∨ 58982 < ratio) → error .range)
    ∧ (5000 ≤ c → c ≤ 20000 → 6554 ≤ ratio → ratio ≤ 58982 →
      if p.status = .failed then
        if p.recovery + 1 < 16 then
          becomes { p' with sample := some x, errors := 0, recovery := p.recovery + 1 }
        else
          becomes { p' with
            sample := some x, filtered := some x, errors := 0, recovery := 0, status := .ok }
      else
        ∃ f : Int, becomes { p' with
            sample := some x, filtered := some f, errors := 0, status := .ok }
          ∧ (p.filtered = none → f = x)
          ∧ ∀ v, p.filtered = some v →
              if p.cfg.shift = 0 then f = x
              else f = v + Int.fdiv (x - v + 2 ^ (p.cfg.shift - 1)) (2 ^ p.cfg.shift))

/-- R24, R25: on a fitted probe's line, as many samples of the other level as the line filter's depth make
an edge at the last of them: rising in WAIT, the counter is 0 and the phase HIGH; falling in HIGH, the
counter is the high time and the phase LOW; falling in WAIT, the phase stays. Fewer samples make no edge.
R26, R31, R32: when the counter reaches 65,535 on a line that shows the accepted level, a STUCK error is
counted, the counter is 0 and the phase WAIT; the last high time and period stay. No other probe changes,
and nothing else. -/
def Obligations.CaptureFollowsLine : Prop :=
  ∀ (i : ProbeIx) (n : Nat) (s : State), s.powered = true →
    let p := s.probes.get i
    let depth := if p.cfg.depth = .two then 2 else 4
    let becomes (q : Probe) : Host.Outcome State Fault Refusal :=
      .next (driveLines { s with probes := s.probes.set i q })
    let line : List LineRun := [{ level := !p.accepted, samples := n }]
    let errors := if p.status = .ok then 1 else min 255 (p.errors + 1)
    let stuck : Probe :=
      { p with run := 0, counter := 0, phase := .wait, errors := errors, lastError := .stuck }
    p.cfg.fitted = true → p.adopting = false →
    (1 ≤ n → n < depth → p.run = 0 → p.counter + depth < 65535 →
      exec (.acceptedEdge i line) s = becomes { p with counter := p.counter + n, run := n })
    ∧ (n = depth → p.run = 0 → p.counter + depth < 65535 → p.accepted = false → p.phase = .wait →
      exec (.acceptedEdge i line) s
        = becomes { p with accepted := true, counter := 0, phase := .high })
    ∧ (n = depth → p.run = 0 → p.counter + depth < 65535 → p.accepted = true → p.phase = .high →
      exec (.acceptedEdge i line) s = becomes { p with
        accepted := false, counter := p.counter + depth, high := some (p.counter + depth)
        phase := .low })
    ∧ (n = depth → p.run = 0 → p.counter + depth < 65535 → p.accepted = true → p.phase = .wait →
      exec (.acceptedEdge i line) s = becomes { p with
        accepted := false, counter := p.counter + depth })
    ∧ (p.counter < 65535 → p.status ≠ .absent →
      exec (.stuckError i [{ level := p.accepted, samples := 65535 - p.counter }]) s
        = becomes
            (if p.status = .failed then { stuck with recovery := 0 }
             else if s.params.g3.errorThreshold ≤ errors then
               { stuck with recovery := 0, status := .failed }
             else { stuck with status := .suspect }))

/-! ## The period -/

/-- R69: at a tick of a RUNNING period, one for each multiple of 10 s of period time below P, every enabled
loop whose valve has been OPEN for the settle time in effect adds the drop from probe 0 to its return probe to
its Σ and 1 to its n, where both probes are usable; every other loop is left as it was. Below the trip nothing
else changes. The same holds in a FLUSH that does not end at the tick. With no multiple of 10 s reached since
the last tick, none is taken. That a tick that is due stays due until its command comes is the model's (log
14). -/
def Obligations.TickAccumulatesDrops : Prop :=
  ∀ (a : Nat) (s : State), s.powered = true →
    let t := elapse a s
    let ok (q : ProbeIx) (f : Int) : Prop :=
      (s.probes.get q).status = .ok ∧ (s.probes.get q).filtered = some f
    let open_ (i : LoopIx) : Prop :=
      ∃ since, (t.channels.get i).valve = .isOpen since ∧ s.period.eff.tSettle ≤ since
    (s.period.mode = .stopped ∨ t.period.time < s.period.lastTick + 10
        ∨ s.period.eff.period ≤ s.period.lastTick + 10 →
      exec (.measurementTick a) s = .next (driveLines t))
    ∧ (s.period.mode = .running
        ∨ s.period.mode = .flush ∧ ¬ FlushEndsAt t (s.period.lastTick + 10) →
      s.period.lastTick + 10 ≤ t.period.time →
      s.period.lastTick + 10 < s.period.eff.period → (∀ f, ok 0 f → f < s.params.g1.trip) →
      ∃ u, exec (.measurementTick a) s = .next u
        ∧ u = driveLines { t with
            loops := u.loops, period := { t.period with lastTick := s.period.lastTick + 10 } }
        ∧ ∀ i : LoopIx,
            (∀ f0 f, (s.loops.get i).cfg.enabled = true → open_ i → ok 0 f0 → ok i.succ f →
              u.loops.get i = { s.loops.get i with
                sigma := (s.loops.get i).sigma + (f0 - f), n := (s.loops.get i).n + 1 })
            ∧ ((s.loops.get i).cfg.enabled = false ∨ ¬ open_ i ∨ (∀ f, ¬ ok 0 f)
                ∨ (∀ f, ¬ ok i.succ f) → u.loops.get i = s.loops.get i))

/-- R67, R133, R134: a tick in RUNNING, or in a FLUSH that does not end at it, at which probe 0 is usable
and its value at or above the trip makes the mode OVERHEAT, sets the latch, releases every channel,
empties the queue and the plan, and makes the pump request OFF; classes and on-times stay, and the period
runs on. R135: a tick in OVERHEAT sets the exit flag to whether probe 0 is usable and its value at or
below the trip minus the hysteresis, and ends nothing. -/
def Obligations.OverheatAtTicks : Prop :=
  ∀ (a : Nat) (s : State), s.powered = true →
    let t := elapse a s
    s.period.lastTick + 10 ≤ t.period.time → s.period.lastTick + 10 < s.period.eff.period →
    (∀ f, s.period.mode = .running
        ∨ s.period.mode = .flush ∧ ¬ FlushEndsAt t (s.period.lastTick + 10) →
      (s.probes.get 0).status = .ok → (s.probes.get 0).filtered = some f → s.params.g1.trip ≤ f →
      ∃ u, exec (.measurementTick a) s = .next u
        ∧ u.period = { t.period with
            mode := .overheat, flushTimer := none, flushDue := false, flushRanOut := none
            lastTick := s.period.lastTick + 10 }
        ∧ u.arb = { t.arb with plan := [], queue := [] }
        ∧ u.channels = t.channels.imap (fun _ c => c.afterRelease s.period.eff.tClose)
        ∧ u.supply.pump = .off ∧ u.supply.holdTimer = none ∧ u.supply.latch = true
        ∧ u.supply.exitFlag = false ∧ u.supply.bias = s.supply.bias ∧ heatCall u = false
        ∧ (∀ i, (u.loops.get i).cls = (s.loops.get i).cls
            ∧ (u.loops.get i).onTime = (s.loops.get i).onTime
            ∧ (u.loops.get i).k = (s.loops.get i).k ∧ (u.loops.get i).cfg = (s.loops.get i).cfg)
        ∧ u.params = s.params ∧ u.probes = s.probes ∧ u.rooms = t.rooms ∧ u.seg = t.seg
        ∧ u.house = t.house ∧ u.store = t.store)
    ∧ (s.period.mode = .overheat →
      ∃ u, exec (.measurementTick a) s = .next u
        ∧ (u.supply.exitFlag = true ↔ (s.probes.get 0).status = .ok
            ∧ ∃ f, (s.probes.get 0).filtered = some f
              ∧ f ≤ s.params.g1.trip - s.params.g1.hysteresis)
        ∧ u.period = { t.period with lastTick := s.period.lastTick + 10 }
        ∧ u.channels = t.channels ∧ u.arb = t.arb ∧ u.supply.pump = s.supply.pump
        ∧ u.supply.latch = s.supply.latch)

/-- R79: when the flush timer reaches 0 the flush is due to end, and nothing else changes; the end is taken
at the first tick whose period time is not earlier, whether or not the expiry's own command has come. In the
middle of the period it brings RUNNING by a forced boundary that records the period as shortened, carries
CONTINUOUS loops and builds the start plan (R75, R109). The timer that reaches 0 at the tick's own period time
ends the flush there; one that reaches it later does not, and the tick leaves the mode FLUSH. Probe 0 is taken
to show no overheat. -/
def Obligations.FlushEndsAtNextTick : Prop :=
  ∀ (a : Nat) (s : State), s.powered = true → s.period.mode = .flush →
    let t := elapse a s
    let tick := s.period.lastTick + 10
    let cool : Prop := ∀ f, (s.probes.get 0).status = .ok → (s.probes.get 0).filtered = some f →
      f < s.params.g1.trip
    (∀ x, s.period.flushTimer = some x → x ≤ a → s.period.flushDue = false →
      exec (.flushTimerExpiry a) s = .next (driveLines { t with
        period := { t.period with flushDue := true } }))
    ∧ (∀ x, s.period.flushTimer = some x → 0 < x → x ≤ a → s.period.time < s.period.eff.period →
        tick < s.period.eff.period → (FlushEndsAt t tick ↔ s.period.time + x ≤ tick))
    ∧ (tick ≤ t.period.time → tick < s.period.eff.period → cool → ¬ FlushEndsAt t tick →
        ∃ u, exec (.measurementTick a) s = .next u
          ∧ u.period = { t.period with lastTick := tick })
    ∧ (tick ≤ t.period.time → tick < s.period.eff.period → cool → FlushEndsAt t tick →
        ∃ u b, exec (.measurementTick a) s = .next u
          ∧ u.period.mode = .running ∧ u.period.time = 0 ∧ u.period.flushTimer = none
          ∧ u.period.eff = s.params.timing ∧ energisedCount u ≤ s.params.timing.limit
          ∧ u.period.summary = some b ∧ (∀ i, (b.get i).shortened = true
              ∧ (u.loops.get i).k = (s.loops.get i).k ∧ (u.loops.get i).n = 0
              ∧ if (s.loops.get i).cfg.enabled ∧ (s.channels.get i).condition = .ready then
                  ClassedAs s.params.timing (s.loops.get i).cfg.policy (loopDemand t i)
                    (s.loops.get i).k (u.loops.get i).cls (u.loops.get i).onTime
                else (u.loops.get i).cls = .off ∧ (u.loops.get i).onTime = 0)
          ∧ PeriodBegins t u ∧ u.store = t.store)

/-- R71, R72, R73, R74, R75, R76, R87 to R101, R109, R131, R173: the regular boundary of a RUNNING period,
where probe 0 shows no overheat. After the tick at P, and the ticks still due before it (log 14), every loop
that takes part learns, and is classed from its demand and new K with the group 0 values of the table; every
other loop is OFF with its K. The summary records the period with what each loop waited for, measured and
learned; CONTINUOUS loops are carried, the start plan is built in its order with its join times, and the period
starts again; the supply bias moves by 50 where the latch leaves the timing as it was; and one pass is reported
to the store. R78: a demand-drop report that waited for the boundary finds nothing to close. A room whose age
is above the hold time is LOST before the pass (log 34); where its demand falls to 0 by this,
AgeAboveHoldTimeLosesRoom says what follows. -/
def Obligations.RegularBoundaryLearnsAndPlans : Prop :=
  ∀ (a : Nat) (rec : Bank PeriodRecord 16) (s : State), s.powered = true → s.period.mode = .running →
    s.period.records = some rec →
    let t := (elapse a s).agesExpired
    DropsFindNothing t →
    (∀ r, 0 < derivedDemand (s.rooms.get r) → derivedDemand (t.rooms.get r) ≠ 0) →
    s.period.eff.period ≤ t.period.time →
    (∀ f, (s.probes.get 0).status = .ok → (s.probes.get 0).filtered = some f →
      f < s.params.g1.trip) →
    let part (i : LoopIx) : Prop :=
      (s.loops.get i).cfg.enabled = true ∧ (s.channels.get i).condition = .ready
    ∃ u, exec (.regularBoundary a) s = .next u
      ∧ u.period.mode = .running ∧ u.period.time = 0 ∧ u.period.eff = s.params.timing
      ∧ u.period.drops = []
      ∧ energisedCount u ≤ s.params.timing.limit
      ∧ (∀ i, (u.loops.get i).cfg = (s.loops.get i).cfg
          ∧ (u.loops.get i).sigma = 0 ∧ (u.loops.get i).n = 0)
      ∧ FullPass t u rec ((s.period.eff.period - 1 - s.period.lastTick) / 10 + 1)
      ∧ PeriodBegins t u
      ∧ (s.params.timing = s.period.eff →
          let starved (r : RoomIx) : Prop :=
            (t.rooms.get r).freshness = .fresh ∧ derivedDemand (t.rooms.get r) = 1000
              ∧ (∃ i, part i ∧ (s.loops.get i).cfg.room = some r)
              ∧ (∀ i, part i → (s.loops.get i).cfg.room = some r →
                  (u.loops.get i).cls = .continuous)
              ∧ ∃ v, (s.rooms.get r).report = some v ∧ v.air ≤ v.setpoint - 50
          ((∃ r, starved r) → u.supply.bias = min (s.supply.bias + 50)
            (s.params.g1.supplyMax - s.params.g1.supplyBase).toNat)
          ∧ ((∀ r, ¬ starved r) → (∀ i, (u.loops.get i).cls ≠ .continuous) →
              u.supply.bias = s.supply.bias - 50)
          ∧ ((∀ r, ¬ starved r) → (∃ i, (u.loops.get i).cls = .continuous) →
              u.supply.bias = s.supply.bias))
      ∧ PassReported t u
      ∧ u.params = s.params ∧ u.probes = s.probes ∧ u.rooms = t.rooms ∧ u.seg = t.seg
      ∧ u.house = t.house ∧ (s.test = .idle → u.test = .idle)

/-- R67, R73, R76, R79, R103, R104, R135: the regular boundary outside RUNNING. A FLUSH that goes on makes
every loop that takes part CONTINUOUS; one that ends at the tick at P enters RUNNING by the forced variant, its
period not shortened. An OVERHEAT whose exit condition does not hold makes every loop OFF and starts nothing;
one whose exit condition holds ends, and the full pass enters RUNNING: the loops learn, the summary holds what
they learned, and one pass is reported to the store. Only that pass changes a K or reports to the store. A
boundary that enters RUNNING recomputes the supply bias (R131), stated where the latch leaves the timing as it
was; any other leaves it. Each carries CONTINUOUS loops and builds the start plan (R75, R109). In FLUSH, probe
0 is taken to show no overheat, and at the end of a flush no tick still due before P is one that ends it
(FlushEndsAtNextTick); in OVERHEAT, the lockout's state is taken to stand (R134). Demand-drop reports that
waited find nothing to close, and a room whose age is above the hold time is LOST before the pass (R47, R78;
log 34). That the boundary takes the ticks still due before P, which FullPass counts at the end of an overheat,
is the model's inference (log 14), and so is which tick ends a flush when ticks are taken late (log 35). -/
def Obligations.BoundaryOutsideRunning : Prop :=
  ∀ (a : Nat) (s : State), s.powered = true →
    let t := (elapse a s).agesExpired
    DropsFindNothing t →
    s.period.eff.period ≤ t.period.time →
    let part (i : LoopIx) : Prop :=
      (s.loops.get i).cfg.enabled = true ∧ (s.channels.get i).condition = .ready
    let cool : Prop := ∀ f, (s.probes.get 0).status = .ok → (s.probes.get 0).filtered = some f →
      f < s.params.g1.trip
    let exits : Prop := (s.probes.get 0).status = .ok
      ∧ ∃ f, (s.probes.get 0).filtered = some f ∧ f ≤ s.params.g1.trip - s.params.g1.hysteresis
    let ends : Prop := FlushEndsAt t s.period.eff.period
      ∧ ∀ j, s.period.lastTick + 10 * (j + 1) < s.period.eff.period →
          ¬ FlushEndsAt t (s.period.lastTick + 10 * (j + 1))
    let starts (mode : Mode) (u : State) : Prop := exec (.regularBoundary a) s = .next u
      ∧ u.period.mode = mode ∧ u.period.time = 0 ∧ u.period.eff = s.params.timing
      ∧ energisedCount u ≤ s.params.timing.limit
      ∧ (∀ i, (u.loops.get i).cfg = (s.loops.get i).cfg ∧ (u.loops.get i).sigma = 0
          ∧ (u.loops.get i).n = 0)
      ∧ (∃ b, u.period.summary = some b ∧ ∀ i, (b.get i).shortened = false)
      ∧ PeriodBegins t u
    let kept (u : State) : Prop := (∀ i, (u.loops.get i).k = (s.loops.get i).k) ∧ u.store = t.store
    (s.period.mode = .flush → cool → ¬ FlushEndsAt t s.period.eff.period →
      ∃ u, starts .flush u ∧ kept u ∧ u.supply.bias = s.supply.bias
        ∧ u.period.flushTimer = t.period.flushTimer
        ∧ ∀ i, (part i → (u.loops.get i).cls = .continuous
              ∧ (u.loops.get i).onTime = s.params.timing.period)
            ∧ (¬ part i → (u.loops.get i).cls = .off ∧ (u.loops.get i).onTime = 0))
    ∧ (s.period.mode = .flush → cool → ends →
      ∃ u, starts .running u ∧ kept u ∧ u.period.flushTimer = none
        ∧ (s.params.timing = s.period.eff → BiasRecomputed t u)
        ∧ ∀ i, (part i → ClassedAs s.params.timing (s.loops.get i).cfg.policy (loopDemand t i)
              (s.loops.get i).k (u.loops.get i).cls (u.loops.get i).onTime)
            ∧ (¬ part i → (u.loops.get i).cls = .off ∧ (u.loops.get i).onTime = 0))
    ∧ (s.period.mode = .overheat → PumpFollowsFlow s → ¬ exits →
      ∃ u, starts .overheat u ∧ kept u
        ∧ (∀ i, (u.loops.get i).cls = .off ∧ (u.loops.get i).onTime = 0
            ∧ (u.channels.get i).energised = false)
        ∧ u.arb.plan = [] ∧ u.arb.queue = []
        ∧ u.supply.latch = true ∧ u.supply.exitFlag = false ∧ u.supply.pump = .off
        ∧ u.supply.bias = s.supply.bias)
    ∧ (∀ rec, s.period.mode = .overheat → PumpFollowsFlow s → exits →
      s.period.records = some rec →
      ∃ u, starts .running u
        ∧ FullPass t u rec ((s.period.eff.period - 1 - s.period.lastTick) / 10 + 1)
        ∧ PassReported t u ∧ (s.params.timing = s.period.eff → BiasRecomputed t u)
        ∧ u.supply.latch = false ∧ u.supply.exitFlag = false ∧ u.supply.holdTimer = none
        ∧ u.supply.pump = (if 0 < flowCount t.channels then .on else .off))

/-! ## Starts -/

/-- R110, R115, R116, R118, R119: at its join time, below P, the first plan entry leaves the plan and joins
the tail of the queue; that, and the spacing running out while the queue is not empty, is a grant
opportunity. Nothing else changes. A plan entry whose join time is P or above does not join in its period. -/
def Obligations.JoinsAndGrants : Prop :=
  ∀ (a : Nat) (s : State), s.powered = true →
    let t := elapse a s
    (∀ e rest, s.period.mode = .running ∨ s.period.mode = .flush → s.arb.plan = e :: rest →
      e.joinTime ≤ t.period.time → e.joinTime < s.period.eff.period →
      ∃ r, exec (.join a) s = .next (driveLines r)
        ∧ AfterOpportunity { t with
            arb := { t.arb with plan := rest, queue := s.arb.queue ++ [.loop e.loop] } } r)
    ∧ (s.period.mode = .running ∨ s.period.mode = .flush →
      (∀ e, s.arb.plan.head? = some e → t.period.time < e.joinTime) →
      exec (.join a) s = .next (driveLines t))
    ∧ (∀ e, s.arb.plan.head? = some e → s.period.eff.period ≤ e.joinTime →
      exec (.join a) s = .next (driveLines t))
    ∧ (∀ x, s.arb.queue ≠ [] → t.arb.sinceGrant = some x → s.period.eff.spacing ≤ x →
      ∃ r, exec (.spacingExpiry a) s = .next (driveLines r) ∧ AfterOpportunity t r)

/-- R8, R9, R19, R20: when the period time reaches the close time of an energised channel, below P, the
channel is released, a test active on it ends, and the release is a grant opportunity; a close time equal
to P releases nothing. When the remaining seconds of an active test reach 0, its channel is released and
the record is IDLE. Nothing else changes. -/
def Obligations.ChannelsReleaseThemselves : Prop :=
  ∀ (i : LoopIx) (a : Nat) (s : State), s.powered = true →
    (s.channels.get i).energised = true →
    let t := elapse a s
    (∀ c, (s.channels.get i).closeTime = some c → c ≤ t.period.time → c < s.period.eff.period →
      ∃ r, exec (.closeTimeReached i a) s = .next (driveLines r)
        ∧ AfterOpportunity (t.afterReleaseOf i) r)
    ∧ (∀ c, (s.channels.get i).closeTime = some c → s.period.eff.period ≤ c →
      exec (.closeTimeReached i a) s = .next (driveLines t))
    ∧ (∀ d, s.test = .active i d a → s.arb.queue = [] →
      exec (.testEnd a) s = .next (driveLines { t with
        channels := t.channels.set i ((t.channels.get i).afterRelease s.period.eff.tClose)
        test := .idle }))

/-- R11, R12, R13: at the load check of an energised channel a load leaves it as it is, but that an ABSENT
channel under test becomes READY; no load makes it ABSENT. An overcurrent makes an energised channel
TRIPPED. In both cases the loop leaves the queue and the plan and the channel is released, a grant
opportunity; class, on-time and enabled stay. An overcurrent on a released channel has no effect. -/
def Obligations.FaultsReleaseChannel : Prop :=
  ∀ (i : LoopIx) (a : Nat) (s : State), s.powered = true →
    let t := elapse a s
    ((s.channels.get i).energised = true → (s.channels.get i).loadCheck = some a →
      let passed (c : Condition) : Host.Outcome State Fault Refusal := .next (driveLines { t with
        channels := t.channels.set i { t.channels.get i with loadCheck := none, condition := c } })
      ((s.channels.get i).condition = .absent → (∃ d x, s.test = .active i d x) →
        exec (.loadCheck i true a) s = passed .ready)
      ∧ ((s.channels.get i).condition ≠ .absent ∨ (∀ d x, s.test ≠ .active i d x) →
        exec (.loadCheck i true a) s = passed (s.channels.get i).condition)
      ∧ ∃ r, exec (.loadCheck i false a) s = .next (driveLines r)
        ∧ AfterOpportunity (t.afterFault i .absent) r)
    ∧ ((s.channels.get i).energised = true →
      ∃ r, exec (.overcurrent i) s = .next (driveLines r)
        ∧ AfterOpportunity (s.afterFault i .tripped) r)
    ∧ ((s.channels.get i).energised = false → exec (.overcurrent i) s = .next (driveLines s))

/-- R15, R16, R127, R128, R134: an OPENING estimate whose remaining seconds reach 0 becomes OPEN, a CLOSING
one CLOSED. A flow count that rises from 0 makes the pump request ON, one that falls to 0 makes it HOLD for
the pump hold of the table, or OFF where that is 0; under the overheat latch it stays. A hold that has run
out makes it OFF. Nothing else changes. -/
def Obligations.ValvesMovePump : Prop :=
  ∀ (i : LoopIx) (a : Nat) (s : State), s.powered = true →
    let t := elapse a s
    ((s.channels.get i).valve = .opening a →
      exec (.openingEnds i a) s = .next (driveLines { t with
        channels := t.channels.set i { t.channels.get i with valve := .isOpen 0 }
        supply := t.supply.afterFlow true (othersFlow s i) s.params.g3.pumpHold }))
    ∧ ((s.channels.get i).valve = .closing a →
      exec (.closingEnds i a) s = .next (driveLines { t with
        channels := t.channels.set i { t.channels.get i with valve := .closed }
        supply := t.supply.afterFlow false (othersFlow s i) s.params.g3.pumpHold }))
    ∧ (s.supply.pump = .hold → s.supply.holdTimer = some a →
      exec (.pumpHoldExpiry a) s = .next (driveLines { t with
        supply := { t.supply with pump := .off, holdTimer := none } }))

/-! ## Invariants -/

/-- The state after reset meets every invariant that the statements below say each step keeps. -/
def Obligations.ResetMeetsInvariants : Prop :=
  FactorsBounded State.reset ∧ RoomsSound State.reset ∧ SupplyRequestBounded State.reset
    ∧ SavingImageFails State.reset ∧ ChannelsCoherent State.reset ∧ HoldingLimitKept State.reset
    ∧ PumpFollowsFlow State.reset ∧ StartsSound State.reset ∧ LinesFollow State.reset
    ∧ ClocksSound State.reset

/-- R92, R42, R132, R172: from every state, a step keeps every K within its loop's bounds and those within
128 to 4096; the room addresses valid and distinct, with no loop on a room that is not in use; the supply
request within supply base and supply max; and a store that is SAVING with an image that fails its check. -/
def Obligations.StepsKeepTablesSound : Prop :=
  ∀ s t : State, step s = .next t →
    (FactorsBounded s → FactorsBounded t) ∧ (RoomsSound s → RoomsSound t)
      ∧ (SupplyRequestBounded s → SupplyRequestBounded t)
      ∧ (SavingImageFails s → SavingImageFails t)

/-- R115, R15, R8: from every state, a step keeps the number of energised channels within the holding limit
in effect, and every channel energised exactly while its estimate is OPENING or OPEN, a released one without
close time and load check. R68, R69: it keeps the period time within P and 0 in STOPPED, the ticks at multiples
of 10 s, the milliseconds of the running second below 1000 (log 2), and a demand-drop report waiting only for
a boundary that is due (log 34), and the flush timer running in FLUSH alone (R79, log 35). -/
def Obligations.StepsKeepHoldingLimit : Prop :=
  ∀ s t : State, step s = .next t →
    (HoldingLimitKept s → HoldingLimitKept t) ∧ (ChannelsCoherent s → ChannelsCoherent t)
      ∧ (ClocksSound s → ClocksSound t)

/-- R128, R134: from every state, a step keeps the overheat latch set exactly in OVERHEAT, there no channel
energised, the queue and the plan empty and the pump request OFF, and elsewhere the pump request ON exactly
while a valve estimate is OPEN or CLOSING, the hold timer running exactly in HOLD. -/
def Obligations.StepsKeepPumpOnFlow : Prop :=
  ∀ s t : State, step s = .next t → PumpFollowsFlow s → PumpFollowsFlow t

/-- R112, R118, R20, R66: from every state, a step keeps the starts in order: no loop waits twice, and one
that waits is enabled, its channel READY and released and its class not OFF; loops wait only in RUNNING and
FLUSH, a test stands only in STOPPED, where it alone holds a channel or an entry of the queue. -/
def Obligations.StepsKeepStartsSound : Prop :=
  ∀ s t : State, step s = .next t → StartsSound s → StartsSound t

/-! ## Layouts -/

/-- R167: a read-back carries its record in the layout of the write: read as the payload of a write, the
reply gives back the record, whatever values within their ranges it holds, and with the K action KEEP. -/
def Obligations.ReadBackCarriesRecord : Prop :=
  ∀ s : State,
    (∀ i : LoopIx, (s.loops.get i).cfg.clamped = (s.loops.get i).cfg →
      ∃ p, replyOf .readLoop (byteOf (i.val + 1)) s = some p ∧ p.length = 14
        ∧ byteAt p 0 = i.val + 1 ∧ loopPayload p = some (s.loops.get i).cfg
        ∧ kActionPayload p = some false)
    ∧ (∀ r : RoomIx, (s.rooms.get r).cfg.clamped = (s.rooms.get r).cfg →
      ∃ p, replyOf .readRoom (byteOf (r.val + 1)) s = some p ∧ p.length = 7
        ∧ byteAt p 0 = r.val + 1 ∧ roomPayload p = some (s.rooms.get r).cfg)
    ∧ (∀ q : ProbeIx, (s.probes.get q).cfg.clamped = (s.probes.get q).cfg →
      ∃ p, replyOf .readProbe (byteOf q.val) s = some p ∧ p.length = 6
        ∧ byteAt p 0 = q.val ∧ probePayload p = some (s.probes.get q).cfg)
    ∧ (s.params.clamped = s.params →
      ∃ p0 p1 p2 p3, replyOf .readManifold 0 s = some p0 ∧ replyOf .readManifold 1 s = some p1
        ∧ replyOf .readManifold 2 s = some p2 ∧ replyOf .readManifold 3 s = some p3
        ∧ p0.length = 19 ∧ p1.length = 16 ∧ p2.length = 8 ∧ p3.length = 10
        ∧ byteAt p0 0 = 0 ∧ byteAt p1 0 = 1 ∧ byteAt p2 0 = 2 ∧ byteAt p3 0 = 3
        ∧ timingPayload p0 = s.params.timing ∧ flushTimePayload p0 = s.params.flushTime
        ∧ group1Payload p1 = s.params.g1 ∧ group2Payload p2 = s.params.g2
        ∧ group3Payload p3 = some s.params.g3)

/-- R168, R169: an image written from tables whose values are within their ranges, with their check word,
passes its check and its structural test and loads exactly those tables. The layout of the words is the
model's (log 18). -/
def Obligations.ImageLoadsWhatWasSaved : Prop :=
  ∀ T : Tables, T.clamped = T → T.admissible = true →
    (Image.written (imageBody T) (some (imageBody T).checkWord)).load = some T
end

