-- ==== Sys2Proof/Laws/Bank.lean ====
section
/-! SUPPORT. Banks: what is read after a change of one record, of every record, or of none. -/

namespace Sys2Proof

variable {α β : Type} {n : Nat}

@[simp] theorem Bank.get_ofFn (f : Fin n → α) (i : Fin n) : (Bank.ofFn f).get i = f i := by
  simp [Bank.get, Bank.ofFn]

@[simp] theorem Bank.get_fill (v : α) (i : Fin n) : (Bank.fill n v).get i = v := by
  simp [Bank.get, Bank.fill]

@[simp] theorem Bank.get_imap (f : Fin n → α → β) (b : Bank α n) (i : Fin n) :
    (b.imap f).get i = f i (b.get i) := by
  simp [Bank.imap]

theorem Bank.get_set (b : Bank α n) (i j : Fin n) (v : α) :
    (b.set i v).get j = if j = i then v else b.get j := by
  simp only [Bank.get, Bank.set, List.getElem_set, Fin.ext_iff, eq_comm]

@[simp] theorem Bank.get_set_self (b : Bank α n) (i : Fin n) (v : α) : (b.set i v).get i = v := by
  simp [Bank.get_set]

theorem Bank.get_set_ne (b : Bank α n) {i j : Fin n} (v : α) (h : j ≠ i) :
    (b.set i v).get j = b.get j := by
  simp [Bank.get_set, h]

/-- Two banks with equal records are equal. -/
theorem Bank.ext_get {b c : Bank α n} (h : ∀ i, b.get i = c.get i) : b = c := by
  obtain ⟨l, hl⟩ := b
  obtain ⟨m, hm⟩ := c
  have : l = m := by
    apply List.ext_getElem (by rw [hl, hm])
    intro k hk _
    exact h ⟨k, by omega⟩
  subst this
  rfl

/-- A record written back as it was read changes nothing. -/
@[simp] theorem Bank.set_get (b : Bank α n) (i : Fin n) : b.set i (b.get i) = b := by
  apply Bank.ext_get
  intro j
  rw [Bank.get_set]
  split
  · next h => rw [h]
  · rfl

@[simp] theorem Bank.set_set (b : Bank α n) (i : Fin n) (v w : α) :
    (b.set i v).set i w = b.set i w := by
  apply Bank.ext_get
  intro j
  rw [Bank.get_set, Bank.get_set, Bank.get_set]
  split <;> simp_all

theorem Bank.imap_imap {γ : Type} (f : Fin n → α → β) (g : Fin n → β → γ) (b : Bank α n) :
    (b.imap f).imap g = b.imap fun i v => g i (f i v) := by
  apply Bank.ext_get
  intro i
  simp

/-- Changing every record by a function that leaves each of them as it is changes nothing. -/
theorem Bank.imap_eq_self (f : Fin n → α → α) (b : Bank α n) (h : ∀ i, f i (b.get i) = b.get i) :
    b.imap f = b := by
  apply Bank.ext_get
  intro i
  simp [h i]

theorem Bank.mem_toList (b : Bank α n) (v : α) : v ∈ b.toList ↔ ∃ i, b.get i = v := by
  constructor
  · intro h
    obtain ⟨k, hk, rfl⟩ := List.getElem_of_mem h
    exact ⟨⟨k, by rw [b.size_eq] at hk; exact hk⟩, rfl⟩
  · rintro ⟨i, rfl⟩
    exact List.getElem_mem _

/-- Every loop, room and probe is in the list of them. -/
@[simp] theorem mem_allLoops (i : LoopIx) : i ∈ allLoops := List.mem_finRange i
@[simp] theorem mem_allRooms (r : RoomIx) : r ∈ allRooms := List.mem_finRange r
@[simp] theorem mem_allProbes (p : ProbeIx) : p ∈ allProbes := List.mem_finRange p

theorem nodup_allLoops : allLoops.Nodup := List.nodup_finRange 16

/-- A count over the loops is above 0 exactly when some loop counts. -/
theorem countP_allLoops_pos (p : LoopIx → Bool) : 0 < allLoops.countP p ↔ ∃ i, p i = true := by
  simp [List.countP_pos_iff]

theorem countP_allLoops_zero (p : LoopIx → Bool) :
    allLoops.countP p = 0 ↔ ∀ i, p i = false := by
  simp [List.countP_eq_zero]

end Sys2Proof
end

