-- ==== Sys2Proof/Laws/State.lean ====
section
/-! SUPPORT. What each update of the state leaves: one lemma per field per update, by `rfl`. -/

namespace Sys2Proof.Machine

/-! ### setPowered -/

@[simp] theorem State.setPowered_powered (s : State) (v : Bool) : (s.setPowered v).powered = v := rfl
@[simp] theorem State.setPowered_params (s : State) (v : Bool) : (s.setPowered v).params = s.params := rfl
@[simp] theorem State.setPowered_loops (s : State) (v : Bool) : (s.setPowered v).loops = s.loops := rfl
@[simp] theorem State.setPowered_channels (s : State) (v : Bool) : (s.setPowered v).channels = s.channels := rfl
@[simp] theorem State.setPowered_test (s : State) (v : Bool) : (s.setPowered v).test = s.test := rfl
@[simp] theorem State.setPowered_probes (s : State) (v : Bool) : (s.setPowered v).probes = s.probes := rfl
@[simp] theorem State.setPowered_rooms (s : State) (v : Bool) : (s.setPowered v).rooms = s.rooms := rfl
@[simp] theorem State.setPowered_seg (s : State) (v : Bool) : (s.setPowered v).seg = s.seg := rfl
@[simp] theorem State.setPowered_toolRequest (s : State) (v : Bool) : (s.setPowered v).toolRequest = s.toolRequest := rfl
@[simp] theorem State.setPowered_period (s : State) (v : Bool) : (s.setPowered v).period = s.period := rfl
@[simp] theorem State.setPowered_arb (s : State) (v : Bool) : (s.setPowered v).arb = s.arb := rfl
@[simp] theorem State.setPowered_supply (s : State) (v : Bool) : (s.setPowered v).supply = s.supply := rfl
@[simp] theorem State.setPowered_house (s : State) (v : Bool) : (s.setPowered v).house = s.house := rfl
@[simp] theorem State.setPowered_store (s : State) (v : Bool) : (s.setPowered v).store = s.store := rfl
@[simp] theorem State.setPowered_msPhase (s : State) (v : Bool) : (s.setPowered v).msPhase = s.msPhase := rfl
@[simp] theorem State.setPowered_draws (s : State) (v : Bool) : (s.setPowered v).draws = s.draws := rfl
@[simp] theorem State.setPowered_pending (s : State) (v : Bool) : (s.setPowered v).pending = s.pending := rfl

/-! ### setParams -/

@[simp] theorem State.setParams_powered (s : State) (v : Params) : (s.setParams v).powered = s.powered := rfl
@[simp] theorem State.setParams_params (s : State) (v : Params) : (s.setParams v).params = v := rfl
@[simp] theorem State.setParams_loops (s : State) (v : Params) : (s.setParams v).loops = s.loops := rfl
@[simp] theorem State.setParams_channels (s : State) (v : Params) : (s.setParams v).channels = s.channels := rfl
@[simp] theorem State.setParams_test (s : State) (v : Params) : (s.setParams v).test = s.test := rfl
@[simp] theorem State.setParams_probes (s : State) (v : Params) : (s.setParams v).probes = s.probes := rfl
@[simp] theorem State.setParams_rooms (s : State) (v : Params) : (s.setParams v).rooms = s.rooms := rfl
@[simp] theorem State.setParams_seg (s : State) (v : Params) : (s.setParams v).seg = s.seg := rfl
@[simp] theorem State.setParams_toolRequest (s : State) (v : Params) : (s.setParams v).toolRequest = s.toolRequest := rfl
@[simp] theorem State.setParams_period (s : State) (v : Params) : (s.setParams v).period = s.period := rfl
@[simp] theorem State.setParams_arb (s : State) (v : Params) : (s.setParams v).arb = s.arb := rfl
@[simp] theorem State.setParams_supply (s : State) (v : Params) : (s.setParams v).supply = s.supply := rfl
@[simp] theorem State.setParams_house (s : State) (v : Params) : (s.setParams v).house = s.house := rfl
@[simp] theorem State.setParams_store (s : State) (v : Params) : (s.setParams v).store = s.store := rfl
@[simp] theorem State.setParams_msPhase (s : State) (v : Params) : (s.setParams v).msPhase = s.msPhase := rfl
@[simp] theorem State.setParams_draws (s : State) (v : Params) : (s.setParams v).draws = s.draws := rfl
@[simp] theorem State.setParams_pending (s : State) (v : Params) : (s.setParams v).pending = s.pending := rfl

/-! ### setLoops -/

@[simp] theorem State.setLoops_powered (s : State) (v : Bank Loop 16) : (s.setLoops v).powered = s.powered := rfl
@[simp] theorem State.setLoops_params (s : State) (v : Bank Loop 16) : (s.setLoops v).params = s.params := rfl
@[simp] theorem State.setLoops_loops (s : State) (v : Bank Loop 16) : (s.setLoops v).loops = v := rfl
@[simp] theorem State.setLoops_channels (s : State) (v : Bank Loop 16) : (s.setLoops v).channels = s.channels := rfl
@[simp] theorem State.setLoops_test (s : State) (v : Bank Loop 16) : (s.setLoops v).test = s.test := rfl
@[simp] theorem State.setLoops_probes (s : State) (v : Bank Loop 16) : (s.setLoops v).probes = s.probes := rfl
@[simp] theorem State.setLoops_rooms (s : State) (v : Bank Loop 16) : (s.setLoops v).rooms = s.rooms := rfl
@[simp] theorem State.setLoops_seg (s : State) (v : Bank Loop 16) : (s.setLoops v).seg = s.seg := rfl
@[simp] theorem State.setLoops_toolRequest (s : State) (v : Bank Loop 16) : (s.setLoops v).toolRequest = s.toolRequest := rfl
@[simp] theorem State.setLoops_period (s : State) (v : Bank Loop 16) : (s.setLoops v).period = s.period := rfl
@[simp] theorem State.setLoops_arb (s : State) (v : Bank Loop 16) : (s.setLoops v).arb = s.arb := rfl
@[simp] theorem State.setLoops_supply (s : State) (v : Bank Loop 16) : (s.setLoops v).supply = s.supply := rfl
@[simp] theorem State.setLoops_house (s : State) (v : Bank Loop 16) : (s.setLoops v).house = s.house := rfl
@[simp] theorem State.setLoops_store (s : State) (v : Bank Loop 16) : (s.setLoops v).store = s.store := rfl
@[simp] theorem State.setLoops_msPhase (s : State) (v : Bank Loop 16) : (s.setLoops v).msPhase = s.msPhase := rfl
@[simp] theorem State.setLoops_draws (s : State) (v : Bank Loop 16) : (s.setLoops v).draws = s.draws := rfl
@[simp] theorem State.setLoops_pending (s : State) (v : Bank Loop 16) : (s.setLoops v).pending = s.pending := rfl

/-! ### setChannels -/

@[simp] theorem State.setChannels_powered (s : State) (v : Bank Channel 16) : (s.setChannels v).powered = s.powered := rfl
@[simp] theorem State.setChannels_params (s : State) (v : Bank Channel 16) : (s.setChannels v).params = s.params := rfl
@[simp] theorem State.setChannels_loops (s : State) (v : Bank Channel 16) : (s.setChannels v).loops = s.loops := rfl
@[simp] theorem State.setChannels_channels (s : State) (v : Bank Channel 16) : (s.setChannels v).channels = v := rfl
@[simp] theorem State.setChannels_test (s : State) (v : Bank Channel 16) : (s.setChannels v).test = s.test := rfl
@[simp] theorem State.setChannels_probes (s : State) (v : Bank Channel 16) : (s.setChannels v).probes = s.probes := rfl
@[simp] theorem State.setChannels_rooms (s : State) (v : Bank Channel 16) : (s.setChannels v).rooms = s.rooms := rfl
@[simp] theorem State.setChannels_seg (s : State) (v : Bank Channel 16) : (s.setChannels v).seg = s.seg := rfl
@[simp] theorem State.setChannels_toolRequest (s : State) (v : Bank Channel 16) : (s.setChannels v).toolRequest = s.toolRequest := rfl
@[simp] theorem State.setChannels_period (s : State) (v : Bank Channel 16) : (s.setChannels v).period = s.period := rfl
@[simp] theorem State.setChannels_arb (s : State) (v : Bank Channel 16) : (s.setChannels v).arb = s.arb := rfl
@[simp] theorem State.setChannels_supply (s : State) (v : Bank Channel 16) : (s.setChannels v).supply = s.supply := rfl
@[simp] theorem State.setChannels_house (s : State) (v : Bank Channel 16) : (s.setChannels v).house = s.house := rfl
@[simp] theorem State.setChannels_store (s : State) (v : Bank Channel 16) : (s.setChannels v).store = s.store := rfl
@[simp] theorem State.setChannels_msPhase (s : State) (v : Bank Channel 16) : (s.setChannels v).msPhase = s.msPhase := rfl
@[simp] theorem State.setChannels_draws (s : State) (v : Bank Channel 16) : (s.setChannels v).draws = s.draws := rfl
@[simp] theorem State.setChannels_pending (s : State) (v : Bank Channel 16) : (s.setChannels v).pending = s.pending := rfl

/-! ### setTest -/

@[simp] theorem State.setTest_powered (s : State) (v : ChannelTest) : (s.setTest v).powered = s.powered := rfl
@[simp] theorem State.setTest_params (s : State) (v : ChannelTest) : (s.setTest v).params = s.params := rfl
@[simp] theorem State.setTest_loops (s : State) (v : ChannelTest) : (s.setTest v).loops = s.loops := rfl
@[simp] theorem State.setTest_channels (s : State) (v : ChannelTest) : (s.setTest v).channels = s.channels := rfl
@[simp] theorem State.setTest_test (s : State) (v : ChannelTest) : (s.setTest v).test = v := rfl
@[simp] theorem State.setTest_probes (s : State) (v : ChannelTest) : (s.setTest v).probes = s.probes := rfl
@[simp] theorem State.setTest_rooms (s : State) (v : ChannelTest) : (s.setTest v).rooms = s.rooms := rfl
@[simp] theorem State.setTest_seg (s : State) (v : ChannelTest) : (s.setTest v).seg = s.seg := rfl
@[simp] theorem State.setTest_toolRequest (s : State) (v : ChannelTest) : (s.setTest v).toolRequest = s.toolRequest := rfl
@[simp] theorem State.setTest_period (s : State) (v : ChannelTest) : (s.setTest v).period = s.period := rfl
@[simp] theorem State.setTest_arb (s : State) (v : ChannelTest) : (s.setTest v).arb = s.arb := rfl
@[simp] theorem State.setTest_supply (s : State) (v : ChannelTest) : (s.setTest v).supply = s.supply := rfl
@[simp] theorem State.setTest_house (s : State) (v : ChannelTest) : (s.setTest v).house = s.house := rfl
@[simp] theorem State.setTest_store (s : State) (v : ChannelTest) : (s.setTest v).store = s.store := rfl
@[simp] theorem State.setTest_msPhase (s : State) (v : ChannelTest) : (s.setTest v).msPhase = s.msPhase := rfl
@[simp] theorem State.setTest_draws (s : State) (v : ChannelTest) : (s.setTest v).draws = s.draws := rfl
@[simp] theorem State.setTest_pending (s : State) (v : ChannelTest) : (s.setTest v).pending = s.pending := rfl

/-! ### setProbes -/

@[simp] theorem State.setProbes_powered (s : State) (v : Bank Probe 17) : (s.setProbes v).powered = s.powered := rfl
@[simp] theorem State.setProbes_params (s : State) (v : Bank Probe 17) : (s.setProbes v).params = s.params := rfl
@[simp] theorem State.setProbes_loops (s : State) (v : Bank Probe 17) : (s.setProbes v).loops = s.loops := rfl
@[simp] theorem State.setProbes_channels (s : State) (v : Bank Probe 17) : (s.setProbes v).channels = s.channels := rfl
@[simp] theorem State.setProbes_test (s : State) (v : Bank Probe 17) : (s.setProbes v).test = s.test := rfl
@[simp] theorem State.setProbes_probes (s : State) (v : Bank Probe 17) : (s.setProbes v).probes = v := rfl
@[simp] theorem State.setProbes_rooms (s : State) (v : Bank Probe 17) : (s.setProbes v).rooms = s.rooms := rfl
@[simp] theorem State.setProbes_seg (s : State) (v : Bank Probe 17) : (s.setProbes v).seg = s.seg := rfl
@[simp] theorem State.setProbes_toolRequest (s : State) (v : Bank Probe 17) : (s.setProbes v).toolRequest = s.toolRequest := rfl
@[simp] theorem State.setProbes_period (s : State) (v : Bank Probe 17) : (s.setProbes v).period = s.period := rfl
@[simp] theorem State.setProbes_arb (s : State) (v : Bank Probe 17) : (s.setProbes v).arb = s.arb := rfl
@[simp] theorem State.setProbes_supply (s : State) (v : Bank Probe 17) : (s.setProbes v).supply = s.supply := rfl
@[simp] theorem State.setProbes_house (s : State) (v : Bank Probe 17) : (s.setProbes v).house = s.house := rfl
@[simp] theorem State.setProbes_store (s : State) (v : Bank Probe 17) : (s.setProbes v).store = s.store := rfl
@[simp] theorem State.setProbes_msPhase (s : State) (v : Bank Probe 17) : (s.setProbes v).msPhase = s.msPhase := rfl
@[simp] theorem State.setProbes_draws (s : State) (v : Bank Probe 17) : (s.setProbes v).draws = s.draws := rfl
@[simp] theorem State.setProbes_pending (s : State) (v : Bank Probe 17) : (s.setProbes v).pending = s.pending := rfl

/-! ### setRooms -/

@[simp] theorem State.setRooms_powered (s : State) (v : Bank Room 12) : (s.setRooms v).powered = s.powered := rfl
@[simp] theorem State.setRooms_params (s : State) (v : Bank Room 12) : (s.setRooms v).params = s.params := rfl
@[simp] theorem State.setRooms_loops (s : State) (v : Bank Room 12) : (s.setRooms v).loops = s.loops := rfl
@[simp] theorem State.setRooms_channels (s : State) (v : Bank Room 12) : (s.setRooms v).channels = s.channels := rfl
@[simp] theorem State.setRooms_test (s : State) (v : Bank Room 12) : (s.setRooms v).test = s.test := rfl
@[simp] theorem State.setRooms_probes (s : State) (v : Bank Room 12) : (s.setRooms v).probes = s.probes := rfl
@[simp] theorem State.setRooms_rooms (s : State) (v : Bank Room 12) : (s.setRooms v).rooms = v := rfl
@[simp] theorem State.setRooms_seg (s : State) (v : Bank Room 12) : (s.setRooms v).seg = s.seg := rfl
@[simp] theorem State.setRooms_toolRequest (s : State) (v : Bank Room 12) : (s.setRooms v).toolRequest = s.toolRequest := rfl
@[simp] theorem State.setRooms_period (s : State) (v : Bank Room 12) : (s.setRooms v).period = s.period := rfl
@[simp] theorem State.setRooms_arb (s : State) (v : Bank Room 12) : (s.setRooms v).arb = s.arb := rfl
@[simp] theorem State.setRooms_supply (s : State) (v : Bank Room 12) : (s.setRooms v).supply = s.supply := rfl
@[simp] theorem State.setRooms_house (s : State) (v : Bank Room 12) : (s.setRooms v).house = s.house := rfl
@[simp] theorem State.setRooms_store (s : State) (v : Bank Room 12) : (s.setRooms v).store = s.store := rfl
@[simp] theorem State.setRooms_msPhase (s : State) (v : Bank Room 12) : (s.setRooms v).msPhase = s.msPhase := rfl
@[simp] theorem State.setRooms_draws (s : State) (v : Bank Room 12) : (s.setRooms v).draws = s.draws := rfl
@[simp] theorem State.setRooms_pending (s : State) (v : Bank Room 12) : (s.setRooms v).pending = s.pending := rfl

/-! ### setSeg -/

@[simp] theorem State.setSeg_powered (s : State) (v : Segment) : (s.setSeg v).powered = s.powered := rfl
@[simp] theorem State.setSeg_params (s : State) (v : Segment) : (s.setSeg v).params = s.params := rfl
@[simp] theorem State.setSeg_loops (s : State) (v : Segment) : (s.setSeg v).loops = s.loops := rfl
@[simp] theorem State.setSeg_channels (s : State) (v : Segment) : (s.setSeg v).channels = s.channels := rfl
@[simp] theorem State.setSeg_test (s : State) (v : Segment) : (s.setSeg v).test = s.test := rfl
@[simp] theorem State.setSeg_probes (s : State) (v : Segment) : (s.setSeg v).probes = s.probes := rfl
@[simp] theorem State.setSeg_rooms (s : State) (v : Segment) : (s.setSeg v).rooms = s.rooms := rfl
@[simp] theorem State.setSeg_seg (s : State) (v : Segment) : (s.setSeg v).seg = v := rfl
@[simp] theorem State.setSeg_toolRequest (s : State) (v : Segment) : (s.setSeg v).toolRequest = s.toolRequest := rfl
@[simp] theorem State.setSeg_period (s : State) (v : Segment) : (s.setSeg v).period = s.period := rfl
@[simp] theorem State.setSeg_arb (s : State) (v : Segment) : (s.setSeg v).arb = s.arb := rfl
@[simp] theorem State.setSeg_supply (s : State) (v : Segment) : (s.setSeg v).supply = s.supply := rfl
@[simp] theorem State.setSeg_house (s : State) (v : Segment) : (s.setSeg v).house = s.house := rfl
@[simp] theorem State.setSeg_store (s : State) (v : Segment) : (s.setSeg v).store = s.store := rfl
@[simp] theorem State.setSeg_msPhase (s : State) (v : Segment) : (s.setSeg v).msPhase = s.msPhase := rfl
@[simp] theorem State.setSeg_draws (s : State) (v : Segment) : (s.setSeg v).draws = s.draws := rfl
@[simp] theorem State.setSeg_pending (s : State) (v : Segment) : (s.setSeg v).pending = s.pending := rfl

/-! ### setToolRequest -/

@[simp] theorem State.setToolRequest_powered (s : State) (v : Bool) : (s.setToolRequest v).powered = s.powered := rfl
@[simp] theorem State.setToolRequest_params (s : State) (v : Bool) : (s.setToolRequest v).params = s.params := rfl
@[simp] theorem State.setToolRequest_loops (s : State) (v : Bool) : (s.setToolRequest v).loops = s.loops := rfl
@[simp] theorem State.setToolRequest_channels (s : State) (v : Bool) : (s.setToolRequest v).channels = s.channels := rfl
@[simp] theorem State.setToolRequest_test (s : State) (v : Bool) : (s.setToolRequest v).test = s.test := rfl
@[simp] theorem State.setToolRequest_probes (s : State) (v : Bool) : (s.setToolRequest v).probes = s.probes := rfl
@[simp] theorem State.setToolRequest_rooms (s : State) (v : Bool) : (s.setToolRequest v).rooms = s.rooms := rfl
@[simp] theorem State.setToolRequest_seg (s : State) (v : Bool) : (s.setToolRequest v).seg = s.seg := rfl
@[simp] theorem State.setToolRequest_toolRequest (s : State) (v : Bool) : (s.setToolRequest v).toolRequest = v := rfl
@[simp] theorem State.setToolRequest_period (s : State) (v : Bool) : (s.setToolRequest v).period = s.period := rfl
@[simp] theorem State.setToolRequest_arb (s : State) (v : Bool) : (s.setToolRequest v).arb = s.arb := rfl
@[simp] theorem State.setToolRequest_supply (s : State) (v : Bool) : (s.setToolRequest v).supply = s.supply := rfl
@[simp] theorem State.setToolRequest_house (s : State) (v : Bool) : (s.setToolRequest v).house = s.house := rfl
@[simp] theorem State.setToolRequest_store (s : State) (v : Bool) : (s.setToolRequest v).store = s.store := rfl
@[simp] theorem State.setToolRequest_msPhase (s : State) (v : Bool) : (s.setToolRequest v).msPhase = s.msPhase := rfl
@[simp] theorem State.setToolRequest_draws (s : State) (v : Bool) : (s.setToolRequest v).draws = s.draws := rfl
@[simp] theorem State.setToolRequest_pending (s : State) (v : Bool) : (s.setToolRequest v).pending = s.pending := rfl

/-! ### setPeriod -/

@[simp] theorem State.setPeriod_powered (s : State) (v : PeriodEngine) : (s.setPeriod v).powered = s.powered := rfl
@[simp] theorem State.setPeriod_params (s : State) (v : PeriodEngine) : (s.setPeriod v).params = s.params := rfl
@[simp] theorem State.setPeriod_loops (s : State) (v : PeriodEngine) : (s.setPeriod v).loops = s.loops := rfl
@[simp] theorem State.setPeriod_channels (s : State) (v : PeriodEngine) : (s.setPeriod v).channels = s.channels := rfl
@[simp] theorem State.setPeriod_test (s : State) (v : PeriodEngine) : (s.setPeriod v).test = s.test := rfl
@[simp] theorem State.setPeriod_probes (s : State) (v : PeriodEngine) : (s.setPeriod v).probes = s.probes := rfl
@[simp] theorem State.setPeriod_rooms (s : State) (v : PeriodEngine) : (s.setPeriod v).rooms = s.rooms := rfl
@[simp] theorem State.setPeriod_seg (s : State) (v : PeriodEngine) : (s.setPeriod v).seg = s.seg := rfl
@[simp] theorem State.setPeriod_toolRequest (s : State) (v : PeriodEngine) : (s.setPeriod v).toolRequest = s.toolRequest := rfl
@[simp] theorem State.setPeriod_period (s : State) (v : PeriodEngine) : (s.setPeriod v).period = v := rfl
@[simp] theorem State.setPeriod_arb (s : State) (v : PeriodEngine) : (s.setPeriod v).arb = s.arb := rfl
@[simp] theorem State.setPeriod_supply (s : State) (v : PeriodEngine) : (s.setPeriod v).supply = s.supply := rfl
@[simp] theorem State.setPeriod_house (s : State) (v : PeriodEngine) : (s.setPeriod v).house = s.house := rfl
@[simp] theorem State.setPeriod_store (s : State) (v : PeriodEngine) : (s.setPeriod v).store = s.store := rfl
@[simp] theorem State.setPeriod_msPhase (s : State) (v : PeriodEngine) : (s.setPeriod v).msPhase = s.msPhase := rfl
@[simp] theorem State.setPeriod_draws (s : State) (v : PeriodEngine) : (s.setPeriod v).draws = s.draws := rfl
@[simp] theorem State.setPeriod_pending (s : State) (v : PeriodEngine) : (s.setPeriod v).pending = s.pending := rfl

/-! ### setArb -/

@[simp] theorem State.setArb_powered (s : State) (v : Arbiter) : (s.setArb v).powered = s.powered := rfl
@[simp] theorem State.setArb_params (s : State) (v : Arbiter) : (s.setArb v).params = s.params := rfl
@[simp] theorem State.setArb_loops (s : State) (v : Arbiter) : (s.setArb v).loops = s.loops := rfl
@[simp] theorem State.setArb_channels (s : State) (v : Arbiter) : (s.setArb v).channels = s.channels := rfl
@[simp] theorem State.setArb_test (s : State) (v : Arbiter) : (s.setArb v).test = s.test := rfl
@[simp] theorem State.setArb_probes (s : State) (v : Arbiter) : (s.setArb v).probes = s.probes := rfl
@[simp] theorem State.setArb_rooms (s : State) (v : Arbiter) : (s.setArb v).rooms = s.rooms := rfl
@[simp] theorem State.setArb_seg (s : State) (v : Arbiter) : (s.setArb v).seg = s.seg := rfl
@[simp] theorem State.setArb_toolRequest (s : State) (v : Arbiter) : (s.setArb v).toolRequest = s.toolRequest := rfl
@[simp] theorem State.setArb_period (s : State) (v : Arbiter) : (s.setArb v).period = s.period := rfl
@[simp] theorem State.setArb_arb (s : State) (v : Arbiter) : (s.setArb v).arb = v := rfl
@[simp] theorem State.setArb_supply (s : State) (v : Arbiter) : (s.setArb v).supply = s.supply := rfl
@[simp] theorem State.setArb_house (s : State) (v : Arbiter) : (s.setArb v).house = s.house := rfl
@[simp] theorem State.setArb_store (s : State) (v : Arbiter) : (s.setArb v).store = s.store := rfl
@[simp] theorem State.setArb_msPhase (s : State) (v : Arbiter) : (s.setArb v).msPhase = s.msPhase := rfl
@[simp] theorem State.setArb_draws (s : State) (v : Arbiter) : (s.setArb v).draws = s.draws := rfl
@[simp] theorem State.setArb_pending (s : State) (v : Arbiter) : (s.setArb v).pending = s.pending := rfl

/-! ### setSupply -/

@[simp] theorem State.setSupply_powered (s : State) (v : Supply) : (s.setSupply v).powered = s.powered := rfl
@[simp] theorem State.setSupply_params (s : State) (v : Supply) : (s.setSupply v).params = s.params := rfl
@[simp] theorem State.setSupply_loops (s : State) (v : Supply) : (s.setSupply v).loops = s.loops := rfl
@[simp] theorem State.setSupply_channels (s : State) (v : Supply) : (s.setSupply v).channels = s.channels := rfl
@[simp] theorem State.setSupply_test (s : State) (v : Supply) : (s.setSupply v).test = s.test := rfl
@[simp] theorem State.setSupply_probes (s : State) (v : Supply) : (s.setSupply v).probes = s.probes := rfl
@[simp] theorem State.setSupply_rooms (s : State) (v : Supply) : (s.setSupply v).rooms = s.rooms := rfl
@[simp] theorem State.setSupply_seg (s : State) (v : Supply) : (s.setSupply v).seg = s.seg := rfl
@[simp] theorem State.setSupply_toolRequest (s : State) (v : Supply) : (s.setSupply v).toolRequest = s.toolRequest := rfl
@[simp] theorem State.setSupply_period (s : State) (v : Supply) : (s.setSupply v).period = s.period := rfl
@[simp] theorem State.setSupply_arb (s : State) (v : Supply) : (s.setSupply v).arb = s.arb := rfl
@[simp] theorem State.setSupply_supply (s : State) (v : Supply) : (s.setSupply v).supply = v := rfl
@[simp] theorem State.setSupply_house (s : State) (v : Supply) : (s.setSupply v).house = s.house := rfl
@[simp] theorem State.setSupply_store (s : State) (v : Supply) : (s.setSupply v).store = s.store := rfl
@[simp] theorem State.setSupply_msPhase (s : State) (v : Supply) : (s.setSupply v).msPhase = s.msPhase := rfl
@[simp] theorem State.setSupply_draws (s : State) (v : Supply) : (s.setSupply v).draws = s.draws := rfl
@[simp] theorem State.setSupply_pending (s : State) (v : Supply) : (s.setSupply v).pending = s.pending := rfl

/-! ### setHouse -/

@[simp] theorem State.setHouse_powered (s : State) (v : House) : (s.setHouse v).powered = s.powered := rfl
@[simp] theorem State.setHouse_params (s : State) (v : House) : (s.setHouse v).params = s.params := rfl
@[simp] theorem State.setHouse_loops (s : State) (v : House) : (s.setHouse v).loops = s.loops := rfl
@[simp] theorem State.setHouse_channels (s : State) (v : House) : (s.setHouse v).channels = s.channels := rfl
@[simp] theorem State.setHouse_test (s : State) (v : House) : (s.setHouse v).test = s.test := rfl
@[simp] theorem State.setHouse_probes (s : State) (v : House) : (s.setHouse v).probes = s.probes := rfl
@[simp] theorem State.setHouse_rooms (s : State) (v : House) : (s.setHouse v).rooms = s.rooms := rfl
@[simp] theorem State.setHouse_seg (s : State) (v : House) : (s.setHouse v).seg = s.seg := rfl
@[simp] theorem State.setHouse_toolRequest (s : State) (v : House) : (s.setHouse v).toolRequest = s.toolRequest := rfl
@[simp] theorem State.setHouse_period (s : State) (v : House) : (s.setHouse v).period = s.period := rfl
@[simp] theorem State.setHouse_arb (s : State) (v : House) : (s.setHouse v).arb = s.arb := rfl
@[simp] theorem State.setHouse_supply (s : State) (v : House) : (s.setHouse v).supply = s.supply := rfl
@[simp] theorem State.setHouse_house (s : State) (v : House) : (s.setHouse v).house = v := rfl
@[simp] theorem State.setHouse_store (s : State) (v : House) : (s.setHouse v).store = s.store := rfl
@[simp] theorem State.setHouse_msPhase (s : State) (v : House) : (s.setHouse v).msPhase = s.msPhase := rfl
@[simp] theorem State.setHouse_draws (s : State) (v : House) : (s.setHouse v).draws = s.draws := rfl
@[simp] theorem State.setHouse_pending (s : State) (v : House) : (s.setHouse v).pending = s.pending := rfl

/-! ### setStore -/

@[simp] theorem State.setStore_powered (s : State) (v : Store) : (s.setStore v).powered = s.powered := rfl
@[simp] theorem State.setStore_params (s : State) (v : Store) : (s.setStore v).params = s.params := rfl
@[simp] theorem State.setStore_loops (s : State) (v : Store) : (s.setStore v).loops = s.loops := rfl
@[simp] theorem State.setStore_channels (s : State) (v : Store) : (s.setStore v).channels = s.channels := rfl
@[simp] theorem State.setStore_test (s : State) (v : Store) : (s.setStore v).test = s.test := rfl
@[simp] theorem State.setStore_probes (s : State) (v : Store) : (s.setStore v).probes = s.probes := rfl
@[simp] theorem State.setStore_rooms (s : State) (v : Store) : (s.setStore v).rooms = s.rooms := rfl
@[simp] theorem State.setStore_seg (s : State) (v : Store) : (s.setStore v).seg = s.seg := rfl
@[simp] theorem State.setStore_toolRequest (s : State) (v : Store) : (s.setStore v).toolRequest = s.toolRequest := rfl
@[simp] theorem State.setStore_period (s : State) (v : Store) : (s.setStore v).period = s.period := rfl
@[simp] theorem State.setStore_arb (s : State) (v : Store) : (s.setStore v).arb = s.arb := rfl
@[simp] theorem State.setStore_supply (s : State) (v : Store) : (s.setStore v).supply = s.supply := rfl
@[simp] theorem State.setStore_house (s : State) (v : Store) : (s.setStore v).house = s.house := rfl
@[simp] theorem State.setStore_store (s : State) (v : Store) : (s.setStore v).store = v := rfl
@[simp] theorem State.setStore_msPhase (s : State) (v : Store) : (s.setStore v).msPhase = s.msPhase := rfl
@[simp] theorem State.setStore_draws (s : State) (v : Store) : (s.setStore v).draws = s.draws := rfl
@[simp] theorem State.setStore_pending (s : State) (v : Store) : (s.setStore v).pending = s.pending := rfl

/-! ### setMsPhase -/

@[simp] theorem State.setMsPhase_powered (s : State) (v : Nat) : (s.setMsPhase v).powered = s.powered := rfl
@[simp] theorem State.setMsPhase_params (s : State) (v : Nat) : (s.setMsPhase v).params = s.params := rfl
@[simp] theorem State.setMsPhase_loops (s : State) (v : Nat) : (s.setMsPhase v).loops = s.loops := rfl
@[simp] theorem State.setMsPhase_channels (s : State) (v : Nat) : (s.setMsPhase v).channels = s.channels := rfl
@[simp] theorem State.setMsPhase_test (s : State) (v : Nat) : (s.setMsPhase v).test = s.test := rfl
@[simp] theorem State.setMsPhase_probes (s : State) (v : Nat) : (s.setMsPhase v).probes = s.probes := rfl
@[simp] theorem State.setMsPhase_rooms (s : State) (v : Nat) : (s.setMsPhase v).rooms = s.rooms := rfl
@[simp] theorem State.setMsPhase_seg (s : State) (v : Nat) : (s.setMsPhase v).seg = s.seg := rfl
@[simp] theorem State.setMsPhase_toolRequest (s : State) (v : Nat) : (s.setMsPhase v).toolRequest = s.toolRequest := rfl
@[simp] theorem State.setMsPhase_period (s : State) (v : Nat) : (s.setMsPhase v).period = s.period := rfl
@[simp] theorem State.setMsPhase_arb (s : State) (v : Nat) : (s.setMsPhase v).arb = s.arb := rfl
@[simp] theorem State.setMsPhase_supply (s : State) (v : Nat) : (s.setMsPhase v).supply = s.supply := rfl
@[simp] theorem State.setMsPhase_house (s : State) (v : Nat) : (s.setMsPhase v).house = s.house := rfl
@[simp] theorem State.setMsPhase_store (s : State) (v : Nat) : (s.setMsPhase v).store = s.store := rfl
@[simp] theorem State.setMsPhase_msPhase (s : State) (v : Nat) : (s.setMsPhase v).msPhase = v := rfl
@[simp] theorem State.setMsPhase_draws (s : State) (v : Nat) : (s.setMsPhase v).draws = s.draws := rfl
@[simp] theorem State.setMsPhase_pending (s : State) (v : Nat) : (s.setMsPhase v).pending = s.pending := rfl

/-! ### setDraws -/

@[simp] theorem State.setDraws_powered (s : State) (v : Nat) : (s.setDraws v).powered = s.powered := rfl
@[simp] theorem State.setDraws_params (s : State) (v : Nat) : (s.setDraws v).params = s.params := rfl
@[simp] theorem State.setDraws_loops (s : State) (v : Nat) : (s.setDraws v).loops = s.loops := rfl
@[simp] theorem State.setDraws_channels (s : State) (v : Nat) : (s.setDraws v).channels = s.channels := rfl
@[simp] theorem State.setDraws_test (s : State) (v : Nat) : (s.setDraws v).test = s.test := rfl
@[simp] theorem State.setDraws_probes (s : State) (v : Nat) : (s.setDraws v).probes = s.probes := rfl
@[simp] theorem State.setDraws_rooms (s : State) (v : Nat) : (s.setDraws v).rooms = s.rooms := rfl
@[simp] theorem State.setDraws_seg (s : State) (v : Nat) : (s.setDraws v).seg = s.seg := rfl
@[simp] theorem State.setDraws_toolRequest (s : State) (v : Nat) : (s.setDraws v).toolRequest = s.toolRequest := rfl
@[simp] theorem State.setDraws_period (s : State) (v : Nat) : (s.setDraws v).period = s.period := rfl
@[simp] theorem State.setDraws_arb (s : State) (v : Nat) : (s.setDraws v).arb = s.arb := rfl
@[simp] theorem State.setDraws_supply (s : State) (v : Nat) : (s.setDraws v).supply = s.supply := rfl
@[simp] theorem State.setDraws_house (s : State) (v : Nat) : (s.setDraws v).house = s.house := rfl
@[simp] theorem State.setDraws_store (s : State) (v : Nat) : (s.setDraws v).store = s.store := rfl
@[simp] theorem State.setDraws_msPhase (s : State) (v : Nat) : (s.setDraws v).msPhase = s.msPhase := rfl
@[simp] theorem State.setDraws_draws (s : State) (v : Nat) : (s.setDraws v).draws = v := rfl
@[simp] theorem State.setDraws_pending (s : State) (v : Nat) : (s.setDraws v).pending = s.pending := rfl

/-! ### setPending -/

@[simp] theorem State.setPending_powered (s : State) (v : List Instr) : (s.setPending v).powered = s.powered := rfl
@[simp] theorem State.setPending_params (s : State) (v : List Instr) : (s.setPending v).params = s.params := rfl
@[simp] theorem State.setPending_loops (s : State) (v : List Instr) : (s.setPending v).loops = s.loops := rfl
@[simp] theorem State.setPending_channels (s : State) (v : List Instr) : (s.setPending v).channels = s.channels := rfl
@[simp] theorem State.setPending_test (s : State) (v : List Instr) : (s.setPending v).test = s.test := rfl
@[simp] theorem State.setPending_probes (s : State) (v : List Instr) : (s.setPending v).probes = s.probes := rfl
@[simp] theorem State.setPending_rooms (s : State) (v : List Instr) : (s.setPending v).rooms = s.rooms := rfl
@[simp] theorem State.setPending_seg (s : State) (v : List Instr) : (s.setPending v).seg = s.seg := rfl
@[simp] theorem State.setPending_toolRequest (s : State) (v : List Instr) : (s.setPending v).toolRequest = s.toolRequest := rfl
@[simp] theorem State.setPending_period (s : State) (v : List Instr) : (s.setPending v).period = s.period := rfl
@[simp] theorem State.setPending_arb (s : State) (v : List Instr) : (s.setPending v).arb = s.arb := rfl
@[simp] theorem State.setPending_supply (s : State) (v : List Instr) : (s.setPending v).supply = s.supply := rfl
@[simp] theorem State.setPending_house (s : State) (v : List Instr) : (s.setPending v).house = s.house := rfl
@[simp] theorem State.setPending_store (s : State) (v : List Instr) : (s.setPending v).store = s.store := rfl
@[simp] theorem State.setPending_msPhase (s : State) (v : List Instr) : (s.setPending v).msPhase = s.msPhase := rfl
@[simp] theorem State.setPending_draws (s : State) (v : List Instr) : (s.setPending v).draws = s.draws := rfl
@[simp] theorem State.setPending_pending (s : State) (v : List Instr) : (s.setPending v).pending = v := rfl

end Sys2Proof.Machine
end

