-- ==== Sys2Proof/Laws/Frames.lean ====
section
/-! SUPPORT. Frames: for each shared operation and each field of the state that it leaves alone, that it
leaves it alone. -/

namespace Sys2Proof.Machine

/-! ### Lines and channels -/

@[simp] theorem driveLines_powered (s : State) :
    (driveLines s).powered = s.powered := rfl
@[simp] theorem driveLines_params (s : State) :
    (driveLines s).params = s.params := rfl
@[simp] theorem driveLines_loops (s : State) :
    (driveLines s).loops = s.loops := rfl
@[simp] theorem driveLines_channels (s : State) :
    (driveLines s).channels = s.channels := rfl
@[simp] theorem driveLines_test (s : State) :
    (driveLines s).test = s.test := rfl
@[simp] theorem driveLines_probes (s : State) :
    (driveLines s).probes = s.probes := rfl
@[simp] theorem driveLines_rooms (s : State) :
    (driveLines s).rooms = s.rooms := rfl
@[simp] theorem driveLines_seg (s : State) :
    (driveLines s).seg = s.seg := rfl
@[simp] theorem driveLines_toolRequest (s : State) :
    (driveLines s).toolRequest = s.toolRequest := rfl
@[simp] theorem driveLines_period (s : State) :
    (driveLines s).period = s.period := rfl
@[simp] theorem driveLines_arb (s : State) :
    (driveLines s).arb = s.arb := rfl
@[simp] theorem driveLines_house (s : State) :
    (driveLines s).house = s.house := rfl
@[simp] theorem driveLines_store (s : State) :
    (driveLines s).store = s.store := rfl
@[simp] theorem driveLines_msPhase (s : State) :
    (driveLines s).msPhase = s.msPhase := rfl
@[simp] theorem driveLines_draws (s : State) :
    (driveLines s).draws = s.draws := rfl
@[simp] theorem driveLines_pending (s : State) :
    (driveLines s).pending = s.pending := rfl

@[simp] theorem putChannels_powered (cs : Bank Channel 16) (s : State) :
    (putChannels cs s).powered = s.powered := rfl
@[simp] theorem putChannels_params (cs : Bank Channel 16) (s : State) :
    (putChannels cs s).params = s.params := rfl
@[simp] theorem putChannels_loops (cs : Bank Channel 16) (s : State) :
    (putChannels cs s).loops = s.loops := rfl
@[simp] theorem putChannels_test (cs : Bank Channel 16) (s : State) :
    (putChannels cs s).test = s.test := rfl
@[simp] theorem putChannels_probes (cs : Bank Channel 16) (s : State) :
    (putChannels cs s).probes = s.probes := rfl
@[simp] theorem putChannels_rooms (cs : Bank Channel 16) (s : State) :
    (putChannels cs s).rooms = s.rooms := rfl
@[simp] theorem putChannels_seg (cs : Bank Channel 16) (s : State) :
    (putChannels cs s).seg = s.seg := rfl
@[simp] theorem putChannels_toolRequest (cs : Bank Channel 16) (s : State) :
    (putChannels cs s).toolRequest = s.toolRequest := rfl
@[simp] theorem putChannels_period (cs : Bank Channel 16) (s : State) :
    (putChannels cs s).period = s.period := rfl
@[simp] theorem putChannels_arb (cs : Bank Channel 16) (s : State) :
    (putChannels cs s).arb = s.arb := rfl
@[simp] theorem putChannels_house (cs : Bank Channel 16) (s : State) :
    (putChannels cs s).house = s.house := rfl
@[simp] theorem putChannels_store (cs : Bank Channel 16) (s : State) :
    (putChannels cs s).store = s.store := rfl
@[simp] theorem putChannels_msPhase (cs : Bank Channel 16) (s : State) :
    (putChannels cs s).msPhase = s.msPhase := rfl
@[simp] theorem putChannels_draws (cs : Bank Channel 16) (s : State) :
    (putChannels cs s).draws = s.draws := rfl
@[simp] theorem putChannels_pending (cs : Bank Channel 16) (s : State) :
    (putChannels cs s).pending = s.pending := rfl

@[simp] theorem putChannel_powered (i : LoopIx) (c : Channel) (s : State) :
    (putChannel i c s).powered = s.powered := rfl
@[simp] theorem putChannel_params (i : LoopIx) (c : Channel) (s : State) :
    (putChannel i c s).params = s.params := rfl
@[simp] theorem putChannel_loops (i : LoopIx) (c : Channel) (s : State) :
    (putChannel i c s).loops = s.loops := rfl
@[simp] theorem putChannel_test (i : LoopIx) (c : Channel) (s : State) :
    (putChannel i c s).test = s.test := rfl
@[simp] theorem putChannel_probes (i : LoopIx) (c : Channel) (s : State) :
    (putChannel i c s).probes = s.probes := rfl
@[simp] theorem putChannel_rooms (i : LoopIx) (c : Channel) (s : State) :
    (putChannel i c s).rooms = s.rooms := rfl
@[simp] theorem putChannel_seg (i : LoopIx) (c : Channel) (s : State) :
    (putChannel i c s).seg = s.seg := rfl
@[simp] theorem putChannel_toolRequest (i : LoopIx) (c : Channel) (s : State) :
    (putChannel i c s).toolRequest = s.toolRequest := rfl
@[simp] theorem putChannel_period (i : LoopIx) (c : Channel) (s : State) :
    (putChannel i c s).period = s.period := rfl
@[simp] theorem putChannel_arb (i : LoopIx) (c : Channel) (s : State) :
    (putChannel i c s).arb = s.arb := rfl
@[simp] theorem putChannel_house (i : LoopIx) (c : Channel) (s : State) :
    (putChannel i c s).house = s.house := rfl
@[simp] theorem putChannel_store (i : LoopIx) (c : Channel) (s : State) :
    (putChannel i c s).store = s.store := rfl
@[simp] theorem putChannel_msPhase (i : LoopIx) (c : Channel) (s : State) :
    (putChannel i c s).msPhase = s.msPhase := rfl
@[simp] theorem putChannel_draws (i : LoopIx) (c : Channel) (s : State) :
    (putChannel i c s).draws = s.draws := rfl
@[simp] theorem putChannel_pending (i : LoopIx) (c : Channel) (s : State) :
    (putChannel i c s).pending = s.pending := rfl

@[simp] theorem releaseWhere_powered (sel : LoopIx → Bool) (s : State) :
    (releaseWhere sel s).powered = s.powered := by unfold releaseWhere; split <;> (try split) <;> simp
@[simp] theorem releaseWhere_params (sel : LoopIx → Bool) (s : State) :
    (releaseWhere sel s).params = s.params := by unfold releaseWhere; split <;> (try split) <;> simp
@[simp] theorem releaseWhere_loops (sel : LoopIx → Bool) (s : State) :
    (releaseWhere sel s).loops = s.loops := by unfold releaseWhere; split <;> (try split) <;> simp
@[simp] theorem releaseWhere_probes (sel : LoopIx → Bool) (s : State) :
    (releaseWhere sel s).probes = s.probes := by unfold releaseWhere; split <;> (try split) <;> simp
@[simp] theorem releaseWhere_rooms (sel : LoopIx → Bool) (s : State) :
    (releaseWhere sel s).rooms = s.rooms := by unfold releaseWhere; split <;> (try split) <;> simp
@[simp] theorem releaseWhere_seg (sel : LoopIx → Bool) (s : State) :
    (releaseWhere sel s).seg = s.seg := by unfold releaseWhere; split <;> (try split) <;> simp
@[simp] theorem releaseWhere_toolRequest (sel : LoopIx → Bool) (s : State) :
    (releaseWhere sel s).toolRequest = s.toolRequest := by unfold releaseWhere; split <;> (try split) <;> simp
@[simp] theorem releaseWhere_period (sel : LoopIx → Bool) (s : State) :
    (releaseWhere sel s).period = s.period := by unfold releaseWhere; split <;> (try split) <;> simp
@[simp] theorem releaseWhere_arb (sel : LoopIx → Bool) (s : State) :
    (releaseWhere sel s).arb = s.arb := by unfold releaseWhere; split <;> (try split) <;> simp
@[simp] theorem releaseWhere_house (sel : LoopIx → Bool) (s : State) :
    (releaseWhere sel s).house = s.house := by unfold releaseWhere; split <;> (try split) <;> simp
@[simp] theorem releaseWhere_store (sel : LoopIx → Bool) (s : State) :
    (releaseWhere sel s).store = s.store := by unfold releaseWhere; split <;> (try split) <;> simp
@[simp] theorem releaseWhere_msPhase (sel : LoopIx → Bool) (s : State) :
    (releaseWhere sel s).msPhase = s.msPhase := by unfold releaseWhere; split <;> (try split) <;> simp
@[simp] theorem releaseWhere_draws (sel : LoopIx → Bool) (s : State) :
    (releaseWhere sel s).draws = s.draws := by unfold releaseWhere; split <;> (try split) <;> simp
@[simp] theorem releaseWhere_pending (sel : LoopIx → Bool) (s : State) :
    (releaseWhere sel s).pending = s.pending := by unfold releaseWhere; split <;> (try split) <;> simp

/-! ### Queue, plan and records -/

@[simp] theorem setQueue_powered (q : List QueueEntry) (s : State) :
    (setQueue q s).powered = s.powered := rfl
@[simp] theorem setQueue_params (q : List QueueEntry) (s : State) :
    (setQueue q s).params = s.params := rfl
@[simp] theorem setQueue_loops (q : List QueueEntry) (s : State) :
    (setQueue q s).loops = s.loops := rfl
@[simp] theorem setQueue_channels (q : List QueueEntry) (s : State) :
    (setQueue q s).channels = s.channels := rfl
@[simp] theorem setQueue_test (q : List QueueEntry) (s : State) :
    (setQueue q s).test = s.test := rfl
@[simp] theorem setQueue_probes (q : List QueueEntry) (s : State) :
    (setQueue q s).probes = s.probes := rfl
@[simp] theorem setQueue_rooms (q : List QueueEntry) (s : State) :
    (setQueue q s).rooms = s.rooms := rfl
@[simp] theorem setQueue_seg (q : List QueueEntry) (s : State) :
    (setQueue q s).seg = s.seg := rfl
@[simp] theorem setQueue_toolRequest (q : List QueueEntry) (s : State) :
    (setQueue q s).toolRequest = s.toolRequest := rfl
@[simp] theorem setQueue_period (q : List QueueEntry) (s : State) :
    (setQueue q s).period = s.period := rfl
@[simp] theorem setQueue_supply (q : List QueueEntry) (s : State) :
    (setQueue q s).supply = s.supply := rfl
@[simp] theorem setQueue_house (q : List QueueEntry) (s : State) :
    (setQueue q s).house = s.house := rfl
@[simp] theorem setQueue_store (q : List QueueEntry) (s : State) :
    (setQueue q s).store = s.store := rfl
@[simp] theorem setQueue_msPhase (q : List QueueEntry) (s : State) :
    (setQueue q s).msPhase = s.msPhase := rfl
@[simp] theorem setQueue_draws (q : List QueueEntry) (s : State) :
    (setQueue q s).draws = s.draws := rfl
@[simp] theorem setQueue_pending (q : List QueueEntry) (s : State) :
    (setQueue q s).pending = s.pending := rfl

@[simp] theorem setPlan_powered (p : List PlanEntry) (s : State) :
    (setPlan p s).powered = s.powered := rfl
@[simp] theorem setPlan_params (p : List PlanEntry) (s : State) :
    (setPlan p s).params = s.params := rfl
@[simp] theorem setPlan_loops (p : List PlanEntry) (s : State) :
    (setPlan p s).loops = s.loops := rfl
@[simp] theorem setPlan_channels (p : List PlanEntry) (s : State) :
    (setPlan p s).channels = s.channels := rfl
@[simp] theorem setPlan_test (p : List PlanEntry) (s : State) :
    (setPlan p s).test = s.test := rfl
@[simp] theorem setPlan_probes (p : List PlanEntry) (s : State) :
    (setPlan p s).probes = s.probes := rfl
@[simp] theorem setPlan_rooms (p : List PlanEntry) (s : State) :
    (setPlan p s).rooms = s.rooms := rfl
@[simp] theorem setPlan_seg (p : List PlanEntry) (s : State) :
    (setPlan p s).seg = s.seg := rfl
@[simp] theorem setPlan_toolRequest (p : List PlanEntry) (s : State) :
    (setPlan p s).toolRequest = s.toolRequest := rfl
@[simp] theorem setPlan_period (p : List PlanEntry) (s : State) :
    (setPlan p s).period = s.period := rfl
@[simp] theorem setPlan_supply (p : List PlanEntry) (s : State) :
    (setPlan p s).supply = s.supply := rfl
@[simp] theorem setPlan_house (p : List PlanEntry) (s : State) :
    (setPlan p s).house = s.house := rfl
@[simp] theorem setPlan_store (p : List PlanEntry) (s : State) :
    (setPlan p s).store = s.store := rfl
@[simp] theorem setPlan_msPhase (p : List PlanEntry) (s : State) :
    (setPlan p s).msPhase = s.msPhase := rfl
@[simp] theorem setPlan_draws (p : List PlanEntry) (s : State) :
    (setPlan p s).draws = s.draws := rfl
@[simp] theorem setPlan_pending (p : List PlanEntry) (s : State) :
    (setPlan p s).pending = s.pending := rfl

@[simp] theorem dropLoops_powered (sel : LoopIx → Bool) (s : State) :
    (dropLoops sel s).powered = s.powered := rfl
@[simp] theorem dropLoops_params (sel : LoopIx → Bool) (s : State) :
    (dropLoops sel s).params = s.params := rfl
@[simp] theorem dropLoops_loops (sel : LoopIx → Bool) (s : State) :
    (dropLoops sel s).loops = s.loops := rfl
@[simp] theorem dropLoops_channels (sel : LoopIx → Bool) (s : State) :
    (dropLoops sel s).channels = s.channels := rfl
@[simp] theorem dropLoops_test (sel : LoopIx → Bool) (s : State) :
    (dropLoops sel s).test = s.test := rfl
@[simp] theorem dropLoops_probes (sel : LoopIx → Bool) (s : State) :
    (dropLoops sel s).probes = s.probes := rfl
@[simp] theorem dropLoops_rooms (sel : LoopIx → Bool) (s : State) :
    (dropLoops sel s).rooms = s.rooms := rfl
@[simp] theorem dropLoops_seg (sel : LoopIx → Bool) (s : State) :
    (dropLoops sel s).seg = s.seg := rfl
@[simp] theorem dropLoops_toolRequest (sel : LoopIx → Bool) (s : State) :
    (dropLoops sel s).toolRequest = s.toolRequest := rfl
@[simp] theorem dropLoops_period (sel : LoopIx → Bool) (s : State) :
    (dropLoops sel s).period = s.period := rfl
@[simp] theorem dropLoops_supply (sel : LoopIx → Bool) (s : State) :
    (dropLoops sel s).supply = s.supply := rfl
@[simp] theorem dropLoops_house (sel : LoopIx → Bool) (s : State) :
    (dropLoops sel s).house = s.house := rfl
@[simp] theorem dropLoops_store (sel : LoopIx → Bool) (s : State) :
    (dropLoops sel s).store = s.store := rfl
@[simp] theorem dropLoops_msPhase (sel : LoopIx → Bool) (s : State) :
    (dropLoops sel s).msPhase = s.msPhase := rfl
@[simp] theorem dropLoops_draws (sel : LoopIx → Bool) (s : State) :
    (dropLoops sel s).draws = s.draws := rfl
@[simp] theorem dropLoops_pending (sel : LoopIx → Bool) (s : State) :
    (dropLoops sel s).pending = s.pending := rfl

@[simp] theorem clearStarts_powered (s : State) :
    (clearStarts s).powered = s.powered := rfl
@[simp] theorem clearStarts_params (s : State) :
    (clearStarts s).params = s.params := rfl
@[simp] theorem clearStarts_loops (s : State) :
    (clearStarts s).loops = s.loops := rfl
@[simp] theorem clearStarts_channels (s : State) :
    (clearStarts s).channels = s.channels := rfl
@[simp] theorem clearStarts_test (s : State) :
    (clearStarts s).test = s.test := rfl
@[simp] theorem clearStarts_probes (s : State) :
    (clearStarts s).probes = s.probes := rfl
@[simp] theorem clearStarts_rooms (s : State) :
    (clearStarts s).rooms = s.rooms := rfl
@[simp] theorem clearStarts_seg (s : State) :
    (clearStarts s).seg = s.seg := rfl
@[simp] theorem clearStarts_toolRequest (s : State) :
    (clearStarts s).toolRequest = s.toolRequest := rfl
@[simp] theorem clearStarts_period (s : State) :
    (clearStarts s).period = s.period := rfl
@[simp] theorem clearStarts_supply (s : State) :
    (clearStarts s).supply = s.supply := rfl
@[simp] theorem clearStarts_house (s : State) :
    (clearStarts s).house = s.house := rfl
@[simp] theorem clearStarts_store (s : State) :
    (clearStarts s).store = s.store := rfl
@[simp] theorem clearStarts_msPhase (s : State) :
    (clearStarts s).msPhase = s.msPhase := rfl
@[simp] theorem clearStarts_draws (s : State) :
    (clearStarts s).draws = s.draws := rfl
@[simp] theorem clearStarts_pending (s : State) :
    (clearStarts s).pending = s.pending := rfl

@[simp] theorem updateRecord_powered (i : LoopIx) (f : PeriodRecord → PeriodRecord) (s : State) :
    (updateRecord i f s).powered = s.powered := rfl
@[simp] theorem updateRecord_params (i : LoopIx) (f : PeriodRecord → PeriodRecord) (s : State) :
    (updateRecord i f s).params = s.params := rfl
@[simp] theorem updateRecord_loops (i : LoopIx) (f : PeriodRecord → PeriodRecord) (s : State) :
    (updateRecord i f s).loops = s.loops := rfl
@[simp] theorem updateRecord_channels (i : LoopIx) (f : PeriodRecord → PeriodRecord) (s : State) :
    (updateRecord i f s).channels = s.channels := rfl
@[simp] theorem updateRecord_test (i : LoopIx) (f : PeriodRecord → PeriodRecord) (s : State) :
    (updateRecord i f s).test = s.test := rfl
@[simp] theorem updateRecord_probes (i : LoopIx) (f : PeriodRecord → PeriodRecord) (s : State) :
    (updateRecord i f s).probes = s.probes := rfl
@[simp] theorem updateRecord_rooms (i : LoopIx) (f : PeriodRecord → PeriodRecord) (s : State) :
    (updateRecord i f s).rooms = s.rooms := rfl
@[simp] theorem updateRecord_seg (i : LoopIx) (f : PeriodRecord → PeriodRecord) (s : State) :
    (updateRecord i f s).seg = s.seg := rfl
@[simp] theorem updateRecord_toolRequest (i : LoopIx) (f : PeriodRecord → PeriodRecord) (s : State) :
    (updateRecord i f s).toolRequest = s.toolRequest := rfl
@[simp] theorem updateRecord_arb (i : LoopIx) (f : PeriodRecord → PeriodRecord) (s : State) :
    (updateRecord i f s).arb = s.arb := rfl
@[simp] theorem updateRecord_supply (i : LoopIx) (f : PeriodRecord → PeriodRecord) (s : State) :
    (updateRecord i f s).supply = s.supply := rfl
@[simp] theorem updateRecord_house (i : LoopIx) (f : PeriodRecord → PeriodRecord) (s : State) :
    (updateRecord i f s).house = s.house := rfl
@[simp] theorem updateRecord_store (i : LoopIx) (f : PeriodRecord → PeriodRecord) (s : State) :
    (updateRecord i f s).store = s.store := rfl
@[simp] theorem updateRecord_msPhase (i : LoopIx) (f : PeriodRecord → PeriodRecord) (s : State) :
    (updateRecord i f s).msPhase = s.msPhase := rfl
@[simp] theorem updateRecord_draws (i : LoopIx) (f : PeriodRecord → PeriodRecord) (s : State) :
    (updateRecord i f s).draws = s.draws := rfl
@[simp] theorem updateRecord_pending (i : LoopIx) (f : PeriodRecord → PeriodRecord) (s : State) :
    (updateRecord i f s).pending = s.pending := rfl

@[simp] theorem updateRecords_powered (f : LoopIx → PeriodRecord → PeriodRecord) (s : State) :
    (updateRecords f s).powered = s.powered := rfl
@[simp] theorem updateRecords_params (f : LoopIx → PeriodRecord → PeriodRecord) (s : State) :
    (updateRecords f s).params = s.params := rfl
@[simp] theorem updateRecords_loops (f : LoopIx → PeriodRecord → PeriodRecord) (s : State) :
    (updateRecords f s).loops = s.loops := rfl
@[simp] theorem updateRecords_channels (f : LoopIx → PeriodRecord → PeriodRecord) (s : State) :
    (updateRecords f s).channels = s.channels := rfl
@[simp] theorem updateRecords_test (f : LoopIx → PeriodRecord → PeriodRecord) (s : State) :
    (updateRecords f s).test = s.test := rfl
@[simp] theorem updateRecords_probes (f : LoopIx → PeriodRecord → PeriodRecord) (s : State) :
    (updateRecords f s).probes = s.probes := rfl
@[simp] theorem updateRecords_rooms (f : LoopIx → PeriodRecord → PeriodRecord) (s : State) :
    (updateRecords f s).rooms = s.rooms := rfl
@[simp] theorem updateRecords_seg (f : LoopIx → PeriodRecord → PeriodRecord) (s : State) :
    (updateRecords f s).seg = s.seg := rfl
@[simp] theorem updateRecords_toolRequest (f : LoopIx → PeriodRecord → PeriodRecord) (s : State) :
    (updateRecords f s).toolRequest = s.toolRequest := rfl
@[simp] theorem updateRecords_arb (f : LoopIx → PeriodRecord → PeriodRecord) (s : State) :
    (updateRecords f s).arb = s.arb := rfl
@[simp] theorem updateRecords_supply (f : LoopIx → PeriodRecord → PeriodRecord) (s : State) :
    (updateRecords f s).supply = s.supply := rfl
@[simp] theorem updateRecords_house (f : LoopIx → PeriodRecord → PeriodRecord) (s : State) :
    (updateRecords f s).house = s.house := rfl
@[simp] theorem updateRecords_store (f : LoopIx → PeriodRecord → PeriodRecord) (s : State) :
    (updateRecords f s).store = s.store := rfl
@[simp] theorem updateRecords_msPhase (f : LoopIx → PeriodRecord → PeriodRecord) (s : State) :
    (updateRecords f s).msPhase = s.msPhase := rfl
@[simp] theorem updateRecords_draws (f : LoopIx → PeriodRecord → PeriodRecord) (s : State) :
    (updateRecords f s).draws = s.draws := rfl
@[simp] theorem updateRecords_pending (f : LoopIx → PeriodRecord → PeriodRecord) (s : State) :
    (updateRecords f s).pending = s.pending := rfl

@[simp] theorem markClosed_powered (sel : LoopIx → Bool) (s : State) :
    (markClosed sel s).powered = s.powered := rfl
@[simp] theorem markClosed_params (sel : LoopIx → Bool) (s : State) :
    (markClosed sel s).params = s.params := rfl
@[simp] theorem markClosed_loops (sel : LoopIx → Bool) (s : State) :
    (markClosed sel s).loops = s.loops := rfl
@[simp] theorem markClosed_channels (sel : LoopIx → Bool) (s : State) :
    (markClosed sel s).channels = s.channels := rfl
@[simp] theorem markClosed_test (sel : LoopIx → Bool) (s : State) :
    (markClosed sel s).test = s.test := rfl
@[simp] theorem markClosed_probes (sel : LoopIx → Bool) (s : State) :
    (markClosed sel s).probes = s.probes := rfl
@[simp] theorem markClosed_rooms (sel : LoopIx → Bool) (s : State) :
    (markClosed sel s).rooms = s.rooms := rfl
@[simp] theorem markClosed_seg (sel : LoopIx → Bool) (s : State) :
    (markClosed sel s).seg = s.seg := rfl
@[simp] theorem markClosed_toolRequest (sel : LoopIx → Bool) (s : State) :
    (markClosed sel s).toolRequest = s.toolRequest := rfl
@[simp] theorem markClosed_arb (sel : LoopIx → Bool) (s : State) :
    (markClosed sel s).arb = s.arb := rfl
@[simp] theorem markClosed_supply (sel : LoopIx → Bool) (s : State) :
    (markClosed sel s).supply = s.supply := rfl
@[simp] theorem markClosed_house (sel : LoopIx → Bool) (s : State) :
    (markClosed sel s).house = s.house := rfl
@[simp] theorem markClosed_store (sel : LoopIx → Bool) (s : State) :
    (markClosed sel s).store = s.store := rfl
@[simp] theorem markClosed_msPhase (sel : LoopIx → Bool) (s : State) :
    (markClosed sel s).msPhase = s.msPhase := rfl
@[simp] theorem markClosed_draws (sel : LoopIx → Bool) (s : State) :
    (markClosed sel s).draws = s.draws := rfl
@[simp] theorem markClosed_pending (sel : LoopIx → Bool) (s : State) :
    (markClosed sel s).pending = s.pending := rfl

@[simp] theorem grantHead_powered (s : State) :
    (grantHead s).powered = s.powered := by unfold grantHead; split <;> (try split) <;> simp
@[simp] theorem grantHead_params (s : State) :
    (grantHead s).params = s.params := by unfold grantHead; split <;> (try split) <;> simp
@[simp] theorem grantHead_loops (s : State) :
    (grantHead s).loops = s.loops := by unfold grantHead; split <;> (try split) <;> simp
@[simp] theorem grantHead_probes (s : State) :
    (grantHead s).probes = s.probes := by unfold grantHead; split <;> (try split) <;> simp
@[simp] theorem grantHead_rooms (s : State) :
    (grantHead s).rooms = s.rooms := by unfold grantHead; split <;> (try split) <;> simp
@[simp] theorem grantHead_seg (s : State) :
    (grantHead s).seg = s.seg := by unfold grantHead; split <;> (try split) <;> simp
@[simp] theorem grantHead_toolRequest (s : State) :
    (grantHead s).toolRequest = s.toolRequest := by unfold grantHead; split <;> (try split) <;> simp
@[simp] theorem grantHead_house (s : State) :
    (grantHead s).house = s.house := by unfold grantHead; split <;> (try split) <;> simp
@[simp] theorem grantHead_store (s : State) :
    (grantHead s).store = s.store := by unfold grantHead; split <;> (try split) <;> simp
@[simp] theorem grantHead_msPhase (s : State) :
    (grantHead s).msPhase = s.msPhase := by unfold grantHead; split <;> (try split) <;> simp
@[simp] theorem grantHead_draws (s : State) :
    (grantHead s).draws = s.draws := by unfold grantHead; split <;> (try split) <;> simp
@[simp] theorem grantHead_pending (s : State) :
    (grantHead s).pending = s.pending := by unfold grantHead; split <;> (try split) <;> simp

@[simp] theorem grantsUpTo_powered (n : Nat) (s : State) :
    (grantsUpTo n s).powered = s.powered := by induction n generalizing s with | zero => rfl | succ n ih => unfold grantsUpTo; split <;> simp [ih]
@[simp] theorem grantsUpTo_params (n : Nat) (s : State) :
    (grantsUpTo n s).params = s.params := by induction n generalizing s with | zero => rfl | succ n ih => unfold grantsUpTo; split <;> simp [ih]
@[simp] theorem grantsUpTo_loops (n : Nat) (s : State) :
    (grantsUpTo n s).loops = s.loops := by induction n generalizing s with | zero => rfl | succ n ih => unfold grantsUpTo; split <;> simp [ih]
@[simp] theorem grantsUpTo_probes (n : Nat) (s : State) :
    (grantsUpTo n s).probes = s.probes := by induction n generalizing s with | zero => rfl | succ n ih => unfold grantsUpTo; split <;> simp [ih]
@[simp] theorem grantsUpTo_rooms (n : Nat) (s : State) :
    (grantsUpTo n s).rooms = s.rooms := by induction n generalizing s with | zero => rfl | succ n ih => unfold grantsUpTo; split <;> simp [ih]
@[simp] theorem grantsUpTo_seg (n : Nat) (s : State) :
    (grantsUpTo n s).seg = s.seg := by induction n generalizing s with | zero => rfl | succ n ih => unfold grantsUpTo; split <;> simp [ih]
@[simp] theorem grantsUpTo_toolRequest (n : Nat) (s : State) :
    (grantsUpTo n s).toolRequest = s.toolRequest := by induction n generalizing s with | zero => rfl | succ n ih => unfold grantsUpTo; split <;> simp [ih]
@[simp] theorem grantsUpTo_house (n : Nat) (s : State) :
    (grantsUpTo n s).house = s.house := by induction n generalizing s with | zero => rfl | succ n ih => unfold grantsUpTo; split <;> simp [ih]
@[simp] theorem grantsUpTo_store (n : Nat) (s : State) :
    (grantsUpTo n s).store = s.store := by induction n generalizing s with | zero => rfl | succ n ih => unfold grantsUpTo; split <;> simp [ih]
@[simp] theorem grantsUpTo_msPhase (n : Nat) (s : State) :
    (grantsUpTo n s).msPhase = s.msPhase := by induction n generalizing s with | zero => rfl | succ n ih => unfold grantsUpTo; split <;> simp [ih]
@[simp] theorem grantsUpTo_draws (n : Nat) (s : State) :
    (grantsUpTo n s).draws = s.draws := by induction n generalizing s with | zero => rfl | succ n ih => unfold grantsUpTo; split <;> simp [ih]
@[simp] theorem grantsUpTo_pending (n : Nat) (s : State) :
    (grantsUpTo n s).pending = s.pending := by induction n generalizing s with | zero => rfl | succ n ih => unfold grantsUpTo; split <;> simp [ih]

@[simp] theorem opportunity_powered (s : State) :
    (opportunity s).powered = s.powered := by simp [opportunity]
@[simp] theorem opportunity_params (s : State) :
    (opportunity s).params = s.params := by simp [opportunity]
@[simp] theorem opportunity_loops (s : State) :
    (opportunity s).loops = s.loops := by simp [opportunity]
@[simp] theorem opportunity_probes (s : State) :
    (opportunity s).probes = s.probes := by simp [opportunity]
@[simp] theorem opportunity_rooms (s : State) :
    (opportunity s).rooms = s.rooms := by simp [opportunity]
@[simp] theorem opportunity_seg (s : State) :
    (opportunity s).seg = s.seg := by simp [opportunity]
@[simp] theorem opportunity_toolRequest (s : State) :
    (opportunity s).toolRequest = s.toolRequest := by simp [opportunity]
@[simp] theorem opportunity_house (s : State) :
    (opportunity s).house = s.house := by simp [opportunity]
@[simp] theorem opportunity_store (s : State) :
    (opportunity s).store = s.store := by simp [opportunity]
@[simp] theorem opportunity_msPhase (s : State) :
    (opportunity s).msPhase = s.msPhase := by simp [opportunity]
@[simp] theorem opportunity_draws (s : State) :
    (opportunity s).draws = s.draws := by simp [opportunity]
@[simp] theorem opportunity_pending (s : State) :
    (opportunity s).pending = s.pending := by simp [opportunity]

@[simp] theorem releaseAndOffer_powered (sel : LoopIx → Bool) (s : State) :
    (releaseAndOffer sel s).powered = s.powered := by unfold releaseAndOffer; split <;> simp
@[simp] theorem releaseAndOffer_params (sel : LoopIx → Bool) (s : State) :
    (releaseAndOffer sel s).params = s.params := by unfold releaseAndOffer; split <;> simp
@[simp] theorem releaseAndOffer_loops (sel : LoopIx → Bool) (s : State) :
    (releaseAndOffer sel s).loops = s.loops := by unfold releaseAndOffer; split <;> simp
@[simp] theorem releaseAndOffer_probes (sel : LoopIx → Bool) (s : State) :
    (releaseAndOffer sel s).probes = s.probes := by unfold releaseAndOffer; split <;> simp
@[simp] theorem releaseAndOffer_rooms (sel : LoopIx → Bool) (s : State) :
    (releaseAndOffer sel s).rooms = s.rooms := by unfold releaseAndOffer; split <;> simp
@[simp] theorem releaseAndOffer_seg (sel : LoopIx → Bool) (s : State) :
    (releaseAndOffer sel s).seg = s.seg := by unfold releaseAndOffer; split <;> simp
@[simp] theorem releaseAndOffer_toolRequest (sel : LoopIx → Bool) (s : State) :
    (releaseAndOffer sel s).toolRequest = s.toolRequest := by unfold releaseAndOffer; split <;> simp
@[simp] theorem releaseAndOffer_house (sel : LoopIx → Bool) (s : State) :
    (releaseAndOffer sel s).house = s.house := by unfold releaseAndOffer; split <;> simp
@[simp] theorem releaseAndOffer_store (sel : LoopIx → Bool) (s : State) :
    (releaseAndOffer sel s).store = s.store := by unfold releaseAndOffer; split <;> simp
@[simp] theorem releaseAndOffer_msPhase (sel : LoopIx → Bool) (s : State) :
    (releaseAndOffer sel s).msPhase = s.msPhase := by unfold releaseAndOffer; split <;> simp
@[simp] theorem releaseAndOffer_draws (sel : LoopIx → Bool) (s : State) :
    (releaseAndOffer sel s).draws = s.draws := by unfold releaseAndOffer; split <;> simp
@[simp] theorem releaseAndOffer_pending (sel : LoopIx → Bool) (s : State) :
    (releaseAndOffer sel s).pending = s.pending := by unfold releaseAndOffer; split <;> simp

@[simp] theorem endTest_powered (s : State) :
    (endTest s).powered = s.powered := by unfold endTest; split <;> simp
@[simp] theorem endTest_params (s : State) :
    (endTest s).params = s.params := by unfold endTest; split <;> simp
@[simp] theorem endTest_loops (s : State) :
    (endTest s).loops = s.loops := by unfold endTest; split <;> simp
@[simp] theorem endTest_probes (s : State) :
    (endTest s).probes = s.probes := by unfold endTest; split <;> simp
@[simp] theorem endTest_rooms (s : State) :
    (endTest s).rooms = s.rooms := by unfold endTest; split <;> simp
@[simp] theorem endTest_seg (s : State) :
    (endTest s).seg = s.seg := by unfold endTest; split <;> simp
@[simp] theorem endTest_toolRequest (s : State) :
    (endTest s).toolRequest = s.toolRequest := by unfold endTest; split <;> simp
@[simp] theorem endTest_period (s : State) :
    (endTest s).period = s.period := by unfold endTest; split <;> simp
@[simp] theorem endTest_house (s : State) :
    (endTest s).house = s.house := by unfold endTest; split <;> simp
@[simp] theorem endTest_store (s : State) :
    (endTest s).store = s.store := by unfold endTest; split <;> simp
@[simp] theorem endTest_msPhase (s : State) :
    (endTest s).msPhase = s.msPhase := by unfold endTest; split <;> simp
@[simp] theorem endTest_draws (s : State) :
    (endTest s).draws = s.draws := by unfold endTest; split <;> simp
@[simp] theorem endTest_pending (s : State) :
    (endTest s).pending = s.pending := by unfold endTest; split <;> simp

@[simp] theorem endTestOn_powered (i : LoopIx) (s : State) :
    (endTestOn i s).powered = s.powered := by unfold endTestOn; split <;> (try split) <;> simp
@[simp] theorem endTestOn_params (i : LoopIx) (s : State) :
    (endTestOn i s).params = s.params := by unfold endTestOn; split <;> (try split) <;> simp
@[simp] theorem endTestOn_loops (i : LoopIx) (s : State) :
    (endTestOn i s).loops = s.loops := by unfold endTestOn; split <;> (try split) <;> simp
@[simp] theorem endTestOn_probes (i : LoopIx) (s : State) :
    (endTestOn i s).probes = s.probes := by unfold endTestOn; split <;> (try split) <;> simp
@[simp] theorem endTestOn_rooms (i : LoopIx) (s : State) :
    (endTestOn i s).rooms = s.rooms := by unfold endTestOn; split <;> (try split) <;> simp
@[simp] theorem endTestOn_seg (i : LoopIx) (s : State) :
    (endTestOn i s).seg = s.seg := by unfold endTestOn; split <;> (try split) <;> simp
@[simp] theorem endTestOn_toolRequest (i : LoopIx) (s : State) :
    (endTestOn i s).toolRequest = s.toolRequest := by unfold endTestOn; split <;> (try split) <;> simp
@[simp] theorem endTestOn_period (i : LoopIx) (s : State) :
    (endTestOn i s).period = s.period := by unfold endTestOn; split <;> (try split) <;> simp
@[simp] theorem endTestOn_house (i : LoopIx) (s : State) :
    (endTestOn i s).house = s.house := by unfold endTestOn; split <;> (try split) <;> simp
@[simp] theorem endTestOn_store (i : LoopIx) (s : State) :
    (endTestOn i s).store = s.store := by unfold endTestOn; split <;> (try split) <;> simp
@[simp] theorem endTestOn_msPhase (i : LoopIx) (s : State) :
    (endTestOn i s).msPhase = s.msPhase := by unfold endTestOn; split <;> (try split) <;> simp
@[simp] theorem endTestOn_draws (i : LoopIx) (s : State) :
    (endTestOn i s).draws = s.draws := by unfold endTestOn; split <;> (try split) <;> simp
@[simp] theorem endTestOn_pending (i : LoopIx) (s : State) :
    (endTestOn i s).pending = s.pending := by unfold endTestOn; split <;> (try split) <;> simp

@[simp] theorem classOff_powered (sel : LoopIx → Bool) (s : State) :
    (classOff sel s).powered = s.powered := rfl
@[simp] theorem classOff_params (sel : LoopIx → Bool) (s : State) :
    (classOff sel s).params = s.params := rfl
@[simp] theorem classOff_channels (sel : LoopIx → Bool) (s : State) :
    (classOff sel s).channels = s.channels := rfl
@[simp] theorem classOff_test (sel : LoopIx → Bool) (s : State) :
    (classOff sel s).test = s.test := rfl
@[simp] theorem classOff_probes (sel : LoopIx → Bool) (s : State) :
    (classOff sel s).probes = s.probes := rfl
@[simp] theorem classOff_rooms (sel : LoopIx → Bool) (s : State) :
    (classOff sel s).rooms = s.rooms := rfl
@[simp] theorem classOff_seg (sel : LoopIx → Bool) (s : State) :
    (classOff sel s).seg = s.seg := rfl
@[simp] theorem classOff_toolRequest (sel : LoopIx → Bool) (s : State) :
    (classOff sel s).toolRequest = s.toolRequest := rfl
@[simp] theorem classOff_period (sel : LoopIx → Bool) (s : State) :
    (classOff sel s).period = s.period := rfl
@[simp] theorem classOff_arb (sel : LoopIx → Bool) (s : State) :
    (classOff sel s).arb = s.arb := rfl
@[simp] theorem classOff_supply (sel : LoopIx → Bool) (s : State) :
    (classOff sel s).supply = s.supply := rfl
@[simp] theorem classOff_house (sel : LoopIx → Bool) (s : State) :
    (classOff sel s).house = s.house := rfl
@[simp] theorem classOff_store (sel : LoopIx → Bool) (s : State) :
    (classOff sel s).store = s.store := rfl
@[simp] theorem classOff_msPhase (sel : LoopIx → Bool) (s : State) :
    (classOff sel s).msPhase = s.msPhase := rfl
@[simp] theorem classOff_draws (sel : LoopIx → Bool) (s : State) :
    (classOff sel s).draws = s.draws := rfl
@[simp] theorem classOff_pending (sel : LoopIx → Bool) (s : State) :
    (classOff sel s).pending = s.pending := rfl

@[simp] theorem closeLoops_powered (sel : LoopIx → Bool) (s : State) :
    (closeLoops sel s).powered = s.powered := by simp [closeLoops]
@[simp] theorem closeLoops_params (sel : LoopIx → Bool) (s : State) :
    (closeLoops sel s).params = s.params := by simp [closeLoops]
@[simp] theorem closeLoops_probes (sel : LoopIx → Bool) (s : State) :
    (closeLoops sel s).probes = s.probes := by simp [closeLoops]
@[simp] theorem closeLoops_rooms (sel : LoopIx → Bool) (s : State) :
    (closeLoops sel s).rooms = s.rooms := by simp [closeLoops]
@[simp] theorem closeLoops_seg (sel : LoopIx → Bool) (s : State) :
    (closeLoops sel s).seg = s.seg := by simp [closeLoops]
@[simp] theorem closeLoops_toolRequest (sel : LoopIx → Bool) (s : State) :
    (closeLoops sel s).toolRequest = s.toolRequest := by simp [closeLoops]
@[simp] theorem closeLoops_house (sel : LoopIx → Bool) (s : State) :
    (closeLoops sel s).house = s.house := by simp [closeLoops]
@[simp] theorem closeLoops_store (sel : LoopIx → Bool) (s : State) :
    (closeLoops sel s).store = s.store := by simp [closeLoops]
@[simp] theorem closeLoops_msPhase (sel : LoopIx → Bool) (s : State) :
    (closeLoops sel s).msPhase = s.msPhase := by simp [closeLoops]
@[simp] theorem closeLoops_draws (sel : LoopIx → Bool) (s : State) :
    (closeLoops sel s).draws = s.draws := by simp [closeLoops]
@[simp] theorem closeLoops_pending (sel : LoopIx → Bool) (s : State) :
    (closeLoops sel s).pending = s.pending := by simp [closeLoops]

@[simp] theorem demandDrop_powered (rooms : RoomIx → Bool) (s : State) :
    (demandDrop rooms s).powered = s.powered := by unfold demandDrop; split <;> simp
@[simp] theorem demandDrop_params (rooms : RoomIx → Bool) (s : State) :
    (demandDrop rooms s).params = s.params := by unfold demandDrop; split <;> simp
@[simp] theorem demandDrop_probes (rooms : RoomIx → Bool) (s : State) :
    (demandDrop rooms s).probes = s.probes := by unfold demandDrop; split <;> simp
@[simp] theorem demandDrop_rooms (rooms : RoomIx → Bool) (s : State) :
    (demandDrop rooms s).rooms = s.rooms := by unfold demandDrop; split <;> simp
@[simp] theorem demandDrop_seg (rooms : RoomIx → Bool) (s : State) :
    (demandDrop rooms s).seg = s.seg := by unfold demandDrop; split <;> simp
@[simp] theorem demandDrop_toolRequest (rooms : RoomIx → Bool) (s : State) :
    (demandDrop rooms s).toolRequest = s.toolRequest := by unfold demandDrop; split <;> simp
@[simp] theorem demandDrop_house (rooms : RoomIx → Bool) (s : State) :
    (demandDrop rooms s).house = s.house := by unfold demandDrop; split <;> simp
@[simp] theorem demandDrop_store (rooms : RoomIx → Bool) (s : State) :
    (demandDrop rooms s).store = s.store := by unfold demandDrop; split <;> simp
@[simp] theorem demandDrop_msPhase (rooms : RoomIx → Bool) (s : State) :
    (demandDrop rooms s).msPhase = s.msPhase := by unfold demandDrop; split <;> simp
@[simp] theorem demandDrop_draws (rooms : RoomIx → Bool) (s : State) :
    (demandDrop rooms s).draws = s.draws := by unfold demandDrop; split <;> simp
@[simp] theorem demandDrop_pending (rooms : RoomIx → Bool) (s : State) :
    (demandDrop rooms s).pending = s.pending := by unfold demandDrop; split <;> simp

@[simp] theorem holdDrops_powered (rooms : RoomIx → Bool) (s : State) :
    (holdDrops rooms s).powered = s.powered := rfl
@[simp] theorem holdDrops_params (rooms : RoomIx → Bool) (s : State) :
    (holdDrops rooms s).params = s.params := rfl
@[simp] theorem holdDrops_loops (rooms : RoomIx → Bool) (s : State) :
    (holdDrops rooms s).loops = s.loops := rfl
@[simp] theorem holdDrops_channels (rooms : RoomIx → Bool) (s : State) :
    (holdDrops rooms s).channels = s.channels := rfl
@[simp] theorem holdDrops_test (rooms : RoomIx → Bool) (s : State) :
    (holdDrops rooms s).test = s.test := rfl
@[simp] theorem holdDrops_probes (rooms : RoomIx → Bool) (s : State) :
    (holdDrops rooms s).probes = s.probes := rfl
@[simp] theorem holdDrops_rooms (rooms : RoomIx → Bool) (s : State) :
    (holdDrops rooms s).rooms = s.rooms := rfl
@[simp] theorem holdDrops_seg (rooms : RoomIx → Bool) (s : State) :
    (holdDrops rooms s).seg = s.seg := rfl
@[simp] theorem holdDrops_toolRequest (rooms : RoomIx → Bool) (s : State) :
    (holdDrops rooms s).toolRequest = s.toolRequest := rfl
@[simp] theorem holdDrops_arb (rooms : RoomIx → Bool) (s : State) :
    (holdDrops rooms s).arb = s.arb := rfl
@[simp] theorem holdDrops_supply (rooms : RoomIx → Bool) (s : State) :
    (holdDrops rooms s).supply = s.supply := rfl
@[simp] theorem holdDrops_house (rooms : RoomIx → Bool) (s : State) :
    (holdDrops rooms s).house = s.house := rfl
@[simp] theorem holdDrops_store (rooms : RoomIx → Bool) (s : State) :
    (holdDrops rooms s).store = s.store := rfl
@[simp] theorem holdDrops_msPhase (rooms : RoomIx → Bool) (s : State) :
    (holdDrops rooms s).msPhase = s.msPhase := rfl
@[simp] theorem holdDrops_draws (rooms : RoomIx → Bool) (s : State) :
    (holdDrops rooms s).draws = s.draws := rfl
@[simp] theorem holdDrops_pending (rooms : RoomIx → Bool) (s : State) :
    (holdDrops rooms s).pending = s.pending := rfl

@[simp] theorem reportDrops_powered (rooms : RoomIx → Bool) (s : State) :
    (reportDrops rooms s).powered = s.powered := by unfold reportDrops; dsimp only; split <;> simp
@[simp] theorem reportDrops_params (rooms : RoomIx → Bool) (s : State) :
    (reportDrops rooms s).params = s.params := by unfold reportDrops; dsimp only; split <;> simp
@[simp] theorem reportDrops_probes (rooms : RoomIx → Bool) (s : State) :
    (reportDrops rooms s).probes = s.probes := by unfold reportDrops; dsimp only; split <;> simp
@[simp] theorem reportDrops_rooms (rooms : RoomIx → Bool) (s : State) :
    (reportDrops rooms s).rooms = s.rooms := by unfold reportDrops; dsimp only; split <;> simp
@[simp] theorem reportDrops_seg (rooms : RoomIx → Bool) (s : State) :
    (reportDrops rooms s).seg = s.seg := by unfold reportDrops; dsimp only; split <;> simp
@[simp] theorem reportDrops_toolRequest (rooms : RoomIx → Bool) (s : State) :
    (reportDrops rooms s).toolRequest = s.toolRequest := by unfold reportDrops; dsimp only; split <;> simp
@[simp] theorem reportDrops_house (rooms : RoomIx → Bool) (s : State) :
    (reportDrops rooms s).house = s.house := by unfold reportDrops; dsimp only; split <;> simp
@[simp] theorem reportDrops_store (rooms : RoomIx → Bool) (s : State) :
    (reportDrops rooms s).store = s.store := by unfold reportDrops; dsimp only; split <;> simp
@[simp] theorem reportDrops_msPhase (rooms : RoomIx → Bool) (s : State) :
    (reportDrops rooms s).msPhase = s.msPhase := by unfold reportDrops; dsimp only; split <;> simp
@[simp] theorem reportDrops_pending (rooms : RoomIx → Bool) (s : State) :
    (reportDrops rooms s).pending = s.pending := by unfold reportDrops; dsimp only; split <;> simp

@[simp] theorem disableLoop_powered (i : LoopIx) (s : State) :
    (disableLoop i s).powered = s.powered := by unfold disableLoop; split <;> simp
@[simp] theorem disableLoop_params (i : LoopIx) (s : State) :
    (disableLoop i s).params = s.params := by unfold disableLoop; split <;> simp
@[simp] theorem disableLoop_probes (i : LoopIx) (s : State) :
    (disableLoop i s).probes = s.probes := by unfold disableLoop; split <;> simp
@[simp] theorem disableLoop_rooms (i : LoopIx) (s : State) :
    (disableLoop i s).rooms = s.rooms := by unfold disableLoop; split <;> simp
@[simp] theorem disableLoop_seg (i : LoopIx) (s : State) :
    (disableLoop i s).seg = s.seg := by unfold disableLoop; split <;> simp
@[simp] theorem disableLoop_toolRequest (i : LoopIx) (s : State) :
    (disableLoop i s).toolRequest = s.toolRequest := by unfold disableLoop; split <;> simp
@[simp] theorem disableLoop_house (i : LoopIx) (s : State) :
    (disableLoop i s).house = s.house := by unfold disableLoop; split <;> simp
@[simp] theorem disableLoop_store (i : LoopIx) (s : State) :
    (disableLoop i s).store = s.store := by unfold disableLoop; split <;> simp
@[simp] theorem disableLoop_msPhase (i : LoopIx) (s : State) :
    (disableLoop i s).msPhase = s.msPhase := by unfold disableLoop; split <;> simp
@[simp] theorem disableLoop_draws (i : LoopIx) (s : State) :
    (disableLoop i s).draws = s.draws := by unfold disableLoop; split <;> simp
@[simp] theorem disableLoop_pending (i : LoopIx) (s : State) :
    (disableLoop i s).pending = s.pending := by unfold disableLoop; split <;> simp

@[simp] theorem faultChannel_powered (i : LoopIx) (c : Condition) (s : State) :
    (faultChannel i c s).powered = s.powered := by simp [faultChannel]
@[simp] theorem faultChannel_params (i : LoopIx) (c : Condition) (s : State) :
    (faultChannel i c s).params = s.params := by simp [faultChannel]
@[simp] theorem faultChannel_loops (i : LoopIx) (c : Condition) (s : State) :
    (faultChannel i c s).loops = s.loops := by simp [faultChannel]
@[simp] theorem faultChannel_probes (i : LoopIx) (c : Condition) (s : State) :
    (faultChannel i c s).probes = s.probes := by simp [faultChannel]
@[simp] theorem faultChannel_rooms (i : LoopIx) (c : Condition) (s : State) :
    (faultChannel i c s).rooms = s.rooms := by simp [faultChannel]
@[simp] theorem faultChannel_seg (i : LoopIx) (c : Condition) (s : State) :
    (faultChannel i c s).seg = s.seg := by simp [faultChannel]
@[simp] theorem faultChannel_toolRequest (i : LoopIx) (c : Condition) (s : State) :
    (faultChannel i c s).toolRequest = s.toolRequest := by simp [faultChannel]
@[simp] theorem faultChannel_house (i : LoopIx) (c : Condition) (s : State) :
    (faultChannel i c s).house = s.house := by simp [faultChannel]
@[simp] theorem faultChannel_store (i : LoopIx) (c : Condition) (s : State) :
    (faultChannel i c s).store = s.store := by simp [faultChannel]
@[simp] theorem faultChannel_msPhase (i : LoopIx) (c : Condition) (s : State) :
    (faultChannel i c s).msPhase = s.msPhase := by simp [faultChannel]
@[simp] theorem faultChannel_draws (i : LoopIx) (c : Condition) (s : State) :
    (faultChannel i c s).draws = s.draws := by simp [faultChannel]
@[simp] theorem faultChannel_pending (i : LoopIx) (c : Condition) (s : State) :
    (faultChannel i c s).pending = s.pending := by simp [faultChannel]

@[simp] theorem changeRooms_powered (f : RoomIx → Room → Room) (s : State) :
    (changeRooms f s).powered = s.powered := by simp [changeRooms]
@[simp] theorem changeRooms_params (f : RoomIx → Room → Room) (s : State) :
    (changeRooms f s).params = s.params := by simp [changeRooms]
@[simp] theorem changeRooms_probes (f : RoomIx → Room → Room) (s : State) :
    (changeRooms f s).probes = s.probes := by simp [changeRooms]
@[simp] theorem changeRooms_seg (f : RoomIx → Room → Room) (s : State) :
    (changeRooms f s).seg = s.seg := by simp [changeRooms]
@[simp] theorem changeRooms_toolRequest (f : RoomIx → Room → Room) (s : State) :
    (changeRooms f s).toolRequest = s.toolRequest := by simp [changeRooms]
@[simp] theorem changeRooms_house (f : RoomIx → Room → Room) (s : State) :
    (changeRooms f s).house = s.house := by simp [changeRooms]
@[simp] theorem changeRooms_store (f : RoomIx → Room → Room) (s : State) :
    (changeRooms f s).store = s.store := by simp [changeRooms]
@[simp] theorem changeRooms_msPhase (f : RoomIx → Room → Room) (s : State) :
    (changeRooms f s).msPhase = s.msPhase := by simp [changeRooms]
@[simp] theorem changeRooms_pending (f : RoomIx → Room → Room) (s : State) :
    (changeRooms f s).pending = s.pending := by simp [changeRooms]

@[simp] theorem changeRoom_powered (r : RoomIx) (f : Room → Room) (s : State) :
    (changeRoom r f s).powered = s.powered := by simp [changeRoom]
@[simp] theorem changeRoom_params (r : RoomIx) (f : Room → Room) (s : State) :
    (changeRoom r f s).params = s.params := by simp [changeRoom]
@[simp] theorem changeRoom_probes (r : RoomIx) (f : Room → Room) (s : State) :
    (changeRoom r f s).probes = s.probes := by simp [changeRoom]
@[simp] theorem changeRoom_seg (r : RoomIx) (f : Room → Room) (s : State) :
    (changeRoom r f s).seg = s.seg := by simp [changeRoom]
@[simp] theorem changeRoom_toolRequest (r : RoomIx) (f : Room → Room) (s : State) :
    (changeRoom r f s).toolRequest = s.toolRequest := by simp [changeRoom]
@[simp] theorem changeRoom_house (r : RoomIx) (f : Room → Room) (s : State) :
    (changeRoom r f s).house = s.house := by simp [changeRoom]
@[simp] theorem changeRoom_store (r : RoomIx) (f : Room → Room) (s : State) :
    (changeRoom r f s).store = s.store := by simp [changeRoom]
@[simp] theorem changeRoom_msPhase (r : RoomIx) (f : Room → Room) (s : State) :
    (changeRoom r f s).msPhase = s.msPhase := by simp [changeRoom]
@[simp] theorem changeRoom_pending (r : RoomIx) (f : Room → Room) (s : State) :
    (changeRoom r f s).pending = s.pending := by simp [changeRoom]

@[simp] theorem expireAges_powered (s : State) :
    (expireAges s).powered = s.powered := by simp [expireAges]
@[simp] theorem expireAges_params (s : State) :
    (expireAges s).params = s.params := by simp [expireAges]
@[simp] theorem expireAges_probes (s : State) :
    (expireAges s).probes = s.probes := by simp [expireAges]
@[simp] theorem expireAges_seg (s : State) :
    (expireAges s).seg = s.seg := by simp [expireAges]
@[simp] theorem expireAges_toolRequest (s : State) :
    (expireAges s).toolRequest = s.toolRequest := by simp [expireAges]
@[simp] theorem expireAges_house (s : State) :
    (expireAges s).house = s.house := by simp [expireAges]
@[simp] theorem expireAges_store (s : State) :
    (expireAges s).store = s.store := by simp [expireAges]
@[simp] theorem expireAges_msPhase (s : State) :
    (expireAges s).msPhase = s.msPhase := by simp [expireAges]
@[simp] theorem expireAges_pending (s : State) :
    (expireAges s).pending = s.pending := by simp [expireAges]

/-! ### Time -/

@[simp] theorem elapseSeconds_powered (k : Nat) (s : State) :
    (elapseSeconds k s).powered = s.powered := by simp [elapseSeconds]
@[simp] theorem elapseSeconds_params (k : Nat) (s : State) :
    (elapseSeconds k s).params = s.params := by simp [elapseSeconds]
@[simp] theorem elapseSeconds_loops (k : Nat) (s : State) :
    (elapseSeconds k s).loops = s.loops := by simp [elapseSeconds]
@[simp] theorem elapseSeconds_probes (k : Nat) (s : State) :
    (elapseSeconds k s).probes = s.probes := by simp [elapseSeconds]
@[simp] theorem elapseSeconds_toolRequest (k : Nat) (s : State) :
    (elapseSeconds k s).toolRequest = s.toolRequest := by simp [elapseSeconds]
@[simp] theorem elapseSeconds_house (k : Nat) (s : State) :
    (elapseSeconds k s).house = s.house := by simp [elapseSeconds]
@[simp] theorem elapseSeconds_msPhase (k : Nat) (s : State) :
    (elapseSeconds k s).msPhase = s.msPhase := by simp [elapseSeconds]
@[simp] theorem elapseSeconds_draws (k : Nat) (s : State) :
    (elapseSeconds k s).draws = s.draws := by simp [elapseSeconds]
@[simp] theorem elapseSeconds_pending (k : Nat) (s : State) :
    (elapseSeconds k s).pending = s.pending := by simp [elapseSeconds]

@[simp] theorem elapseMs_powered (n : Nat) (s : State) :
    (elapseMs n s).powered = s.powered := by simp [elapseMs]
@[simp] theorem elapseMs_params (n : Nat) (s : State) :
    (elapseMs n s).params = s.params := by simp [elapseMs]
@[simp] theorem elapseMs_loops (n : Nat) (s : State) :
    (elapseMs n s).loops = s.loops := by simp [elapseMs]
@[simp] theorem elapseMs_probes (n : Nat) (s : State) :
    (elapseMs n s).probes = s.probes := by simp [elapseMs]
@[simp] theorem elapseMs_toolRequest (n : Nat) (s : State) :
    (elapseMs n s).toolRequest = s.toolRequest := by simp [elapseMs]
@[simp] theorem elapseMs_draws (n : Nat) (s : State) :
    (elapseMs n s).draws = s.draws := by simp [elapseMs]
@[simp] theorem elapseMs_pending (n : Nat) (s : State) :
    (elapseMs n s).pending = s.pending := by simp [elapseMs]

@[simp] theorem elapse_powered (k : Nat) (s : State) :
    (elapse k s).powered = s.powered := by simp [elapse]
@[simp] theorem elapse_params (k : Nat) (s : State) :
    (elapse k s).params = s.params := by simp [elapse]
@[simp] theorem elapse_loops (k : Nat) (s : State) :
    (elapse k s).loops = s.loops := by simp [elapse]
@[simp] theorem elapse_probes (k : Nat) (s : State) :
    (elapse k s).probes = s.probes := by simp [elapse]
@[simp] theorem elapse_toolRequest (k : Nat) (s : State) :
    (elapse k s).toolRequest = s.toolRequest := by simp [elapse]
@[simp] theorem elapse_draws (k : Nat) (s : State) :
    (elapse k s).draws = s.draws := by simp [elapse]
@[simp] theorem elapse_pending (k : Nat) (s : State) :
    (elapse k s).pending = s.pending := by simp [elapse]

/-! ### The period -/

@[simp] theorem setMode_powered (m : Mode) (s : State) :
    (setMode m s).powered = s.powered := rfl
@[simp] theorem setMode_params (m : Mode) (s : State) :
    (setMode m s).params = s.params := rfl
@[simp] theorem setMode_loops (m : Mode) (s : State) :
    (setMode m s).loops = s.loops := rfl
@[simp] theorem setMode_channels (m : Mode) (s : State) :
    (setMode m s).channels = s.channels := rfl
@[simp] theorem setMode_test (m : Mode) (s : State) :
    (setMode m s).test = s.test := rfl
@[simp] theorem setMode_probes (m : Mode) (s : State) :
    (setMode m s).probes = s.probes := rfl
@[simp] theorem setMode_rooms (m : Mode) (s : State) :
    (setMode m s).rooms = s.rooms := rfl
@[simp] theorem setMode_seg (m : Mode) (s : State) :
    (setMode m s).seg = s.seg := rfl
@[simp] theorem setMode_toolRequest (m : Mode) (s : State) :
    (setMode m s).toolRequest = s.toolRequest := rfl
@[simp] theorem setMode_arb (m : Mode) (s : State) :
    (setMode m s).arb = s.arb := rfl
@[simp] theorem setMode_supply (m : Mode) (s : State) :
    (setMode m s).supply = s.supply := rfl
@[simp] theorem setMode_house (m : Mode) (s : State) :
    (setMode m s).house = s.house := rfl
@[simp] theorem setMode_store (m : Mode) (s : State) :
    (setMode m s).store = s.store := rfl
@[simp] theorem setMode_msPhase (m : Mode) (s : State) :
    (setMode m s).msPhase = s.msPhase := rfl
@[simp] theorem setMode_draws (m : Mode) (s : State) :
    (setMode m s).draws = s.draws := rfl
@[simp] theorem setMode_pending (m : Mode) (s : State) :
    (setMode m s).pending = s.pending := rfl

@[simp] theorem stopFlush_powered (s : State) :
    (stopFlush s).powered = s.powered := rfl
@[simp] theorem stopFlush_params (s : State) :
    (stopFlush s).params = s.params := rfl
@[simp] theorem stopFlush_loops (s : State) :
    (stopFlush s).loops = s.loops := rfl
@[simp] theorem stopFlush_channels (s : State) :
    (stopFlush s).channels = s.channels := rfl
@[simp] theorem stopFlush_test (s : State) :
    (stopFlush s).test = s.test := rfl
@[simp] theorem stopFlush_probes (s : State) :
    (stopFlush s).probes = s.probes := rfl
@[simp] theorem stopFlush_rooms (s : State) :
    (stopFlush s).rooms = s.rooms := rfl
@[simp] theorem stopFlush_seg (s : State) :
    (stopFlush s).seg = s.seg := rfl
@[simp] theorem stopFlush_toolRequest (s : State) :
    (stopFlush s).toolRequest = s.toolRequest := rfl
@[simp] theorem stopFlush_arb (s : State) :
    (stopFlush s).arb = s.arb := rfl
@[simp] theorem stopFlush_supply (s : State) :
    (stopFlush s).supply = s.supply := rfl
@[simp] theorem stopFlush_house (s : State) :
    (stopFlush s).house = s.house := rfl
@[simp] theorem stopFlush_store (s : State) :
    (stopFlush s).store = s.store := rfl
@[simp] theorem stopFlush_msPhase (s : State) :
    (stopFlush s).msPhase = s.msPhase := rfl
@[simp] theorem stopFlush_draws (s : State) :
    (stopFlush s).draws = s.draws := rfl
@[simp] theorem stopFlush_pending (s : State) :
    (stopFlush s).pending = s.pending := rfl

@[simp] theorem startFlush_powered (s : State) :
    (startFlush s).powered = s.powered := rfl
@[simp] theorem startFlush_params (s : State) :
    (startFlush s).params = s.params := rfl
@[simp] theorem startFlush_loops (s : State) :
    (startFlush s).loops = s.loops := rfl
@[simp] theorem startFlush_channels (s : State) :
    (startFlush s).channels = s.channels := rfl
@[simp] theorem startFlush_test (s : State) :
    (startFlush s).test = s.test := rfl
@[simp] theorem startFlush_probes (s : State) :
    (startFlush s).probes = s.probes := rfl
@[simp] theorem startFlush_rooms (s : State) :
    (startFlush s).rooms = s.rooms := rfl
@[simp] theorem startFlush_seg (s : State) :
    (startFlush s).seg = s.seg := rfl
@[simp] theorem startFlush_toolRequest (s : State) :
    (startFlush s).toolRequest = s.toolRequest := rfl
@[simp] theorem startFlush_arb (s : State) :
    (startFlush s).arb = s.arb := rfl
@[simp] theorem startFlush_supply (s : State) :
    (startFlush s).supply = s.supply := rfl
@[simp] theorem startFlush_house (s : State) :
    (startFlush s).house = s.house := rfl
@[simp] theorem startFlush_store (s : State) :
    (startFlush s).store = s.store := rfl
@[simp] theorem startFlush_msPhase (s : State) :
    (startFlush s).msPhase = s.msPhase := rfl
@[simp] theorem startFlush_draws (s : State) :
    (startFlush s).draws = s.draws := rfl
@[simp] theorem startFlush_pending (s : State) :
    (startFlush s).pending = s.pending := rfl

@[simp] theorem endLockout_powered (s : State) :
    (endLockout s).powered = s.powered := rfl
@[simp] theorem endLockout_params (s : State) :
    (endLockout s).params = s.params := rfl
@[simp] theorem endLockout_loops (s : State) :
    (endLockout s).loops = s.loops := rfl
@[simp] theorem endLockout_channels (s : State) :
    (endLockout s).channels = s.channels := rfl
@[simp] theorem endLockout_test (s : State) :
    (endLockout s).test = s.test := rfl
@[simp] theorem endLockout_probes (s : State) :
    (endLockout s).probes = s.probes := rfl
@[simp] theorem endLockout_rooms (s : State) :
    (endLockout s).rooms = s.rooms := rfl
@[simp] theorem endLockout_seg (s : State) :
    (endLockout s).seg = s.seg := rfl
@[simp] theorem endLockout_toolRequest (s : State) :
    (endLockout s).toolRequest = s.toolRequest := rfl
@[simp] theorem endLockout_period (s : State) :
    (endLockout s).period = s.period := rfl
@[simp] theorem endLockout_arb (s : State) :
    (endLockout s).arb = s.arb := rfl
@[simp] theorem endLockout_house (s : State) :
    (endLockout s).house = s.house := rfl
@[simp] theorem endLockout_store (s : State) :
    (endLockout s).store = s.store := rfl
@[simp] theorem endLockout_msPhase (s : State) :
    (endLockout s).msPhase = s.msPhase := rfl
@[simp] theorem endLockout_draws (s : State) :
    (endLockout s).draws = s.draws := rfl
@[simp] theorem endLockout_pending (s : State) :
    (endLockout s).pending = s.pending := rfl

@[simp] theorem detectOverheat_powered (s : State) :
    (detectOverheat s).powered = s.powered := by simp [detectOverheat]
@[simp] theorem detectOverheat_params (s : State) :
    (detectOverheat s).params = s.params := by simp [detectOverheat]
@[simp] theorem detectOverheat_loops (s : State) :
    (detectOverheat s).loops = s.loops := by simp [detectOverheat]
@[simp] theorem detectOverheat_probes (s : State) :
    (detectOverheat s).probes = s.probes := by simp [detectOverheat]
@[simp] theorem detectOverheat_rooms (s : State) :
    (detectOverheat s).rooms = s.rooms := by simp [detectOverheat]
@[simp] theorem detectOverheat_seg (s : State) :
    (detectOverheat s).seg = s.seg := by simp [detectOverheat]
@[simp] theorem detectOverheat_toolRequest (s : State) :
    (detectOverheat s).toolRequest = s.toolRequest := by simp [detectOverheat]
@[simp] theorem detectOverheat_house (s : State) :
    (detectOverheat s).house = s.house := by simp [detectOverheat]
@[simp] theorem detectOverheat_store (s : State) :
    (detectOverheat s).store = s.store := by simp [detectOverheat]
@[simp] theorem detectOverheat_msPhase (s : State) :
    (detectOverheat s).msPhase = s.msPhase := by simp [detectOverheat]
@[simp] theorem detectOverheat_draws (s : State) :
    (detectOverheat s).draws = s.draws := by simp [detectOverheat]
@[simp] theorem detectOverheat_pending (s : State) :
    (detectOverheat s).pending = s.pending := by simp [detectOverheat]

@[simp] theorem accumulate_powered (s : State) :
    (accumulate s).powered = s.powered := rfl
@[simp] theorem accumulate_params (s : State) :
    (accumulate s).params = s.params := rfl
@[simp] theorem accumulate_channels (s : State) :
    (accumulate s).channels = s.channels := rfl
@[simp] theorem accumulate_test (s : State) :
    (accumulate s).test = s.test := rfl
@[simp] theorem accumulate_probes (s : State) :
    (accumulate s).probes = s.probes := rfl
@[simp] theorem accumulate_rooms (s : State) :
    (accumulate s).rooms = s.rooms := rfl
@[simp] theorem accumulate_seg (s : State) :
    (accumulate s).seg = s.seg := rfl
@[simp] theorem accumulate_toolRequest (s : State) :
    (accumulate s).toolRequest = s.toolRequest := rfl
@[simp] theorem accumulate_arb (s : State) :
    (accumulate s).arb = s.arb := rfl
@[simp] theorem accumulate_supply (s : State) :
    (accumulate s).supply = s.supply := rfl
@[simp] theorem accumulate_house (s : State) :
    (accumulate s).house = s.house := rfl
@[simp] theorem accumulate_store (s : State) :
    (accumulate s).store = s.store := rfl
@[simp] theorem accumulate_msPhase (s : State) :
    (accumulate s).msPhase = s.msPhase := rfl
@[simp] theorem accumulate_draws (s : State) :
    (accumulate s).draws = s.draws := rfl
@[simp] theorem accumulate_pending (s : State) :
    (accumulate s).pending = s.pending := rfl

@[simp] theorem exitCheck_powered (s : State) :
    (exitCheck s).powered = s.powered := rfl
@[simp] theorem exitCheck_params (s : State) :
    (exitCheck s).params = s.params := rfl
@[simp] theorem exitCheck_loops (s : State) :
    (exitCheck s).loops = s.loops := rfl
@[simp] theorem exitCheck_channels (s : State) :
    (exitCheck s).channels = s.channels := rfl
@[simp] theorem exitCheck_test (s : State) :
    (exitCheck s).test = s.test := rfl
@[simp] theorem exitCheck_probes (s : State) :
    (exitCheck s).probes = s.probes := rfl
@[simp] theorem exitCheck_rooms (s : State) :
    (exitCheck s).rooms = s.rooms := rfl
@[simp] theorem exitCheck_seg (s : State) :
    (exitCheck s).seg = s.seg := rfl
@[simp] theorem exitCheck_toolRequest (s : State) :
    (exitCheck s).toolRequest = s.toolRequest := rfl
@[simp] theorem exitCheck_period (s : State) :
    (exitCheck s).period = s.period := rfl
@[simp] theorem exitCheck_arb (s : State) :
    (exitCheck s).arb = s.arb := rfl
@[simp] theorem exitCheck_house (s : State) :
    (exitCheck s).house = s.house := rfl
@[simp] theorem exitCheck_store (s : State) :
    (exitCheck s).store = s.store := rfl
@[simp] theorem exitCheck_msPhase (s : State) :
    (exitCheck s).msPhase = s.msPhase := rfl
@[simp] theorem exitCheck_draws (s : State) :
    (exitCheck s).draws = s.draws := rfl
@[simp] theorem exitCheck_pending (s : State) :
    (exitCheck s).pending = s.pending := rfl

@[simp] theorem supplyCheck_powered (s : State) :
    (supplyCheck s).powered = s.powered := by unfold supplyCheck; split <;> (try split) <;> simp
@[simp] theorem supplyCheck_params (s : State) :
    (supplyCheck s).params = s.params := by unfold supplyCheck; split <;> (try split) <;> simp
@[simp] theorem supplyCheck_loops (s : State) :
    (supplyCheck s).loops = s.loops := by unfold supplyCheck; split <;> (try split) <;> simp
@[simp] theorem supplyCheck_probes (s : State) :
    (supplyCheck s).probes = s.probes := by unfold supplyCheck; split <;> (try split) <;> simp
@[simp] theorem supplyCheck_rooms (s : State) :
    (supplyCheck s).rooms = s.rooms := by unfold supplyCheck; split <;> (try split) <;> simp
@[simp] theorem supplyCheck_seg (s : State) :
    (supplyCheck s).seg = s.seg := by unfold supplyCheck; split <;> (try split) <;> simp
@[simp] theorem supplyCheck_toolRequest (s : State) :
    (supplyCheck s).toolRequest = s.toolRequest := by unfold supplyCheck; split <;> (try split) <;> simp
@[simp] theorem supplyCheck_house (s : State) :
    (supplyCheck s).house = s.house := by unfold supplyCheck; split <;> (try split) <;> simp
@[simp] theorem supplyCheck_store (s : State) :
    (supplyCheck s).store = s.store := by unfold supplyCheck; split <;> (try split) <;> simp
@[simp] theorem supplyCheck_msPhase (s : State) :
    (supplyCheck s).msPhase = s.msPhase := by unfold supplyCheck; split <;> (try split) <;> simp
@[simp] theorem supplyCheck_draws (s : State) :
    (supplyCheck s).draws = s.draws := by unfold supplyCheck; split <;> (try split) <;> simp
@[simp] theorem supplyCheck_pending (s : State) :
    (supplyCheck s).pending = s.pending := by unfold supplyCheck; split <;> (try split) <;> simp

@[simp] theorem plainTick_powered (s : State) :
    (plainTick s).powered = s.powered := by simp [plainTick]
@[simp] theorem plainTick_params (s : State) :
    (plainTick s).params = s.params := by simp [plainTick]
@[simp] theorem plainTick_probes (s : State) :
    (plainTick s).probes = s.probes := by simp [plainTick]
@[simp] theorem plainTick_rooms (s : State) :
    (plainTick s).rooms = s.rooms := by simp [plainTick]
@[simp] theorem plainTick_seg (s : State) :
    (plainTick s).seg = s.seg := by simp [plainTick]
@[simp] theorem plainTick_toolRequest (s : State) :
    (plainTick s).toolRequest = s.toolRequest := by simp [plainTick]
@[simp] theorem plainTick_house (s : State) :
    (plainTick s).house = s.house := by simp [plainTick]
@[simp] theorem plainTick_store (s : State) :
    (plainTick s).store = s.store := by simp [plainTick]
@[simp] theorem plainTick_msPhase (s : State) :
    (plainTick s).msPhase = s.msPhase := by simp [plainTick]
@[simp] theorem plainTick_draws (s : State) :
    (plainTick s).draws = s.draws := by simp [plainTick]
@[simp] theorem plainTick_pending (s : State) :
    (plainTick s).pending = s.pending := by simp [plainTick]

@[simp] theorem closeOut_powered (s : State) :
    (closeOut s).powered = s.powered := by simp [closeOut]
@[simp] theorem closeOut_params (s : State) :
    (closeOut s).params = s.params := by simp [closeOut]
@[simp] theorem closeOut_loops (s : State) :
    (closeOut s).loops = s.loops := by simp [closeOut]
@[simp] theorem closeOut_probes (s : State) :
    (closeOut s).probes = s.probes := by simp [closeOut]
@[simp] theorem closeOut_rooms (s : State) :
    (closeOut s).rooms = s.rooms := by simp [closeOut]
@[simp] theorem closeOut_seg (s : State) :
    (closeOut s).seg = s.seg := by simp [closeOut]
@[simp] theorem closeOut_toolRequest (s : State) :
    (closeOut s).toolRequest = s.toolRequest := by simp [closeOut]
@[simp] theorem closeOut_house (s : State) :
    (closeOut s).house = s.house := by simp [closeOut]
@[simp] theorem closeOut_store (s : State) :
    (closeOut s).store = s.store := by simp [closeOut]
@[simp] theorem closeOut_msPhase (s : State) :
    (closeOut s).msPhase = s.msPhase := by simp [closeOut]
@[simp] theorem closeOut_draws (s : State) :
    (closeOut s).draws = s.draws := by simp [closeOut]
@[simp] theorem closeOut_pending (s : State) :
    (closeOut s).pending = s.pending := by simp [closeOut]

@[simp] theorem recordSummary_powered (b : Bool) (s : State) :
    (recordSummary b s).powered = s.powered := rfl
@[simp] theorem recordSummary_params (b : Bool) (s : State) :
    (recordSummary b s).params = s.params := rfl
@[simp] theorem recordSummary_loops (b : Bool) (s : State) :
    (recordSummary b s).loops = s.loops := rfl
@[simp] theorem recordSummary_channels (b : Bool) (s : State) :
    (recordSummary b s).channels = s.channels := rfl
@[simp] theorem recordSummary_test (b : Bool) (s : State) :
    (recordSummary b s).test = s.test := rfl
@[simp] theorem recordSummary_probes (b : Bool) (s : State) :
    (recordSummary b s).probes = s.probes := rfl
@[simp] theorem recordSummary_rooms (b : Bool) (s : State) :
    (recordSummary b s).rooms = s.rooms := rfl
@[simp] theorem recordSummary_seg (b : Bool) (s : State) :
    (recordSummary b s).seg = s.seg := rfl
@[simp] theorem recordSummary_toolRequest (b : Bool) (s : State) :
    (recordSummary b s).toolRequest = s.toolRequest := rfl
@[simp] theorem recordSummary_arb (b : Bool) (s : State) :
    (recordSummary b s).arb = s.arb := rfl
@[simp] theorem recordSummary_supply (b : Bool) (s : State) :
    (recordSummary b s).supply = s.supply := rfl
@[simp] theorem recordSummary_house (b : Bool) (s : State) :
    (recordSummary b s).house = s.house := rfl
@[simp] theorem recordSummary_store (b : Bool) (s : State) :
    (recordSummary b s).store = s.store := rfl
@[simp] theorem recordSummary_msPhase (b : Bool) (s : State) :
    (recordSummary b s).msPhase = s.msPhase := rfl
@[simp] theorem recordSummary_draws (b : Bool) (s : State) :
    (recordSummary b s).draws = s.draws := rfl
@[simp] theorem recordSummary_pending (b : Bool) (s : State) :
    (recordSummary b s).pending = s.pending := rfl

@[simp] theorem writeClasses_powered (v : Variant) (t : Timing) (h : Bank Held 16) (s : State) :
    (writeClasses v t h s).powered = s.powered := rfl
@[simp] theorem writeClasses_params (v : Variant) (t : Timing) (h : Bank Held 16) (s : State) :
    (writeClasses v t h s).params = s.params := rfl
@[simp] theorem writeClasses_channels (v : Variant) (t : Timing) (h : Bank Held 16) (s : State) :
    (writeClasses v t h s).channels = s.channels := rfl
@[simp] theorem writeClasses_test (v : Variant) (t : Timing) (h : Bank Held 16) (s : State) :
    (writeClasses v t h s).test = s.test := rfl
@[simp] theorem writeClasses_probes (v : Variant) (t : Timing) (h : Bank Held 16) (s : State) :
    (writeClasses v t h s).probes = s.probes := rfl
@[simp] theorem writeClasses_rooms (v : Variant) (t : Timing) (h : Bank Held 16) (s : State) :
    (writeClasses v t h s).rooms = s.rooms := rfl
@[simp] theorem writeClasses_seg (v : Variant) (t : Timing) (h : Bank Held 16) (s : State) :
    (writeClasses v t h s).seg = s.seg := rfl
@[simp] theorem writeClasses_toolRequest (v : Variant) (t : Timing) (h : Bank Held 16) (s : State) :
    (writeClasses v t h s).toolRequest = s.toolRequest := rfl
@[simp] theorem writeClasses_period (v : Variant) (t : Timing) (h : Bank Held 16) (s : State) :
    (writeClasses v t h s).period = s.period := rfl
@[simp] theorem writeClasses_arb (v : Variant) (t : Timing) (h : Bank Held 16) (s : State) :
    (writeClasses v t h s).arb = s.arb := rfl
@[simp] theorem writeClasses_supply (v : Variant) (t : Timing) (h : Bank Held 16) (s : State) :
    (writeClasses v t h s).supply = s.supply := rfl
@[simp] theorem writeClasses_house (v : Variant) (t : Timing) (h : Bank Held 16) (s : State) :
    (writeClasses v t h s).house = s.house := rfl
@[simp] theorem writeClasses_store (v : Variant) (t : Timing) (h : Bank Held 16) (s : State) :
    (writeClasses v t h s).store = s.store := rfl
@[simp] theorem writeClasses_msPhase (v : Variant) (t : Timing) (h : Bank Held 16) (s : State) :
    (writeClasses v t h s).msPhase = s.msPhase := rfl
@[simp] theorem writeClasses_draws (v : Variant) (t : Timing) (h : Bank Held 16) (s : State) :
    (writeClasses v t h s).draws = s.draws := rfl
@[simp] theorem writeClasses_pending (v : Variant) (t : Timing) (h : Bank Held 16) (s : State) :
    (writeClasses v t h s).pending = s.pending := rfl

@[simp] theorem writeFactors_powered (h : Bank Held 16) (s : State) :
    (writeFactors h s).powered = s.powered := rfl
@[simp] theorem writeFactors_params (h : Bank Held 16) (s : State) :
    (writeFactors h s).params = s.params := rfl
@[simp] theorem writeFactors_channels (h : Bank Held 16) (s : State) :
    (writeFactors h s).channels = s.channels := rfl
@[simp] theorem writeFactors_test (h : Bank Held 16) (s : State) :
    (writeFactors h s).test = s.test := rfl
@[simp] theorem writeFactors_probes (h : Bank Held 16) (s : State) :
    (writeFactors h s).probes = s.probes := rfl
@[simp] theorem writeFactors_rooms (h : Bank Held 16) (s : State) :
    (writeFactors h s).rooms = s.rooms := rfl
@[simp] theorem writeFactors_seg (h : Bank Held 16) (s : State) :
    (writeFactors h s).seg = s.seg := rfl
@[simp] theorem writeFactors_toolRequest (h : Bank Held 16) (s : State) :
    (writeFactors h s).toolRequest = s.toolRequest := rfl
@[simp] theorem writeFactors_period (h : Bank Held 16) (s : State) :
    (writeFactors h s).period = s.period := rfl
@[simp] theorem writeFactors_arb (h : Bank Held 16) (s : State) :
    (writeFactors h s).arb = s.arb := rfl
@[simp] theorem writeFactors_supply (h : Bank Held 16) (s : State) :
    (writeFactors h s).supply = s.supply := rfl
@[simp] theorem writeFactors_house (h : Bank Held 16) (s : State) :
    (writeFactors h s).house = s.house := rfl
@[simp] theorem writeFactors_store (h : Bank Held 16) (s : State) :
    (writeFactors h s).store = s.store := rfl
@[simp] theorem writeFactors_msPhase (h : Bank Held 16) (s : State) :
    (writeFactors h s).msPhase = s.msPhase := rfl
@[simp] theorem writeFactors_draws (h : Bank Held 16) (s : State) :
    (writeFactors h s).draws = s.draws := rfl
@[simp] theorem writeFactors_pending (h : Bank Held 16) (s : State) :
    (writeFactors h s).pending = s.pending := rfl

@[simp] theorem writeSteps_powered (h : Bank Held 16) (s : State) :
    (writeSteps h s).powered = s.powered := rfl
@[simp] theorem writeSteps_params (h : Bank Held 16) (s : State) :
    (writeSteps h s).params = s.params := rfl
@[simp] theorem writeSteps_loops (h : Bank Held 16) (s : State) :
    (writeSteps h s).loops = s.loops := rfl
@[simp] theorem writeSteps_channels (h : Bank Held 16) (s : State) :
    (writeSteps h s).channels = s.channels := rfl
@[simp] theorem writeSteps_test (h : Bank Held 16) (s : State) :
    (writeSteps h s).test = s.test := rfl
@[simp] theorem writeSteps_probes (h : Bank Held 16) (s : State) :
    (writeSteps h s).probes = s.probes := rfl
@[simp] theorem writeSteps_rooms (h : Bank Held 16) (s : State) :
    (writeSteps h s).rooms = s.rooms := rfl
@[simp] theorem writeSteps_seg (h : Bank Held 16) (s : State) :
    (writeSteps h s).seg = s.seg := rfl
@[simp] theorem writeSteps_toolRequest (h : Bank Held 16) (s : State) :
    (writeSteps h s).toolRequest = s.toolRequest := rfl
@[simp] theorem writeSteps_arb (h : Bank Held 16) (s : State) :
    (writeSteps h s).arb = s.arb := rfl
@[simp] theorem writeSteps_supply (h : Bank Held 16) (s : State) :
    (writeSteps h s).supply = s.supply := rfl
@[simp] theorem writeSteps_house (h : Bank Held 16) (s : State) :
    (writeSteps h s).house = s.house := rfl
@[simp] theorem writeSteps_store (h : Bank Held 16) (s : State) :
    (writeSteps h s).store = s.store := rfl
@[simp] theorem writeSteps_msPhase (h : Bank Held 16) (s : State) :
    (writeSteps h s).msPhase = s.msPhase := rfl
@[simp] theorem writeSteps_draws (h : Bank Held 16) (s : State) :
    (writeSteps h s).draws = s.draws := rfl
@[simp] theorem writeSteps_pending (h : Bank Held 16) (s : State) :
    (writeSteps h s).pending = s.pending := rfl

@[simp] theorem updateBias_powered (s : State) :
    (updateBias s).powered = s.powered := rfl
@[simp] theorem updateBias_params (s : State) :
    (updateBias s).params = s.params := rfl
@[simp] theorem updateBias_loops (s : State) :
    (updateBias s).loops = s.loops := rfl
@[simp] theorem updateBias_channels (s : State) :
    (updateBias s).channels = s.channels := rfl
@[simp] theorem updateBias_test (s : State) :
    (updateBias s).test = s.test := rfl
@[simp] theorem updateBias_probes (s : State) :
    (updateBias s).probes = s.probes := rfl
@[simp] theorem updateBias_rooms (s : State) :
    (updateBias s).rooms = s.rooms := rfl
@[simp] theorem updateBias_seg (s : State) :
    (updateBias s).seg = s.seg := rfl
@[simp] theorem updateBias_toolRequest (s : State) :
    (updateBias s).toolRequest = s.toolRequest := rfl
@[simp] theorem updateBias_period (s : State) :
    (updateBias s).period = s.period := rfl
@[simp] theorem updateBias_arb (s : State) :
    (updateBias s).arb = s.arb := rfl
@[simp] theorem updateBias_house (s : State) :
    (updateBias s).house = s.house := rfl
@[simp] theorem updateBias_store (s : State) :
    (updateBias s).store = s.store := rfl
@[simp] theorem updateBias_msPhase (s : State) :
    (updateBias s).msPhase = s.msPhase := rfl
@[simp] theorem updateBias_draws (s : State) :
    (updateBias s).draws = s.draws := rfl
@[simp] theorem updateBias_pending (s : State) :
    (updateBias s).pending = s.pending := rfl

@[simp] theorem runPass_powered (v : Variant) (h : Bank Held 16) (s : State) :
    (runPass v h s).powered = s.powered := by unfold runPass; split <;> simp
@[simp] theorem runPass_params (v : Variant) (h : Bank Held 16) (s : State) :
    (runPass v h s).params = s.params := by unfold runPass; split <;> simp
@[simp] theorem runPass_channels (v : Variant) (h : Bank Held 16) (s : State) :
    (runPass v h s).channels = s.channels := by unfold runPass; split <;> simp
@[simp] theorem runPass_test (v : Variant) (h : Bank Held 16) (s : State) :
    (runPass v h s).test = s.test := by unfold runPass; split <;> simp
@[simp] theorem runPass_probes (v : Variant) (h : Bank Held 16) (s : State) :
    (runPass v h s).probes = s.probes := by unfold runPass; split <;> simp
@[simp] theorem runPass_rooms (v : Variant) (h : Bank Held 16) (s : State) :
    (runPass v h s).rooms = s.rooms := by unfold runPass; split <;> simp
@[simp] theorem runPass_seg (v : Variant) (h : Bank Held 16) (s : State) :
    (runPass v h s).seg = s.seg := by unfold runPass; split <;> simp
@[simp] theorem runPass_toolRequest (v : Variant) (h : Bank Held 16) (s : State) :
    (runPass v h s).toolRequest = s.toolRequest := by unfold runPass; split <;> simp
@[simp] theorem runPass_arb (v : Variant) (h : Bank Held 16) (s : State) :
    (runPass v h s).arb = s.arb := by unfold runPass; split <;> simp
@[simp] theorem runPass_supply (v : Variant) (h : Bank Held 16) (s : State) :
    (runPass v h s).supply = s.supply := by unfold runPass; split <;> simp
@[simp] theorem runPass_house (v : Variant) (h : Bank Held 16) (s : State) :
    (runPass v h s).house = s.house := by unfold runPass; split <;> simp
@[simp] theorem runPass_store (v : Variant) (h : Bank Held 16) (s : State) :
    (runPass v h s).store = s.store := by unfold runPass; split <;> simp
@[simp] theorem runPass_msPhase (v : Variant) (h : Bank Held 16) (s : State) :
    (runPass v h s).msPhase = s.msPhase := by unfold runPass; split <;> simp
@[simp] theorem runPass_draws (v : Variant) (h : Bank Held 16) (s : State) :
    (runPass v h s).draws = s.draws := by unfold runPass; split <;> simp
@[simp] theorem runPass_pending (v : Variant) (h : Bank Held 16) (s : State) :
    (runPass v h s).pending = s.pending := by unfold runPass; split <;> simp

@[simp] theorem stagePass_powered (v : Variant) (h : Bank Held 16) (s : State) :
    (stagePass v h s).powered = s.powered := by unfold stagePass; dsimp only; split <;> simp
@[simp] theorem stagePass_params (v : Variant) (h : Bank Held 16) (s : State) :
    (stagePass v h s).params = s.params := by unfold stagePass; dsimp only; split <;> simp
@[simp] theorem stagePass_channels (v : Variant) (h : Bank Held 16) (s : State) :
    (stagePass v h s).channels = s.channels := by unfold stagePass; dsimp only; split <;> simp
@[simp] theorem stagePass_test (v : Variant) (h : Bank Held 16) (s : State) :
    (stagePass v h s).test = s.test := by unfold stagePass; dsimp only; split <;> simp
@[simp] theorem stagePass_probes (v : Variant) (h : Bank Held 16) (s : State) :
    (stagePass v h s).probes = s.probes := by unfold stagePass; dsimp only; split <;> simp
@[simp] theorem stagePass_rooms (v : Variant) (h : Bank Held 16) (s : State) :
    (stagePass v h s).rooms = s.rooms := by unfold stagePass; dsimp only; split <;> simp
@[simp] theorem stagePass_seg (v : Variant) (h : Bank Held 16) (s : State) :
    (stagePass v h s).seg = s.seg := by unfold stagePass; dsimp only; split <;> simp
@[simp] theorem stagePass_toolRequest (v : Variant) (h : Bank Held 16) (s : State) :
    (stagePass v h s).toolRequest = s.toolRequest := by unfold stagePass; dsimp only; split <;> simp
@[simp] theorem stagePass_arb (v : Variant) (h : Bank Held 16) (s : State) :
    (stagePass v h s).arb = s.arb := by unfold stagePass; dsimp only; split <;> simp
@[simp] theorem stagePass_house (v : Variant) (h : Bank Held 16) (s : State) :
    (stagePass v h s).house = s.house := by unfold stagePass; dsimp only; split <;> simp
@[simp] theorem stagePass_store (v : Variant) (h : Bank Held 16) (s : State) :
    (stagePass v h s).store = s.store := by unfold stagePass; dsimp only; split <;> simp
@[simp] theorem stagePass_msPhase (v : Variant) (h : Bank Held 16) (s : State) :
    (stagePass v h s).msPhase = s.msPhase := by unfold stagePass; dsimp only; split <;> simp
@[simp] theorem stagePass_draws (v : Variant) (h : Bank Held 16) (s : State) :
    (stagePass v h s).draws = s.draws := by unfold stagePass; dsimp only; split <;> simp
@[simp] theorem stagePass_pending (v : Variant) (h : Bank Held 16) (s : State) :
    (stagePass v h s).pending = s.pending := by unfold stagePass; dsimp only; split <;> simp

@[simp] theorem stageLatch_powered (v : Variant) (h : Bank Held 16) (s : State) :
    (stageLatch v h s).powered = s.powered := by unfold stageLatch; dsimp only; split <;> simp
@[simp] theorem stageLatch_params (v : Variant) (h : Bank Held 16) (s : State) :
    (stageLatch v h s).params = s.params := by unfold stageLatch; dsimp only; split <;> simp
@[simp] theorem stageLatch_channels (v : Variant) (h : Bank Held 16) (s : State) :
    (stageLatch v h s).channels = s.channels := by unfold stageLatch; dsimp only; split <;> simp
@[simp] theorem stageLatch_test (v : Variant) (h : Bank Held 16) (s : State) :
    (stageLatch v h s).test = s.test := by unfold stageLatch; dsimp only; split <;> simp
@[simp] theorem stageLatch_probes (v : Variant) (h : Bank Held 16) (s : State) :
    (stageLatch v h s).probes = s.probes := by unfold stageLatch; dsimp only; split <;> simp
@[simp] theorem stageLatch_rooms (v : Variant) (h : Bank Held 16) (s : State) :
    (stageLatch v h s).rooms = s.rooms := by unfold stageLatch; dsimp only; split <;> simp
@[simp] theorem stageLatch_seg (v : Variant) (h : Bank Held 16) (s : State) :
    (stageLatch v h s).seg = s.seg := by unfold stageLatch; dsimp only; split <;> simp
@[simp] theorem stageLatch_toolRequest (v : Variant) (h : Bank Held 16) (s : State) :
    (stageLatch v h s).toolRequest = s.toolRequest := by unfold stageLatch; dsimp only; split <;> simp
@[simp] theorem stageLatch_arb (v : Variant) (h : Bank Held 16) (s : State) :
    (stageLatch v h s).arb = s.arb := by unfold stageLatch; dsimp only; split <;> simp
@[simp] theorem stageLatch_supply (v : Variant) (h : Bank Held 16) (s : State) :
    (stageLatch v h s).supply = s.supply := by unfold stageLatch; dsimp only; split <;> simp
@[simp] theorem stageLatch_house (v : Variant) (h : Bank Held 16) (s : State) :
    (stageLatch v h s).house = s.house := by unfold stageLatch; dsimp only; split <;> simp
@[simp] theorem stageLatch_store (v : Variant) (h : Bank Held 16) (s : State) :
    (stageLatch v h s).store = s.store := by unfold stageLatch; dsimp only; split <;> simp
@[simp] theorem stageLatch_msPhase (v : Variant) (h : Bank Held 16) (s : State) :
    (stageLatch v h s).msPhase = s.msPhase := by unfold stageLatch; dsimp only; split <;> simp
@[simp] theorem stageLatch_draws (v : Variant) (h : Bank Held 16) (s : State) :
    (stageLatch v h s).draws = s.draws := by unfold stageLatch; dsimp only; split <;> simp
@[simp] theorem stageLatch_pending (v : Variant) (h : Bank Held 16) (s : State) :
    (stageLatch v h s).pending = s.pending := by unfold stageLatch; dsimp only; split <;> simp

@[simp] theorem carryOver_powered (s : State) :
    (carryOver s).powered = s.powered := by simp [carryOver]
@[simp] theorem carryOver_params (s : State) :
    (carryOver s).params = s.params := by simp [carryOver]
@[simp] theorem carryOver_loops (s : State) :
    (carryOver s).loops = s.loops := by simp [carryOver]
@[simp] theorem carryOver_probes (s : State) :
    (carryOver s).probes = s.probes := by simp [carryOver]
@[simp] theorem carryOver_rooms (s : State) :
    (carryOver s).rooms = s.rooms := by simp [carryOver]
@[simp] theorem carryOver_seg (s : State) :
    (carryOver s).seg = s.seg := by simp [carryOver]
@[simp] theorem carryOver_toolRequest (s : State) :
    (carryOver s).toolRequest = s.toolRequest := by simp [carryOver]
@[simp] theorem carryOver_period (s : State) :
    (carryOver s).period = s.period := by simp [carryOver]
@[simp] theorem carryOver_arb (s : State) :
    (carryOver s).arb = s.arb := by simp [carryOver]
@[simp] theorem carryOver_house (s : State) :
    (carryOver s).house = s.house := by simp [carryOver]
@[simp] theorem carryOver_store (s : State) :
    (carryOver s).store = s.store := by simp [carryOver]
@[simp] theorem carryOver_msPhase (s : State) :
    (carryOver s).msPhase = s.msPhase := by simp [carryOver]
@[simp] theorem carryOver_draws (s : State) :
    (carryOver s).draws = s.draws := by simp [carryOver]
@[simp] theorem carryOver_pending (s : State) :
    (carryOver s).pending = s.pending := by simp [carryOver]

@[simp] theorem buildPlan_powered (s : State) :
    (buildPlan s).powered = s.powered := rfl
@[simp] theorem buildPlan_params (s : State) :
    (buildPlan s).params = s.params := rfl
@[simp] theorem buildPlan_loops (s : State) :
    (buildPlan s).loops = s.loops := rfl
@[simp] theorem buildPlan_channels (s : State) :
    (buildPlan s).channels = s.channels := rfl
@[simp] theorem buildPlan_test (s : State) :
    (buildPlan s).test = s.test := rfl
@[simp] theorem buildPlan_probes (s : State) :
    (buildPlan s).probes = s.probes := rfl
@[simp] theorem buildPlan_rooms (s : State) :
    (buildPlan s).rooms = s.rooms := rfl
@[simp] theorem buildPlan_seg (s : State) :
    (buildPlan s).seg = s.seg := rfl
@[simp] theorem buildPlan_toolRequest (s : State) :
    (buildPlan s).toolRequest = s.toolRequest := rfl
@[simp] theorem buildPlan_period (s : State) :
    (buildPlan s).period = s.period := rfl
@[simp] theorem buildPlan_supply (s : State) :
    (buildPlan s).supply = s.supply := rfl
@[simp] theorem buildPlan_house (s : State) :
    (buildPlan s).house = s.house := rfl
@[simp] theorem buildPlan_store (s : State) :
    (buildPlan s).store = s.store := rfl
@[simp] theorem buildPlan_msPhase (s : State) :
    (buildPlan s).msPhase = s.msPhase := rfl
@[simp] theorem buildPlan_draws (s : State) :
    (buildPlan s).draws = s.draws := rfl
@[simp] theorem buildPlan_pending (s : State) :
    (buildPlan s).pending = s.pending := rfl

@[simp] theorem joinDue_powered (s : State) :
    (joinDue s).powered = s.powered := rfl
@[simp] theorem joinDue_params (s : State) :
    (joinDue s).params = s.params := rfl
@[simp] theorem joinDue_loops (s : State) :
    (joinDue s).loops = s.loops := rfl
@[simp] theorem joinDue_channels (s : State) :
    (joinDue s).channels = s.channels := rfl
@[simp] theorem joinDue_test (s : State) :
    (joinDue s).test = s.test := rfl
@[simp] theorem joinDue_probes (s : State) :
    (joinDue s).probes = s.probes := rfl
@[simp] theorem joinDue_rooms (s : State) :
    (joinDue s).rooms = s.rooms := rfl
@[simp] theorem joinDue_seg (s : State) :
    (joinDue s).seg = s.seg := rfl
@[simp] theorem joinDue_toolRequest (s : State) :
    (joinDue s).toolRequest = s.toolRequest := rfl
@[simp] theorem joinDue_period (s : State) :
    (joinDue s).period = s.period := rfl
@[simp] theorem joinDue_supply (s : State) :
    (joinDue s).supply = s.supply := rfl
@[simp] theorem joinDue_house (s : State) :
    (joinDue s).house = s.house := rfl
@[simp] theorem joinDue_store (s : State) :
    (joinDue s).store = s.store := rfl
@[simp] theorem joinDue_msPhase (s : State) :
    (joinDue s).msPhase = s.msPhase := rfl
@[simp] theorem joinDue_draws (s : State) :
    (joinDue s).draws = s.draws := rfl
@[simp] theorem joinDue_pending (s : State) :
    (joinDue s).pending = s.pending := rfl

@[simp] theorem openPeriod_powered (s : State) :
    (openPeriod s).powered = s.powered := rfl
@[simp] theorem openPeriod_params (s : State) :
    (openPeriod s).params = s.params := rfl
@[simp] theorem openPeriod_test (s : State) :
    (openPeriod s).test = s.test := rfl
@[simp] theorem openPeriod_probes (s : State) :
    (openPeriod s).probes = s.probes := rfl
@[simp] theorem openPeriod_rooms (s : State) :
    (openPeriod s).rooms = s.rooms := rfl
@[simp] theorem openPeriod_seg (s : State) :
    (openPeriod s).seg = s.seg := rfl
@[simp] theorem openPeriod_toolRequest (s : State) :
    (openPeriod s).toolRequest = s.toolRequest := rfl
@[simp] theorem openPeriod_arb (s : State) :
    (openPeriod s).arb = s.arb := rfl
@[simp] theorem openPeriod_supply (s : State) :
    (openPeriod s).supply = s.supply := rfl
@[simp] theorem openPeriod_house (s : State) :
    (openPeriod s).house = s.house := rfl
@[simp] theorem openPeriod_store (s : State) :
    (openPeriod s).store = s.store := rfl
@[simp] theorem openPeriod_msPhase (s : State) :
    (openPeriod s).msPhase = s.msPhase := rfl
@[simp] theorem openPeriod_draws (s : State) :
    (openPeriod s).draws = s.draws := rfl
@[simp] theorem openPeriod_pending (s : State) :
    (openPeriod s).pending = s.pending := rfl

@[simp] theorem newPeriod_powered (s : State) :
    (newPeriod s).powered = s.powered := by simp [newPeriod]
@[simp] theorem newPeriod_params (s : State) :
    (newPeriod s).params = s.params := by simp [newPeriod]
@[simp] theorem newPeriod_probes (s : State) :
    (newPeriod s).probes = s.probes := by simp [newPeriod]
@[simp] theorem newPeriod_rooms (s : State) :
    (newPeriod s).rooms = s.rooms := by simp [newPeriod]
@[simp] theorem newPeriod_seg (s : State) :
    (newPeriod s).seg = s.seg := by simp [newPeriod]
@[simp] theorem newPeriod_toolRequest (s : State) :
    (newPeriod s).toolRequest = s.toolRequest := by simp [newPeriod]
@[simp] theorem newPeriod_house (s : State) :
    (newPeriod s).house = s.house := by simp [newPeriod]
@[simp] theorem newPeriod_store (s : State) :
    (newPeriod s).store = s.store := by simp [newPeriod]
@[simp] theorem newPeriod_msPhase (s : State) :
    (newPeriod s).msPhase = s.msPhase := by simp [newPeriod]
@[simp] theorem newPeriod_draws (s : State) :
    (newPeriod s).draws = s.draws := by simp [newPeriod]
@[simp] theorem newPeriod_pending (s : State) :
    (newPeriod s).pending = s.pending := by simp [newPeriod]

@[simp] theorem planPeriod_powered (v : Variant) (s : State) :
    (planPeriod v s).powered = s.powered := by simp [planPeriod]
@[simp] theorem planPeriod_params (v : Variant) (s : State) :
    (planPeriod v s).params = s.params := by simp [planPeriod]
@[simp] theorem planPeriod_probes (v : Variant) (s : State) :
    (planPeriod v s).probes = s.probes := by simp [planPeriod]
@[simp] theorem planPeriod_rooms (v : Variant) (s : State) :
    (planPeriod v s).rooms = s.rooms := by simp [planPeriod]
@[simp] theorem planPeriod_seg (v : Variant) (s : State) :
    (planPeriod v s).seg = s.seg := by simp [planPeriod]
@[simp] theorem planPeriod_toolRequest (v : Variant) (s : State) :
    (planPeriod v s).toolRequest = s.toolRequest := by simp [planPeriod]
@[simp] theorem planPeriod_house (v : Variant) (s : State) :
    (planPeriod v s).house = s.house := by simp [planPeriod]
@[simp] theorem planPeriod_store (v : Variant) (s : State) :
    (planPeriod v s).store = s.store := by simp [planPeriod]
@[simp] theorem planPeriod_msPhase (v : Variant) (s : State) :
    (planPeriod v s).msPhase = s.msPhase := by simp [planPeriod]
@[simp] theorem planPeriod_draws (v : Variant) (s : State) :
    (planPeriod v s).draws = s.draws := by simp [planPeriod]
@[simp] theorem planPeriod_pending (v : Variant) (s : State) :
    (planPeriod v s).pending = s.pending := by simp [planPeriod]

@[simp] theorem forcedBoundary_powered (m : Mode) (s : State) :
    (forcedBoundary m s).powered = s.powered := by unfold forcedBoundary; dsimp only; split <;> split <;> simp
@[simp] theorem forcedBoundary_params (m : Mode) (s : State) :
    (forcedBoundary m s).params = s.params := by unfold forcedBoundary; dsimp only; split <;> split <;> simp
@[simp] theorem forcedBoundary_probes (m : Mode) (s : State) :
    (forcedBoundary m s).probes = s.probes := by unfold forcedBoundary; dsimp only; split <;> split <;> simp
@[simp] theorem forcedBoundary_rooms (m : Mode) (s : State) :
    (forcedBoundary m s).rooms = s.rooms := by unfold forcedBoundary; dsimp only; split <;> split <;> simp
@[simp] theorem forcedBoundary_seg (m : Mode) (s : State) :
    (forcedBoundary m s).seg = s.seg := by unfold forcedBoundary; dsimp only; split <;> split <;> simp
@[simp] theorem forcedBoundary_toolRequest (m : Mode) (s : State) :
    (forcedBoundary m s).toolRequest = s.toolRequest := by unfold forcedBoundary; dsimp only; split <;> split <;> simp
@[simp] theorem forcedBoundary_house (m : Mode) (s : State) :
    (forcedBoundary m s).house = s.house := by unfold forcedBoundary; dsimp only; split <;> split <;> simp
@[simp] theorem forcedBoundary_store (m : Mode) (s : State) :
    (forcedBoundary m s).store = s.store := by unfold forcedBoundary; dsimp only; split <;> split <;> simp
@[simp] theorem forcedBoundary_msPhase (m : Mode) (s : State) :
    (forcedBoundary m s).msPhase = s.msPhase := by unfold forcedBoundary; dsimp only; split <;> split <;> simp
@[simp] theorem forcedBoundary_draws (m : Mode) (s : State) :
    (forcedBoundary m s).draws = s.draws := by unfold forcedBoundary; dsimp only; split <;> split <;> simp
@[simp] theorem forcedBoundary_pending (m : Mode) (s : State) :
    (forcedBoundary m s).pending = s.pending := by unfold forcedBoundary; dsimp only; split <;> split <;> simp

@[simp] theorem closePeriod_powered (s : State) :
    (closePeriod s).powered = s.powered := by simp [closePeriod]
@[simp] theorem closePeriod_params (s : State) :
    (closePeriod s).params = s.params := by simp [closePeriod]
@[simp] theorem closePeriod_loops (s : State) :
    (closePeriod s).loops = s.loops := by simp [closePeriod]
@[simp] theorem closePeriod_probes (s : State) :
    (closePeriod s).probes = s.probes := by simp [closePeriod]
@[simp] theorem closePeriod_rooms (s : State) :
    (closePeriod s).rooms = s.rooms := by simp [closePeriod]
@[simp] theorem closePeriod_seg (s : State) :
    (closePeriod s).seg = s.seg := by simp [closePeriod]
@[simp] theorem closePeriod_toolRequest (s : State) :
    (closePeriod s).toolRequest = s.toolRequest := by simp [closePeriod]
@[simp] theorem closePeriod_house (s : State) :
    (closePeriod s).house = s.house := by simp [closePeriod]
@[simp] theorem closePeriod_store (s : State) :
    (closePeriod s).store = s.store := by simp [closePeriod]
@[simp] theorem closePeriod_msPhase (s : State) :
    (closePeriod s).msPhase = s.msPhase := by simp [closePeriod]
@[simp] theorem closePeriod_draws (s : State) :
    (closePeriod s).draws = s.draws := by simp [closePeriod]
@[simp] theorem closePeriod_pending (s : State) :
    (closePeriod s).pending = s.pending := by simp [closePeriod]

@[simp] theorem stopManifold_powered (s : State) :
    (stopManifold s).powered = s.powered := by unfold stopManifold; dsimp only; split <;> simp
@[simp] theorem stopManifold_params (s : State) :
    (stopManifold s).params = s.params := by unfold stopManifold; dsimp only; split <;> simp
@[simp] theorem stopManifold_probes (s : State) :
    (stopManifold s).probes = s.probes := by unfold stopManifold; dsimp only; split <;> simp
@[simp] theorem stopManifold_rooms (s : State) :
    (stopManifold s).rooms = s.rooms := by unfold stopManifold; dsimp only; split <;> simp
@[simp] theorem stopManifold_seg (s : State) :
    (stopManifold s).seg = s.seg := by unfold stopManifold; dsimp only; split <;> simp
@[simp] theorem stopManifold_toolRequest (s : State) :
    (stopManifold s).toolRequest = s.toolRequest := by unfold stopManifold; dsimp only; split <;> simp
@[simp] theorem stopManifold_house (s : State) :
    (stopManifold s).house = s.house := by unfold stopManifold; dsimp only; split <;> simp
@[simp] theorem stopManifold_store (s : State) :
    (stopManifold s).store = s.store := by unfold stopManifold; dsimp only; split <;> simp
@[simp] theorem stopManifold_msPhase (s : State) :
    (stopManifold s).msPhase = s.msPhase := by unfold stopManifold; dsimp only; split <;> simp
@[simp] theorem stopManifold_draws (s : State) :
    (stopManifold s).draws = s.draws := by unfold stopManifold; dsimp only; split <;> simp
@[simp] theorem stopManifold_pending (s : State) :
    (stopManifold s).pending = s.pending := by unfold stopManifold; dsimp only; split <;> simp

/-! ### The store and the tables -/

@[simp] theorem beginSave_powered (s : State) :
    (beginSave s).powered = s.powered := rfl
@[simp] theorem beginSave_params (s : State) :
    (beginSave s).params = s.params := rfl
@[simp] theorem beginSave_loops (s : State) :
    (beginSave s).loops = s.loops := rfl
@[simp] theorem beginSave_channels (s : State) :
    (beginSave s).channels = s.channels := rfl
@[simp] theorem beginSave_test (s : State) :
    (beginSave s).test = s.test := rfl
@[simp] theorem beginSave_probes (s : State) :
    (beginSave s).probes = s.probes := rfl
@[simp] theorem beginSave_rooms (s : State) :
    (beginSave s).rooms = s.rooms := rfl
@[simp] theorem beginSave_seg (s : State) :
    (beginSave s).seg = s.seg := rfl
@[simp] theorem beginSave_toolRequest (s : State) :
    (beginSave s).toolRequest = s.toolRequest := rfl
@[simp] theorem beginSave_period (s : State) :
    (beginSave s).period = s.period := rfl
@[simp] theorem beginSave_arb (s : State) :
    (beginSave s).arb = s.arb := rfl
@[simp] theorem beginSave_supply (s : State) :
    (beginSave s).supply = s.supply := rfl
@[simp] theorem beginSave_house (s : State) :
    (beginSave s).house = s.house := rfl
@[simp] theorem beginSave_msPhase (s : State) :
    (beginSave s).msPhase = s.msPhase := rfl
@[simp] theorem beginSave_draws (s : State) :
    (beginSave s).draws = s.draws := rfl
@[simp] theorem beginSave_pending (s : State) :
    (beginSave s).pending = s.pending := rfl

@[simp] theorem completeSave_powered (s : State) :
    (completeSave s).powered = s.powered := by unfold completeSave; split <;> simp
@[simp] theorem completeSave_params (s : State) :
    (completeSave s).params = s.params := by unfold completeSave; split <;> simp
@[simp] theorem completeSave_loops (s : State) :
    (completeSave s).loops = s.loops := by unfold completeSave; split <;> simp
@[simp] theorem completeSave_channels (s : State) :
    (completeSave s).channels = s.channels := by unfold completeSave; split <;> simp
@[simp] theorem completeSave_test (s : State) :
    (completeSave s).test = s.test := by unfold completeSave; split <;> simp
@[simp] theorem completeSave_probes (s : State) :
    (completeSave s).probes = s.probes := by unfold completeSave; split <;> simp
@[simp] theorem completeSave_rooms (s : State) :
    (completeSave s).rooms = s.rooms := by unfold completeSave; split <;> simp
@[simp] theorem completeSave_seg (s : State) :
    (completeSave s).seg = s.seg := by unfold completeSave; split <;> simp
@[simp] theorem completeSave_toolRequest (s : State) :
    (completeSave s).toolRequest = s.toolRequest := by unfold completeSave; split <;> simp
@[simp] theorem completeSave_period (s : State) :
    (completeSave s).period = s.period := by unfold completeSave; split <;> simp
@[simp] theorem completeSave_arb (s : State) :
    (completeSave s).arb = s.arb := by unfold completeSave; split <;> simp
@[simp] theorem completeSave_supply (s : State) :
    (completeSave s).supply = s.supply := by unfold completeSave; split <;> simp
@[simp] theorem completeSave_house (s : State) :
    (completeSave s).house = s.house := by unfold completeSave; split <;> simp
@[simp] theorem completeSave_msPhase (s : State) :
    (completeSave s).msPhase = s.msPhase := by unfold completeSave; split <;> simp
@[simp] theorem completeSave_draws (s : State) :
    (completeSave s).draws = s.draws := by unfold completeSave; split <;> simp
@[simp] theorem completeSave_pending (s : State) :
    (completeSave s).pending = s.pending := by unfold completeSave; split <;> simp

@[simp] theorem cutSave_powered (s : State) :
    (cutSave s).powered = s.powered := rfl
@[simp] theorem cutSave_params (s : State) :
    (cutSave s).params = s.params := rfl
@[simp] theorem cutSave_loops (s : State) :
    (cutSave s).loops = s.loops := rfl
@[simp] theorem cutSave_channels (s : State) :
    (cutSave s).channels = s.channels := rfl
@[simp] theorem cutSave_test (s : State) :
    (cutSave s).test = s.test := rfl
@[simp] theorem cutSave_probes (s : State) :
    (cutSave s).probes = s.probes := rfl
@[simp] theorem cutSave_rooms (s : State) :
    (cutSave s).rooms = s.rooms := rfl
@[simp] theorem cutSave_seg (s : State) :
    (cutSave s).seg = s.seg := rfl
@[simp] theorem cutSave_toolRequest (s : State) :
    (cutSave s).toolRequest = s.toolRequest := rfl
@[simp] theorem cutSave_period (s : State) :
    (cutSave s).period = s.period := rfl
@[simp] theorem cutSave_arb (s : State) :
    (cutSave s).arb = s.arb := rfl
@[simp] theorem cutSave_supply (s : State) :
    (cutSave s).supply = s.supply := rfl
@[simp] theorem cutSave_house (s : State) :
    (cutSave s).house = s.house := rfl
@[simp] theorem cutSave_msPhase (s : State) :
    (cutSave s).msPhase = s.msPhase := rfl
@[simp] theorem cutSave_draws (s : State) :
    (cutSave s).draws = s.draws := rfl
@[simp] theorem cutSave_pending (s : State) :
    (cutSave s).pending = s.pending := rfl

@[simp] theorem passReport_powered (s : State) :
    (passReport s).powered = s.powered := by unfold passReport; dsimp only; (repeat' split) <;> simp
@[simp] theorem passReport_params (s : State) :
    (passReport s).params = s.params := by unfold passReport; dsimp only; (repeat' split) <;> simp
@[simp] theorem passReport_loops (s : State) :
    (passReport s).loops = s.loops := by unfold passReport; dsimp only; (repeat' split) <;> simp
@[simp] theorem passReport_channels (s : State) :
    (passReport s).channels = s.channels := by unfold passReport; dsimp only; (repeat' split) <;> simp
@[simp] theorem passReport_test (s : State) :
    (passReport s).test = s.test := by unfold passReport; dsimp only; (repeat' split) <;> simp
@[simp] theorem passReport_probes (s : State) :
    (passReport s).probes = s.probes := by unfold passReport; dsimp only; (repeat' split) <;> simp
@[simp] theorem passReport_rooms (s : State) :
    (passReport s).rooms = s.rooms := by unfold passReport; dsimp only; (repeat' split) <;> simp
@[simp] theorem passReport_seg (s : State) :
    (passReport s).seg = s.seg := by unfold passReport; dsimp only; (repeat' split) <;> simp
@[simp] theorem passReport_toolRequest (s : State) :
    (passReport s).toolRequest = s.toolRequest := by unfold passReport; dsimp only; (repeat' split) <;> simp
@[simp] theorem passReport_period (s : State) :
    (passReport s).period = s.period := by unfold passReport; dsimp only; (repeat' split) <;> simp
@[simp] theorem passReport_arb (s : State) :
    (passReport s).arb = s.arb := by unfold passReport; dsimp only; (repeat' split) <;> simp
@[simp] theorem passReport_supply (s : State) :
    (passReport s).supply = s.supply := by unfold passReport; dsimp only; (repeat' split) <;> simp
@[simp] theorem passReport_house (s : State) :
    (passReport s).house = s.house := by unfold passReport; dsimp only; (repeat' split) <;> simp
@[simp] theorem passReport_msPhase (s : State) :
    (passReport s).msPhase = s.msPhase := by unfold passReport; dsimp only; (repeat' split) <;> simp
@[simp] theorem passReport_draws (s : State) :
    (passReport s).draws = s.draws := by unfold passReport; dsimp only; (repeat' split) <;> simp
@[simp] theorem passReport_pending (s : State) :
    (passReport s).pending = s.pending := by unfold passReport; dsimp only; (repeat' split) <;> simp

@[simp] theorem installTables_powered (t : Tables) (s : State) :
    (installTables t s).powered = s.powered := rfl
@[simp] theorem installTables_channels (t : Tables) (s : State) :
    (installTables t s).channels = s.channels := rfl
@[simp] theorem installTables_test (t : Tables) (s : State) :
    (installTables t s).test = s.test := rfl
@[simp] theorem installTables_seg (t : Tables) (s : State) :
    (installTables t s).seg = s.seg := rfl
@[simp] theorem installTables_toolRequest (t : Tables) (s : State) :
    (installTables t s).toolRequest = s.toolRequest := rfl
@[simp] theorem installTables_period (t : Tables) (s : State) :
    (installTables t s).period = s.period := rfl
@[simp] theorem installTables_arb (t : Tables) (s : State) :
    (installTables t s).arb = s.arb := rfl
@[simp] theorem installTables_supply (t : Tables) (s : State) :
    (installTables t s).supply = s.supply := rfl
@[simp] theorem installTables_house (t : Tables) (s : State) :
    (installTables t s).house = s.house := rfl
@[simp] theorem installTables_store (t : Tables) (s : State) :
    (installTables t s).store = s.store := rfl
@[simp] theorem installTables_msPhase (t : Tables) (s : State) :
    (installTables t s).msPhase = s.msPhase := rfl
@[simp] theorem installTables_draws (t : Tables) (s : State) :
    (installTables t s).draws = s.draws := rfl
@[simp] theorem installTables_pending (t : Tables) (s : State) :
    (installTables t s).pending = s.pending := rfl

@[simp] theorem loadImage_powered (s : State) :
    (loadImage s).powered = s.powered := by unfold loadImage; split <;> simp
@[simp] theorem loadImage_channels (s : State) :
    (loadImage s).channels = s.channels := by unfold loadImage; split <;> simp
@[simp] theorem loadImage_test (s : State) :
    (loadImage s).test = s.test := by unfold loadImage; split <;> simp
@[simp] theorem loadImage_seg (s : State) :
    (loadImage s).seg = s.seg := by unfold loadImage; split <;> simp
@[simp] theorem loadImage_toolRequest (s : State) :
    (loadImage s).toolRequest = s.toolRequest := by unfold loadImage; split <;> simp
@[simp] theorem loadImage_period (s : State) :
    (loadImage s).period = s.period := by unfold loadImage; split <;> simp
@[simp] theorem loadImage_arb (s : State) :
    (loadImage s).arb = s.arb := by unfold loadImage; split <;> simp
@[simp] theorem loadImage_supply (s : State) :
    (loadImage s).supply = s.supply := by unfold loadImage; split <;> simp
@[simp] theorem loadImage_house (s : State) :
    (loadImage s).house = s.house := by unfold loadImage; split <;> simp
@[simp] theorem loadImage_msPhase (s : State) :
    (loadImage s).msPhase = s.msPhase := by unfold loadImage; split <;> simp
@[simp] theorem loadImage_draws (s : State) :
    (loadImage s).draws = s.draws := by unfold loadImage; split <;> simp
@[simp] theorem loadImage_pending (s : State) :
    (loadImage s).pending = s.pending := by unfold loadImage; split <;> simp

/-! ### Ticks and boundaries -/

@[simp] theorem boundaryAfterTick_powered (b : Bool) (s : State) :
    (boundaryAfterTick b s).powered = s.powered := by unfold boundaryAfterTick; split <;> (try split) <;> simp
@[simp] theorem boundaryAfterTick_params (b : Bool) (s : State) :
    (boundaryAfterTick b s).params = s.params := by unfold boundaryAfterTick; split <;> (try split) <;> simp
@[simp] theorem boundaryAfterTick_probes (b : Bool) (s : State) :
    (boundaryAfterTick b s).probes = s.probes := by unfold boundaryAfterTick; split <;> (try split) <;> simp
@[simp] theorem boundaryAfterTick_rooms (b : Bool) (s : State) :
    (boundaryAfterTick b s).rooms = s.rooms := by unfold boundaryAfterTick; split <;> (try split) <;> simp
@[simp] theorem boundaryAfterTick_seg (b : Bool) (s : State) :
    (boundaryAfterTick b s).seg = s.seg := by unfold boundaryAfterTick; split <;> (try split) <;> simp
@[simp] theorem boundaryAfterTick_toolRequest (b : Bool) (s : State) :
    (boundaryAfterTick b s).toolRequest = s.toolRequest := by unfold boundaryAfterTick; split <;> (try split) <;> simp
@[simp] theorem boundaryAfterTick_house (b : Bool) (s : State) :
    (boundaryAfterTick b s).house = s.house := by unfold boundaryAfterTick; split <;> (try split) <;> simp
@[simp] theorem boundaryAfterTick_msPhase (b : Bool) (s : State) :
    (boundaryAfterTick b s).msPhase = s.msPhase := by unfold boundaryAfterTick; split <;> (try split) <;> simp
@[simp] theorem boundaryAfterTick_draws (b : Bool) (s : State) :
    (boundaryAfterTick b s).draws = s.draws := by unfold boundaryAfterTick; split <;> (try split) <;> simp
@[simp] theorem boundaryAfterTick_pending (b : Bool) (s : State) :
    (boundaryAfterTick b s).pending = s.pending := by unfold boundaryAfterTick; split <;> (try split) <;> simp

@[simp] theorem boundary_powered (s : State) :
    (boundary s).powered = s.powered := by simp [boundary]
@[simp] theorem boundary_params (s : State) :
    (boundary s).params = s.params := by simp [boundary]
@[simp] theorem boundary_probes (s : State) :
    (boundary s).probes = s.probes := by simp [boundary]
@[simp] theorem boundary_rooms (s : State) :
    (boundary s).rooms = s.rooms := by simp [boundary]
@[simp] theorem boundary_seg (s : State) :
    (boundary s).seg = s.seg := by simp [boundary]
@[simp] theorem boundary_toolRequest (s : State) :
    (boundary s).toolRequest = s.toolRequest := by simp [boundary]
@[simp] theorem boundary_house (s : State) :
    (boundary s).house = s.house := by simp [boundary]
@[simp] theorem boundary_msPhase (s : State) :
    (boundary s).msPhase = s.msPhase := by simp [boundary]
@[simp] theorem boundary_draws (s : State) :
    (boundary s).draws = s.draws := by simp [boundary]
@[simp] theorem boundary_pending (s : State) :
    (boundary s).pending = s.pending := by simp [boundary]

@[simp] theorem tick_powered (s : State) :
    (tick s).powered = s.powered := by unfold tick; dsimp only; split <;> (try split) <;> (try split) <;> simp
@[simp] theorem tick_params (s : State) :
    (tick s).params = s.params := by unfold tick; dsimp only; split <;> (try split) <;> (try split) <;> simp
@[simp] theorem tick_probes (s : State) :
    (tick s).probes = s.probes := by unfold tick; dsimp only; split <;> (try split) <;> (try split) <;> simp
@[simp] theorem tick_rooms (s : State) :
    (tick s).rooms = s.rooms := by unfold tick; dsimp only; split <;> (try split) <;> (try split) <;> simp
@[simp] theorem tick_seg (s : State) :
    (tick s).seg = s.seg := by unfold tick; dsimp only; split <;> (try split) <;> (try split) <;> simp
@[simp] theorem tick_toolRequest (s : State) :
    (tick s).toolRequest = s.toolRequest := by unfold tick; dsimp only; split <;> (try split) <;> (try split) <;> simp
@[simp] theorem tick_house (s : State) :
    (tick s).house = s.house := by unfold tick; dsimp only; split <;> (try split) <;> (try split) <;> simp
@[simp] theorem tick_store (s : State) :
    (tick s).store = s.store := by unfold tick; dsimp only; split <;> (try split) <;> (try split) <;> simp
@[simp] theorem tick_msPhase (s : State) :
    (tick s).msPhase = s.msPhase := by unfold tick; dsimp only; split <;> (try split) <;> (try split) <;> simp
@[simp] theorem tick_draws (s : State) :
    (tick s).draws = s.draws := by unfold tick; dsimp only; split <;> (try split) <;> (try split) <;> simp
@[simp] theorem tick_pending (s : State) :
    (tick s).pending = s.pending := by unfold tick; dsimp only; split <;> (try split) <;> (try split) <;> simp

@[simp] theorem takeTicks_powered (n : Nat) (s : State) :
    (takeTicks n s).powered = s.powered := by induction n generalizing s with | zero => rfl | succ n ih => unfold takeTicks; split <;> simp [ih]
@[simp] theorem takeTicks_params (n : Nat) (s : State) :
    (takeTicks n s).params = s.params := by induction n generalizing s with | zero => rfl | succ n ih => unfold takeTicks; split <;> simp [ih]
@[simp] theorem takeTicks_probes (n : Nat) (s : State) :
    (takeTicks n s).probes = s.probes := by induction n generalizing s with | zero => rfl | succ n ih => unfold takeTicks; split <;> simp [ih]
@[simp] theorem takeTicks_rooms (n : Nat) (s : State) :
    (takeTicks n s).rooms = s.rooms := by induction n generalizing s with | zero => rfl | succ n ih => unfold takeTicks; split <;> simp [ih]
@[simp] theorem takeTicks_seg (n : Nat) (s : State) :
    (takeTicks n s).seg = s.seg := by induction n generalizing s with | zero => rfl | succ n ih => unfold takeTicks; split <;> simp [ih]
@[simp] theorem takeTicks_toolRequest (n : Nat) (s : State) :
    (takeTicks n s).toolRequest = s.toolRequest := by induction n generalizing s with | zero => rfl | succ n ih => unfold takeTicks; split <;> simp [ih]
@[simp] theorem takeTicks_house (n : Nat) (s : State) :
    (takeTicks n s).house = s.house := by induction n generalizing s with | zero => rfl | succ n ih => unfold takeTicks; split <;> simp [ih]
@[simp] theorem takeTicks_store (n : Nat) (s : State) :
    (takeTicks n s).store = s.store := by induction n generalizing s with | zero => rfl | succ n ih => unfold takeTicks; split <;> simp [ih]
@[simp] theorem takeTicks_msPhase (n : Nat) (s : State) :
    (takeTicks n s).msPhase = s.msPhase := by induction n generalizing s with | zero => rfl | succ n ih => unfold takeTicks; split <;> simp [ih]
@[simp] theorem takeTicks_draws (n : Nat) (s : State) :
    (takeTicks n s).draws = s.draws := by induction n generalizing s with | zero => rfl | succ n ih => unfold takeTicks; split <;> simp [ih]
@[simp] theorem takeTicks_pending (n : Nat) (s : State) :
    (takeTicks n s).pending = s.pending := by induction n generalizing s with | zero => rfl | succ n ih => unfold takeTicks; split <;> simp [ih]

@[simp] theorem boundaryWithDrops_powered (s : State) :
    (boundaryWithDrops s).powered = s.powered := by simp [boundaryWithDrops]
@[simp] theorem boundaryWithDrops_params (s : State) :
    (boundaryWithDrops s).params = s.params := by simp [boundaryWithDrops]
@[simp] theorem boundaryWithDrops_probes (s : State) :
    (boundaryWithDrops s).probes = s.probes := by simp [boundaryWithDrops]
@[simp] theorem boundaryWithDrops_seg (s : State) :
    (boundaryWithDrops s).seg = s.seg := by simp [boundaryWithDrops]
@[simp] theorem boundaryWithDrops_toolRequest (s : State) :
    (boundaryWithDrops s).toolRequest = s.toolRequest := by simp [boundaryWithDrops]
@[simp] theorem boundaryWithDrops_house (s : State) :
    (boundaryWithDrops s).house = s.house := by simp [boundaryWithDrops]
@[simp] theorem boundaryWithDrops_msPhase (s : State) :
    (boundaryWithDrops s).msPhase = s.msPhase := by simp [boundaryWithDrops]
@[simp] theorem boundaryWithDrops_pending (s : State) :
    (boundaryWithDrops s).pending = s.pending := by simp [boundaryWithDrops]

@[simp] theorem regularBoundary_powered (s : State) :
    (regularBoundary s).powered = s.powered := by unfold regularBoundary; dsimp only; split <;> simp
@[simp] theorem regularBoundary_params (s : State) :
    (regularBoundary s).params = s.params := by unfold regularBoundary; dsimp only; split <;> simp
@[simp] theorem regularBoundary_probes (s : State) :
    (regularBoundary s).probes = s.probes := by unfold regularBoundary; dsimp only; split <;> simp
@[simp] theorem regularBoundary_seg (s : State) :
    (regularBoundary s).seg = s.seg := by unfold regularBoundary; dsimp only; split <;> simp
@[simp] theorem regularBoundary_toolRequest (s : State) :
    (regularBoundary s).toolRequest = s.toolRequest := by unfold regularBoundary; dsimp only; split <;> simp
@[simp] theorem regularBoundary_house (s : State) :
    (regularBoundary s).house = s.house := by unfold regularBoundary; dsimp only; split <;> simp
@[simp] theorem regularBoundary_msPhase (s : State) :
    (regularBoundary s).msPhase = s.msPhase := by unfold regularBoundary; dsimp only; split <;> simp
@[simp] theorem regularBoundary_pending (s : State) :
    (regularBoundary s).pending = s.pending := by unfold regularBoundary; dsimp only; split <;> simp

/-! ### The room segment -/

@[simp] theorem setActivity_powered (a : Activity) (s : State) :
    (setActivity a s).powered = s.powered := rfl
@[simp] theorem setActivity_params (a : Activity) (s : State) :
    (setActivity a s).params = s.params := rfl
@[simp] theorem setActivity_loops (a : Activity) (s : State) :
    (setActivity a s).loops = s.loops := rfl
@[simp] theorem setActivity_channels (a : Activity) (s : State) :
    (setActivity a s).channels = s.channels := rfl
@[simp] theorem setActivity_test (a : Activity) (s : State) :
    (setActivity a s).test = s.test := rfl
@[simp] theorem setActivity_probes (a : Activity) (s : State) :
    (setActivity a s).probes = s.probes := rfl
@[simp] theorem setActivity_rooms (a : Activity) (s : State) :
    (setActivity a s).rooms = s.rooms := rfl
@[simp] theorem setActivity_toolRequest (a : Activity) (s : State) :
    (setActivity a s).toolRequest = s.toolRequest := rfl
@[simp] theorem setActivity_period (a : Activity) (s : State) :
    (setActivity a s).period = s.period := rfl
@[simp] theorem setActivity_arb (a : Activity) (s : State) :
    (setActivity a s).arb = s.arb := rfl
@[simp] theorem setActivity_supply (a : Activity) (s : State) :
    (setActivity a s).supply = s.supply := rfl
@[simp] theorem setActivity_house (a : Activity) (s : State) :
    (setActivity a s).house = s.house := rfl
@[simp] theorem setActivity_store (a : Activity) (s : State) :
    (setActivity a s).store = s.store := rfl
@[simp] theorem setActivity_msPhase (a : Activity) (s : State) :
    (setActivity a s).msPhase = s.msPhase := rfl
@[simp] theorem setActivity_draws (a : Activity) (s : State) :
    (setActivity a s).draws = s.draws := rfl
@[simp] theorem setActivity_pending (a : Activity) (s : State) :
    (setActivity a s).pending = s.pending := rfl

@[simp] theorem setSlot_powered (v : Slot) (s : State) :
    (setSlot v s).powered = s.powered := rfl
@[simp] theorem setSlot_params (v : Slot) (s : State) :
    (setSlot v s).params = s.params := rfl
@[simp] theorem setSlot_loops (v : Slot) (s : State) :
    (setSlot v s).loops = s.loops := rfl
@[simp] theorem setSlot_channels (v : Slot) (s : State) :
    (setSlot v s).channels = s.channels := rfl
@[simp] theorem setSlot_test (v : Slot) (s : State) :
    (setSlot v s).test = s.test := rfl
@[simp] theorem setSlot_probes (v : Slot) (s : State) :
    (setSlot v s).probes = s.probes := rfl
@[simp] theorem setSlot_rooms (v : Slot) (s : State) :
    (setSlot v s).rooms = s.rooms := rfl
@[simp] theorem setSlot_toolRequest (v : Slot) (s : State) :
    (setSlot v s).toolRequest = s.toolRequest := rfl
@[simp] theorem setSlot_period (v : Slot) (s : State) :
    (setSlot v s).period = s.period := rfl
@[simp] theorem setSlot_arb (v : Slot) (s : State) :
    (setSlot v s).arb = s.arb := rfl
@[simp] theorem setSlot_supply (v : Slot) (s : State) :
    (setSlot v s).supply = s.supply := rfl
@[simp] theorem setSlot_house (v : Slot) (s : State) :
    (setSlot v s).house = s.house := rfl
@[simp] theorem setSlot_store (v : Slot) (s : State) :
    (setSlot v s).store = s.store := rfl
@[simp] theorem setSlot_msPhase (v : Slot) (s : State) :
    (setSlot v s).msPhase = s.msPhase := rfl
@[simp] theorem setSlot_draws (v : Slot) (s : State) :
    (setSlot v s).draws = s.draws := rfl
@[simp] theorem setSlot_pending (v : Slot) (s : State) :
    (setSlot v s).pending = s.pending := rfl

@[simp] theorem endCycle_powered (s : State) :
    (endCycle s).powered = s.powered := by unfold endCycle; split <;> (try split) <;> (try split) <;> simp
@[simp] theorem endCycle_params (s : State) :
    (endCycle s).params = s.params := by unfold endCycle; split <;> (try split) <;> (try split) <;> simp
@[simp] theorem endCycle_loops (s : State) :
    (endCycle s).loops = s.loops := by unfold endCycle; split <;> (try split) <;> (try split) <;> simp
@[simp] theorem endCycle_channels (s : State) :
    (endCycle s).channels = s.channels := by unfold endCycle; split <;> (try split) <;> (try split) <;> simp
@[simp] theorem endCycle_test (s : State) :
    (endCycle s).test = s.test := by unfold endCycle; split <;> (try split) <;> (try split) <;> simp
@[simp] theorem endCycle_probes (s : State) :
    (endCycle s).probes = s.probes := by unfold endCycle; split <;> (try split) <;> (try split) <;> simp
@[simp] theorem endCycle_rooms (s : State) :
    (endCycle s).rooms = s.rooms := by unfold endCycle; split <;> (try split) <;> (try split) <;> simp
@[simp] theorem endCycle_toolRequest (s : State) :
    (endCycle s).toolRequest = s.toolRequest := by unfold endCycle; split <;> (try split) <;> (try split) <;> simp
@[simp] theorem endCycle_period (s : State) :
    (endCycle s).period = s.period := by unfold endCycle; split <;> (try split) <;> (try split) <;> simp
@[simp] theorem endCycle_arb (s : State) :
    (endCycle s).arb = s.arb := by unfold endCycle; split <;> (try split) <;> (try split) <;> simp
@[simp] theorem endCycle_supply (s : State) :
    (endCycle s).supply = s.supply := by unfold endCycle; split <;> (try split) <;> (try split) <;> simp
@[simp] theorem endCycle_house (s : State) :
    (endCycle s).house = s.house := by unfold endCycle; split <;> (try split) <;> (try split) <;> simp
@[simp] theorem endCycle_store (s : State) :
    (endCycle s).store = s.store := by unfold endCycle; split <;> (try split) <;> (try split) <;> simp
@[simp] theorem endCycle_msPhase (s : State) :
    (endCycle s).msPhase = s.msPhase := by unfold endCycle; split <;> (try split) <;> (try split) <;> simp
@[simp] theorem endCycle_draws (s : State) :
    (endCycle s).draws = s.draws := by unfold endCycle; split <;> (try split) <;> (try split) <;> simp
@[simp] theorem endCycle_pending (s : State) :
    (endCycle s).pending = s.pending := by unfold endCycle; split <;> (try split) <;> (try split) <;> simp

@[simp] theorem beginPoll_powered (r : RoomIx) (s : State) :
    (beginPoll r s).powered = s.powered := rfl
@[simp] theorem beginPoll_params (r : RoomIx) (s : State) :
    (beginPoll r s).params = s.params := rfl
@[simp] theorem beginPoll_loops (r : RoomIx) (s : State) :
    (beginPoll r s).loops = s.loops := rfl
@[simp] theorem beginPoll_channels (r : RoomIx) (s : State) :
    (beginPoll r s).channels = s.channels := rfl
@[simp] theorem beginPoll_test (r : RoomIx) (s : State) :
    (beginPoll r s).test = s.test := rfl
@[simp] theorem beginPoll_probes (r : RoomIx) (s : State) :
    (beginPoll r s).probes = s.probes := rfl
@[simp] theorem beginPoll_rooms (r : RoomIx) (s : State) :
    (beginPoll r s).rooms = s.rooms := rfl
@[simp] theorem beginPoll_toolRequest (r : RoomIx) (s : State) :
    (beginPoll r s).toolRequest = s.toolRequest := rfl
@[simp] theorem beginPoll_period (r : RoomIx) (s : State) :
    (beginPoll r s).period = s.period := rfl
@[simp] theorem beginPoll_arb (r : RoomIx) (s : State) :
    (beginPoll r s).arb = s.arb := rfl
@[simp] theorem beginPoll_supply (r : RoomIx) (s : State) :
    (beginPoll r s).supply = s.supply := rfl
@[simp] theorem beginPoll_house (r : RoomIx) (s : State) :
    (beginPoll r s).house = s.house := rfl
@[simp] theorem beginPoll_store (r : RoomIx) (s : State) :
    (beginPoll r s).store = s.store := rfl
@[simp] theorem beginPoll_msPhase (r : RoomIx) (s : State) :
    (beginPoll r s).msPhase = s.msPhase := rfl
@[simp] theorem beginPoll_draws (r : RoomIx) (s : State) :
    (beginPoll r s).draws = s.draws := rfl
@[simp] theorem beginPoll_pending (r : RoomIx) (s : State) :
    (beginPoll r s).pending = s.pending := rfl

@[simp] theorem beginForward_powered (a : BitVec 7) (f : ForwardFrame) (s : State) :
    (beginForward a f s).powered = s.powered := rfl
@[simp] theorem beginForward_params (a : BitVec 7) (f : ForwardFrame) (s : State) :
    (beginForward a f s).params = s.params := rfl
@[simp] theorem beginForward_loops (a : BitVec 7) (f : ForwardFrame) (s : State) :
    (beginForward a f s).loops = s.loops := rfl
@[simp] theorem beginForward_channels (a : BitVec 7) (f : ForwardFrame) (s : State) :
    (beginForward a f s).channels = s.channels := rfl
@[simp] theorem beginForward_test (a : BitVec 7) (f : ForwardFrame) (s : State) :
    (beginForward a f s).test = s.test := rfl
@[simp] theorem beginForward_probes (a : BitVec 7) (f : ForwardFrame) (s : State) :
    (beginForward a f s).probes = s.probes := rfl
@[simp] theorem beginForward_rooms (a : BitVec 7) (f : ForwardFrame) (s : State) :
    (beginForward a f s).rooms = s.rooms := rfl
@[simp] theorem beginForward_toolRequest (a : BitVec 7) (f : ForwardFrame) (s : State) :
    (beginForward a f s).toolRequest = s.toolRequest := rfl
@[simp] theorem beginForward_period (a : BitVec 7) (f : ForwardFrame) (s : State) :
    (beginForward a f s).period = s.period := rfl
@[simp] theorem beginForward_arb (a : BitVec 7) (f : ForwardFrame) (s : State) :
    (beginForward a f s).arb = s.arb := rfl
@[simp] theorem beginForward_supply (a : BitVec 7) (f : ForwardFrame) (s : State) :
    (beginForward a f s).supply = s.supply := rfl
@[simp] theorem beginForward_house (a : BitVec 7) (f : ForwardFrame) (s : State) :
    (beginForward a f s).house = s.house := rfl
@[simp] theorem beginForward_store (a : BitVec 7) (f : ForwardFrame) (s : State) :
    (beginForward a f s).store = s.store := rfl
@[simp] theorem beginForward_msPhase (a : BitVec 7) (f : ForwardFrame) (s : State) :
    (beginForward a f s).msPhase = s.msPhase := rfl
@[simp] theorem beginForward_draws (a : BitVec 7) (f : ForwardFrame) (s : State) :
    (beginForward a f s).draws = s.draws := rfl
@[simp] theorem beginForward_pending (a : BitVec 7) (f : ForwardFrame) (s : State) :
    (beginForward a f s).pending = s.pending := rfl

@[simp] theorem arbitrate_powered (s : State) :
    (arbitrate s).powered = s.powered := by unfold arbitrate; dsimp only; split <;> (try split) <;> (try split) <;> (try split) <;> (try split) <;> simp
@[simp] theorem arbitrate_params (s : State) :
    (arbitrate s).params = s.params := by unfold arbitrate; dsimp only; split <;> (try split) <;> (try split) <;> (try split) <;> (try split) <;> simp
@[simp] theorem arbitrate_loops (s : State) :
    (arbitrate s).loops = s.loops := by unfold arbitrate; dsimp only; split <;> (try split) <;> (try split) <;> (try split) <;> (try split) <;> simp
@[simp] theorem arbitrate_channels (s : State) :
    (arbitrate s).channels = s.channels := by unfold arbitrate; dsimp only; split <;> (try split) <;> (try split) <;> (try split) <;> (try split) <;> simp
@[simp] theorem arbitrate_test (s : State) :
    (arbitrate s).test = s.test := by unfold arbitrate; dsimp only; split <;> (try split) <;> (try split) <;> (try split) <;> (try split) <;> simp
@[simp] theorem arbitrate_probes (s : State) :
    (arbitrate s).probes = s.probes := by unfold arbitrate; dsimp only; split <;> (try split) <;> (try split) <;> (try split) <;> (try split) <;> simp
@[simp] theorem arbitrate_rooms (s : State) :
    (arbitrate s).rooms = s.rooms := by unfold arbitrate; dsimp only; split <;> (try split) <;> (try split) <;> (try split) <;> (try split) <;> simp
@[simp] theorem arbitrate_toolRequest (s : State) :
    (arbitrate s).toolRequest = s.toolRequest := by unfold arbitrate; dsimp only; split <;> (try split) <;> (try split) <;> (try split) <;> (try split) <;> simp
@[simp] theorem arbitrate_period (s : State) :
    (arbitrate s).period = s.period := by unfold arbitrate; dsimp only; split <;> (try split) <;> (try split) <;> (try split) <;> (try split) <;> simp
@[simp] theorem arbitrate_arb (s : State) :
    (arbitrate s).arb = s.arb := by unfold arbitrate; dsimp only; split <;> (try split) <;> (try split) <;> (try split) <;> (try split) <;> simp
@[simp] theorem arbitrate_supply (s : State) :
    (arbitrate s).supply = s.supply := by unfold arbitrate; dsimp only; split <;> (try split) <;> (try split) <;> (try split) <;> (try split) <;> simp
@[simp] theorem arbitrate_house (s : State) :
    (arbitrate s).house = s.house := by unfold arbitrate; dsimp only; split <;> (try split) <;> (try split) <;> (try split) <;> (try split) <;> simp
@[simp] theorem arbitrate_store (s : State) :
    (arbitrate s).store = s.store := by unfold arbitrate; dsimp only; split <;> (try split) <;> (try split) <;> (try split) <;> (try split) <;> simp
@[simp] theorem arbitrate_msPhase (s : State) :
    (arbitrate s).msPhase = s.msPhase := by unfold arbitrate; dsimp only; split <;> (try split) <;> (try split) <;> (try split) <;> (try split) <;> simp
@[simp] theorem arbitrate_draws (s : State) :
    (arbitrate s).draws = s.draws := by unfold arbitrate; dsimp only; split <;> (try split) <;> (try split) <;> (try split) <;> (try split) <;> simp
@[simp] theorem arbitrate_pending (s : State) :
    (arbitrate s).pending = s.pending := by unfold arbitrate; dsimp only; split <;> (try split) <;> (try split) <;> (try split) <;> (try split) <;> simp

@[simp] theorem cycleDue_powered (s : State) :
    (cycleDue s).powered = s.powered := by unfold cycleDue; dsimp only; split <;> split <;> simp
@[simp] theorem cycleDue_params (s : State) :
    (cycleDue s).params = s.params := by unfold cycleDue; dsimp only; split <;> split <;> simp
@[simp] theorem cycleDue_loops (s : State) :
    (cycleDue s).loops = s.loops := by unfold cycleDue; dsimp only; split <;> split <;> simp
@[simp] theorem cycleDue_channels (s : State) :
    (cycleDue s).channels = s.channels := by unfold cycleDue; dsimp only; split <;> split <;> simp
@[simp] theorem cycleDue_test (s : State) :
    (cycleDue s).test = s.test := by unfold cycleDue; dsimp only; split <;> split <;> simp
@[simp] theorem cycleDue_probes (s : State) :
    (cycleDue s).probes = s.probes := by unfold cycleDue; dsimp only; split <;> split <;> simp
@[simp] theorem cycleDue_rooms (s : State) :
    (cycleDue s).rooms = s.rooms := by unfold cycleDue; dsimp only; split <;> split <;> simp
@[simp] theorem cycleDue_toolRequest (s : State) :
    (cycleDue s).toolRequest = s.toolRequest := by unfold cycleDue; dsimp only; split <;> split <;> simp
@[simp] theorem cycleDue_period (s : State) :
    (cycleDue s).period = s.period := by unfold cycleDue; dsimp only; split <;> split <;> simp
@[simp] theorem cycleDue_arb (s : State) :
    (cycleDue s).arb = s.arb := by unfold cycleDue; dsimp only; split <;> split <;> simp
@[simp] theorem cycleDue_supply (s : State) :
    (cycleDue s).supply = s.supply := by unfold cycleDue; dsimp only; split <;> split <;> simp
@[simp] theorem cycleDue_house (s : State) :
    (cycleDue s).house = s.house := by unfold cycleDue; dsimp only; split <;> split <;> simp
@[simp] theorem cycleDue_store (s : State) :
    (cycleDue s).store = s.store := by unfold cycleDue; dsimp only; split <;> split <;> simp
@[simp] theorem cycleDue_msPhase (s : State) :
    (cycleDue s).msPhase = s.msPhase := by unfold cycleDue; dsimp only; split <;> split <;> simp
@[simp] theorem cycleDue_draws (s : State) :
    (cycleDue s).draws = s.draws := by unfold cycleDue; dsimp only; split <;> split <;> simp
@[simp] theorem cycleDue_pending (s : State) :
    (cycleDue s).pending = s.pending := by unfold cycleDue; dsimp only; split <;> split <;> simp

@[simp] theorem pollExpiry_powered (s : State) :
    (pollExpiry s).powered = s.powered := by simp [pollExpiry]
@[simp] theorem pollExpiry_params (s : State) :
    (pollExpiry s).params = s.params := by simp [pollExpiry]
@[simp] theorem pollExpiry_loops (s : State) :
    (pollExpiry s).loops = s.loops := by simp [pollExpiry]
@[simp] theorem pollExpiry_channels (s : State) :
    (pollExpiry s).channels = s.channels := by simp [pollExpiry]
@[simp] theorem pollExpiry_test (s : State) :
    (pollExpiry s).test = s.test := by simp [pollExpiry]
@[simp] theorem pollExpiry_probes (s : State) :
    (pollExpiry s).probes = s.probes := by simp [pollExpiry]
@[simp] theorem pollExpiry_rooms (s : State) :
    (pollExpiry s).rooms = s.rooms := by simp [pollExpiry]
@[simp] theorem pollExpiry_toolRequest (s : State) :
    (pollExpiry s).toolRequest = s.toolRequest := by simp [pollExpiry]
@[simp] theorem pollExpiry_period (s : State) :
    (pollExpiry s).period = s.period := by simp [pollExpiry]
@[simp] theorem pollExpiry_arb (s : State) :
    (pollExpiry s).arb = s.arb := by simp [pollExpiry]
@[simp] theorem pollExpiry_supply (s : State) :
    (pollExpiry s).supply = s.supply := by simp [pollExpiry]
@[simp] theorem pollExpiry_house (s : State) :
    (pollExpiry s).house = s.house := by simp [pollExpiry]
@[simp] theorem pollExpiry_store (s : State) :
    (pollExpiry s).store = s.store := by simp [pollExpiry]
@[simp] theorem pollExpiry_msPhase (s : State) :
    (pollExpiry s).msPhase = s.msPhase := by simp [pollExpiry]
@[simp] theorem pollExpiry_draws (s : State) :
    (pollExpiry s).draws = s.draws := by simp [pollExpiry]
@[simp] theorem pollExpiry_pending (s : State) :
    (pollExpiry s).pending = s.pending := by simp [pollExpiry]

@[simp] theorem deliverPoll_powered (r : RoomIx) (t : Transaction) (e : RoomEnding) (s : State) :
    (deliverPoll r t e s).powered = s.powered := by unfold deliverPoll; split <;> (try split) <;> simp
@[simp] theorem deliverPoll_params (r : RoomIx) (t : Transaction) (e : RoomEnding) (s : State) :
    (deliverPoll r t e s).params = s.params := by unfold deliverPoll; split <;> (try split) <;> simp
@[simp] theorem deliverPoll_probes (r : RoomIx) (t : Transaction) (e : RoomEnding) (s : State) :
    (deliverPoll r t e s).probes = s.probes := by unfold deliverPoll; split <;> (try split) <;> simp
@[simp] theorem deliverPoll_seg (r : RoomIx) (t : Transaction) (e : RoomEnding) (s : State) :
    (deliverPoll r t e s).seg = s.seg := by unfold deliverPoll; split <;> (try split) <;> simp
@[simp] theorem deliverPoll_toolRequest (r : RoomIx) (t : Transaction) (e : RoomEnding) (s : State) :
    (deliverPoll r t e s).toolRequest = s.toolRequest := by unfold deliverPoll; split <;> (try split) <;> simp
@[simp] theorem deliverPoll_house (r : RoomIx) (t : Transaction) (e : RoomEnding) (s : State) :
    (deliverPoll r t e s).house = s.house := by unfold deliverPoll; split <;> (try split) <;> simp
@[simp] theorem deliverPoll_store (r : RoomIx) (t : Transaction) (e : RoomEnding) (s : State) :
    (deliverPoll r t e s).store = s.store := by unfold deliverPoll; split <;> (try split) <;> simp
@[simp] theorem deliverPoll_msPhase (r : RoomIx) (t : Transaction) (e : RoomEnding) (s : State) :
    (deliverPoll r t e s).msPhase = s.msPhase := by unfold deliverPoll; split <;> (try split) <;> simp
@[simp] theorem deliverPoll_pending (r : RoomIx) (t : Transaction) (e : RoomEnding) (s : State) :
    (deliverPoll r t e s).pending = s.pending := by unfold deliverPoll; split <;> (try split) <;> simp

@[simp] theorem answerHeld_powered (a : Bool) (b : List Byte) (st : HouseState) (s : State) :
    (answerHeld a b st s).powered = s.powered := rfl
@[simp] theorem answerHeld_params (a : Bool) (b : List Byte) (st : HouseState) (s : State) :
    (answerHeld a b st s).params = s.params := rfl
@[simp] theorem answerHeld_loops (a : Bool) (b : List Byte) (st : HouseState) (s : State) :
    (answerHeld a b st s).loops = s.loops := rfl
@[simp] theorem answerHeld_channels (a : Bool) (b : List Byte) (st : HouseState) (s : State) :
    (answerHeld a b st s).channels = s.channels := rfl
@[simp] theorem answerHeld_test (a : Bool) (b : List Byte) (st : HouseState) (s : State) :
    (answerHeld a b st s).test = s.test := rfl
@[simp] theorem answerHeld_probes (a : Bool) (b : List Byte) (st : HouseState) (s : State) :
    (answerHeld a b st s).probes = s.probes := rfl
@[simp] theorem answerHeld_rooms (a : Bool) (b : List Byte) (st : HouseState) (s : State) :
    (answerHeld a b st s).rooms = s.rooms := rfl
@[simp] theorem answerHeld_seg (a : Bool) (b : List Byte) (st : HouseState) (s : State) :
    (answerHeld a b st s).seg = s.seg := rfl
@[simp] theorem answerHeld_toolRequest (a : Bool) (b : List Byte) (st : HouseState) (s : State) :
    (answerHeld a b st s).toolRequest = s.toolRequest := rfl
@[simp] theorem answerHeld_period (a : Bool) (b : List Byte) (st : HouseState) (s : State) :
    (answerHeld a b st s).period = s.period := rfl
@[simp] theorem answerHeld_arb (a : Bool) (b : List Byte) (st : HouseState) (s : State) :
    (answerHeld a b st s).arb = s.arb := rfl
@[simp] theorem answerHeld_supply (a : Bool) (b : List Byte) (st : HouseState) (s : State) :
    (answerHeld a b st s).supply = s.supply := rfl
@[simp] theorem answerHeld_store (a : Bool) (b : List Byte) (st : HouseState) (s : State) :
    (answerHeld a b st s).store = s.store := rfl
@[simp] theorem answerHeld_msPhase (a : Bool) (b : List Byte) (st : HouseState) (s : State) :
    (answerHeld a b st s).msPhase = s.msPhase := rfl
@[simp] theorem answerHeld_draws (a : Bool) (b : List Byte) (st : HouseState) (s : State) :
    (answerHeld a b st s).draws = s.draws := rfl
@[simp] theorem answerHeld_pending (a : Bool) (b : List Byte) (st : HouseState) (s : State) :
    (answerHeld a b st s).pending = s.pending := rfl

@[simp] theorem handOver_powered (o : PollOutcome) (r : Option (List Byte)) (k : Option Nat) (s : State) :
    (handOver o r k s).powered = s.powered := by unfold handOver; dsimp only; split <;> (try split) <;> simp
@[simp] theorem handOver_params (o : PollOutcome) (r : Option (List Byte)) (k : Option Nat) (s : State) :
    (handOver o r k s).params = s.params := by unfold handOver; dsimp only; split <;> (try split) <;> simp
@[simp] theorem handOver_loops (o : PollOutcome) (r : Option (List Byte)) (k : Option Nat) (s : State) :
    (handOver o r k s).loops = s.loops := by unfold handOver; dsimp only; split <;> (try split) <;> simp
@[simp] theorem handOver_channels (o : PollOutcome) (r : Option (List Byte)) (k : Option Nat) (s : State) :
    (handOver o r k s).channels = s.channels := by unfold handOver; dsimp only; split <;> (try split) <;> simp
@[simp] theorem handOver_test (o : PollOutcome) (r : Option (List Byte)) (k : Option Nat) (s : State) :
    (handOver o r k s).test = s.test := by unfold handOver; dsimp only; split <;> (try split) <;> simp
@[simp] theorem handOver_probes (o : PollOutcome) (r : Option (List Byte)) (k : Option Nat) (s : State) :
    (handOver o r k s).probes = s.probes := by unfold handOver; dsimp only; split <;> (try split) <;> simp
@[simp] theorem handOver_rooms (o : PollOutcome) (r : Option (List Byte)) (k : Option Nat) (s : State) :
    (handOver o r k s).rooms = s.rooms := by unfold handOver; dsimp only; split <;> (try split) <;> simp
@[simp] theorem handOver_seg (o : PollOutcome) (r : Option (List Byte)) (k : Option Nat) (s : State) :
    (handOver o r k s).seg = s.seg := by unfold handOver; dsimp only; split <;> (try split) <;> simp
@[simp] theorem handOver_toolRequest (o : PollOutcome) (r : Option (List Byte)) (k : Option Nat) (s : State) :
    (handOver o r k s).toolRequest = s.toolRequest := by unfold handOver; dsimp only; split <;> (try split) <;> simp
@[simp] theorem handOver_period (o : PollOutcome) (r : Option (List Byte)) (k : Option Nat) (s : State) :
    (handOver o r k s).period = s.period := by unfold handOver; dsimp only; split <;> (try split) <;> simp
@[simp] theorem handOver_arb (o : PollOutcome) (r : Option (List Byte)) (k : Option Nat) (s : State) :
    (handOver o r k s).arb = s.arb := by unfold handOver; dsimp only; split <;> (try split) <;> simp
@[simp] theorem handOver_supply (o : PollOutcome) (r : Option (List Byte)) (k : Option Nat) (s : State) :
    (handOver o r k s).supply = s.supply := by unfold handOver; dsimp only; split <;> (try split) <;> simp
@[simp] theorem handOver_store (o : PollOutcome) (r : Option (List Byte)) (k : Option Nat) (s : State) :
    (handOver o r k s).store = s.store := by unfold handOver; dsimp only; split <;> (try split) <;> simp
@[simp] theorem handOver_msPhase (o : PollOutcome) (r : Option (List Byte)) (k : Option Nat) (s : State) :
    (handOver o r k s).msPhase = s.msPhase := by unfold handOver; dsimp only; split <;> (try split) <;> simp
@[simp] theorem handOver_draws (o : PollOutcome) (r : Option (List Byte)) (k : Option Nat) (s : State) :
    (handOver o r k s).draws = s.draws := by unfold handOver; dsimp only; split <;> (try split) <;> simp
@[simp] theorem handOver_pending (o : PollOutcome) (r : Option (List Byte)) (k : Option Nat) (s : State) :
    (handOver o r k s).pending = s.pending := by unfold handOver; dsimp only; split <;> (try split) <;> simp

@[simp] theorem endForward_powered (t : Transaction) (e : RoomEnding) (k : Option Nat) (s : State) :
    (endForward t e k s).powered = s.powered := by unfold endForward; dsimp only; split <;> (try split) <;> simp
@[simp] theorem endForward_params (t : Transaction) (e : RoomEnding) (k : Option Nat) (s : State) :
    (endForward t e k s).params = s.params := by unfold endForward; dsimp only; split <;> (try split) <;> simp
@[simp] theorem endForward_loops (t : Transaction) (e : RoomEnding) (k : Option Nat) (s : State) :
    (endForward t e k s).loops = s.loops := by unfold endForward; dsimp only; split <;> (try split) <;> simp
@[simp] theorem endForward_channels (t : Transaction) (e : RoomEnding) (k : Option Nat) (s : State) :
    (endForward t e k s).channels = s.channels := by unfold endForward; dsimp only; split <;> (try split) <;> simp
@[simp] theorem endForward_test (t : Transaction) (e : RoomEnding) (k : Option Nat) (s : State) :
    (endForward t e k s).test = s.test := by unfold endForward; dsimp only; split <;> (try split) <;> simp
@[simp] theorem endForward_probes (t : Transaction) (e : RoomEnding) (k : Option Nat) (s : State) :
    (endForward t e k s).probes = s.probes := by unfold endForward; dsimp only; split <;> (try split) <;> simp
@[simp] theorem endForward_rooms (t : Transaction) (e : RoomEnding) (k : Option Nat) (s : State) :
    (endForward t e k s).rooms = s.rooms := by unfold endForward; dsimp only; split <;> (try split) <;> simp
@[simp] theorem endForward_toolRequest (t : Transaction) (e : RoomEnding) (k : Option Nat) (s : State) :
    (endForward t e k s).toolRequest = s.toolRequest := by unfold endForward; dsimp only; split <;> (try split) <;> simp
@[simp] theorem endForward_period (t : Transaction) (e : RoomEnding) (k : Option Nat) (s : State) :
    (endForward t e k s).period = s.period := by unfold endForward; dsimp only; split <;> (try split) <;> simp
@[simp] theorem endForward_arb (t : Transaction) (e : RoomEnding) (k : Option Nat) (s : State) :
    (endForward t e k s).arb = s.arb := by unfold endForward; dsimp only; split <;> (try split) <;> simp
@[simp] theorem endForward_supply (t : Transaction) (e : RoomEnding) (k : Option Nat) (s : State) :
    (endForward t e k s).supply = s.supply := by unfold endForward; dsimp only; split <;> (try split) <;> simp
@[simp] theorem endForward_store (t : Transaction) (e : RoomEnding) (k : Option Nat) (s : State) :
    (endForward t e k s).store = s.store := by unfold endForward; dsimp only; split <;> (try split) <;> simp
@[simp] theorem endForward_msPhase (t : Transaction) (e : RoomEnding) (k : Option Nat) (s : State) :
    (endForward t e k s).msPhase = s.msPhase := by unfold endForward; dsimp only; split <;> (try split) <;> simp
@[simp] theorem endForward_draws (t : Transaction) (e : RoomEnding) (k : Option Nat) (s : State) :
    (endForward t e k s).draws = s.draws := by unfold endForward; dsimp only; split <;> (try split) <;> simp
@[simp] theorem endForward_pending (t : Transaction) (e : RoomEnding) (k : Option Nat) (s : State) :
    (endForward t e k s).pending = s.pending := by unfold endForward; dsimp only; split <;> (try split) <;> simp

@[simp] theorem leaveSegment_powered (t : Transaction) (l : Option (Nat × Nat)) (e : RoomEnding) (s : State) :
    (leaveSegment t l e s).powered = s.powered := rfl
@[simp] theorem leaveSegment_params (t : Transaction) (l : Option (Nat × Nat)) (e : RoomEnding) (s : State) :
    (leaveSegment t l e s).params = s.params := rfl
@[simp] theorem leaveSegment_loops (t : Transaction) (l : Option (Nat × Nat)) (e : RoomEnding) (s : State) :
    (leaveSegment t l e s).loops = s.loops := rfl
@[simp] theorem leaveSegment_channels (t : Transaction) (l : Option (Nat × Nat)) (e : RoomEnding) (s : State) :
    (leaveSegment t l e s).channels = s.channels := rfl
@[simp] theorem leaveSegment_test (t : Transaction) (l : Option (Nat × Nat)) (e : RoomEnding) (s : State) :
    (leaveSegment t l e s).test = s.test := rfl
@[simp] theorem leaveSegment_probes (t : Transaction) (l : Option (Nat × Nat)) (e : RoomEnding) (s : State) :
    (leaveSegment t l e s).probes = s.probes := rfl
@[simp] theorem leaveSegment_rooms (t : Transaction) (l : Option (Nat × Nat)) (e : RoomEnding) (s : State) :
    (leaveSegment t l e s).rooms = s.rooms := rfl
@[simp] theorem leaveSegment_toolRequest (t : Transaction) (l : Option (Nat × Nat)) (e : RoomEnding) (s : State) :
    (leaveSegment t l e s).toolRequest = s.toolRequest := rfl
@[simp] theorem leaveSegment_period (t : Transaction) (l : Option (Nat × Nat)) (e : RoomEnding) (s : State) :
    (leaveSegment t l e s).period = s.period := rfl
@[simp] theorem leaveSegment_arb (t : Transaction) (l : Option (Nat × Nat)) (e : RoomEnding) (s : State) :
    (leaveSegment t l e s).arb = s.arb := rfl
@[simp] theorem leaveSegment_supply (t : Transaction) (l : Option (Nat × Nat)) (e : RoomEnding) (s : State) :
    (leaveSegment t l e s).supply = s.supply := rfl
@[simp] theorem leaveSegment_house (t : Transaction) (l : Option (Nat × Nat)) (e : RoomEnding) (s : State) :
    (leaveSegment t l e s).house = s.house := rfl
@[simp] theorem leaveSegment_store (t : Transaction) (l : Option (Nat × Nat)) (e : RoomEnding) (s : State) :
    (leaveSegment t l e s).store = s.store := rfl
@[simp] theorem leaveSegment_msPhase (t : Transaction) (l : Option (Nat × Nat)) (e : RoomEnding) (s : State) :
    (leaveSegment t l e s).msPhase = s.msPhase := rfl
@[simp] theorem leaveSegment_draws (t : Transaction) (l : Option (Nat × Nat)) (e : RoomEnding) (s : State) :
    (leaveSegment t l e s).draws = s.draws := rfl
@[simp] theorem leaveSegment_pending (t : Transaction) (l : Option (Nat × Nat)) (e : RoomEnding) (s : State) :
    (leaveSegment t l e s).pending = s.pending := rfl

@[simp] theorem endTransaction_powered (e : RoomEnding) (k : Option Nat) (s : State) :
    (endTransaction e k s).powered = s.powered := by unfold endTransaction; dsimp only; split <;> (try split) <;> simp
@[simp] theorem endTransaction_params (e : RoomEnding) (k : Option Nat) (s : State) :
    (endTransaction e k s).params = s.params := by unfold endTransaction; dsimp only; split <;> (try split) <;> simp
@[simp] theorem endTransaction_probes (e : RoomEnding) (k : Option Nat) (s : State) :
    (endTransaction e k s).probes = s.probes := by unfold endTransaction; dsimp only; split <;> (try split) <;> simp
@[simp] theorem endTransaction_toolRequest (e : RoomEnding) (k : Option Nat) (s : State) :
    (endTransaction e k s).toolRequest = s.toolRequest := by unfold endTransaction; dsimp only; split <;> (try split) <;> simp
@[simp] theorem endTransaction_store (e : RoomEnding) (k : Option Nat) (s : State) :
    (endTransaction e k s).store = s.store := by unfold endTransaction; dsimp only; split <;> (try split) <;> simp
@[simp] theorem endTransaction_msPhase (e : RoomEnding) (k : Option Nat) (s : State) :
    (endTransaction e k s).msPhase = s.msPhase := by unfold endTransaction; dsimp only; split <;> (try split) <;> simp
@[simp] theorem endTransaction_pending (e : RoomEnding) (k : Option Nat) (s : State) :
    (endTransaction e k s).pending = s.pending := by unfold endTransaction; dsimp only; split <;> (try split) <;> simp

@[simp] theorem stalePoll_powered (r : RoomIx) (s : State) :
    (stalePoll r s).powered = s.powered := by unfold stalePoll; split <;> (try split) <;> simp
@[simp] theorem stalePoll_params (r : RoomIx) (s : State) :
    (stalePoll r s).params = s.params := by unfold stalePoll; split <;> (try split) <;> simp
@[simp] theorem stalePoll_loops (r : RoomIx) (s : State) :
    (stalePoll r s).loops = s.loops := by unfold stalePoll; split <;> (try split) <;> simp
@[simp] theorem stalePoll_channels (r : RoomIx) (s : State) :
    (stalePoll r s).channels = s.channels := by unfold stalePoll; split <;> (try split) <;> simp
@[simp] theorem stalePoll_test (r : RoomIx) (s : State) :
    (stalePoll r s).test = s.test := by unfold stalePoll; split <;> (try split) <;> simp
@[simp] theorem stalePoll_probes (r : RoomIx) (s : State) :
    (stalePoll r s).probes = s.probes := by unfold stalePoll; split <;> (try split) <;> simp
@[simp] theorem stalePoll_rooms (r : RoomIx) (s : State) :
    (stalePoll r s).rooms = s.rooms := by unfold stalePoll; split <;> (try split) <;> simp
@[simp] theorem stalePoll_toolRequest (r : RoomIx) (s : State) :
    (stalePoll r s).toolRequest = s.toolRequest := by unfold stalePoll; split <;> (try split) <;> simp
@[simp] theorem stalePoll_period (r : RoomIx) (s : State) :
    (stalePoll r s).period = s.period := by unfold stalePoll; split <;> (try split) <;> simp
@[simp] theorem stalePoll_arb (r : RoomIx) (s : State) :
    (stalePoll r s).arb = s.arb := by unfold stalePoll; split <;> (try split) <;> simp
@[simp] theorem stalePoll_supply (r : RoomIx) (s : State) :
    (stalePoll r s).supply = s.supply := by unfold stalePoll; split <;> (try split) <;> simp
@[simp] theorem stalePoll_house (r : RoomIx) (s : State) :
    (stalePoll r s).house = s.house := by unfold stalePoll; split <;> (try split) <;> simp
@[simp] theorem stalePoll_store (r : RoomIx) (s : State) :
    (stalePoll r s).store = s.store := by unfold stalePoll; split <;> (try split) <;> simp
@[simp] theorem stalePoll_msPhase (r : RoomIx) (s : State) :
    (stalePoll r s).msPhase = s.msPhase := by unfold stalePoll; split <;> (try split) <;> simp
@[simp] theorem stalePoll_draws (r : RoomIx) (s : State) :
    (stalePoll r s).draws = s.draws := by unfold stalePoll; split <;> (try split) <;> simp
@[simp] theorem stalePoll_pending (r : RoomIx) (s : State) :
    (stalePoll r s).pending = s.pending := by unfold stalePoll; split <;> (try split) <;> simp

@[simp] theorem holdOff_powered (k : Nat) (s : State) :
    (holdOff k s).powered = s.powered := by unfold holdOff; split <;> (try split) <;> simp
@[simp] theorem holdOff_params (k : Nat) (s : State) :
    (holdOff k s).params = s.params := by unfold holdOff; split <;> (try split) <;> simp
@[simp] theorem holdOff_loops (k : Nat) (s : State) :
    (holdOff k s).loops = s.loops := by unfold holdOff; split <;> (try split) <;> simp
@[simp] theorem holdOff_channels (k : Nat) (s : State) :
    (holdOff k s).channels = s.channels := by unfold holdOff; split <;> (try split) <;> simp
@[simp] theorem holdOff_test (k : Nat) (s : State) :
    (holdOff k s).test = s.test := by unfold holdOff; split <;> (try split) <;> simp
@[simp] theorem holdOff_probes (k : Nat) (s : State) :
    (holdOff k s).probes = s.probes := by unfold holdOff; split <;> (try split) <;> simp
@[simp] theorem holdOff_rooms (k : Nat) (s : State) :
    (holdOff k s).rooms = s.rooms := by unfold holdOff; split <;> (try split) <;> simp
@[simp] theorem holdOff_toolRequest (k : Nat) (s : State) :
    (holdOff k s).toolRequest = s.toolRequest := by unfold holdOff; split <;> (try split) <;> simp
@[simp] theorem holdOff_period (k : Nat) (s : State) :
    (holdOff k s).period = s.period := by unfold holdOff; split <;> (try split) <;> simp
@[simp] theorem holdOff_arb (k : Nat) (s : State) :
    (holdOff k s).arb = s.arb := by unfold holdOff; split <;> (try split) <;> simp
@[simp] theorem holdOff_supply (k : Nat) (s : State) :
    (holdOff k s).supply = s.supply := by unfold holdOff; split <;> (try split) <;> simp
@[simp] theorem holdOff_house (k : Nat) (s : State) :
    (holdOff k s).house = s.house := by unfold holdOff; split <;> (try split) <;> simp
@[simp] theorem holdOff_store (k : Nat) (s : State) :
    (holdOff k s).store = s.store := by unfold holdOff; split <;> (try split) <;> simp
@[simp] theorem holdOff_msPhase (k : Nat) (s : State) :
    (holdOff k s).msPhase = s.msPhase := by unfold holdOff; split <;> (try split) <;> simp
@[simp] theorem holdOff_draws (k : Nat) (s : State) :
    (holdOff k s).draws = s.draws := by unfold holdOff; split <;> (try split) <;> simp
@[simp] theorem holdOff_pending (k : Nat) (s : State) :
    (holdOff k s).pending = s.pending := by unfold holdOff; split <;> (try split) <;> simp

@[simp] theorem expireForward_powered (s : State) :
    (expireForward s).powered = s.powered := by unfold expireForward; dsimp only; split <;> simp
@[simp] theorem expireForward_params (s : State) :
    (expireForward s).params = s.params := by unfold expireForward; dsimp only; split <;> simp
@[simp] theorem expireForward_loops (s : State) :
    (expireForward s).loops = s.loops := by unfold expireForward; dsimp only; split <;> simp
@[simp] theorem expireForward_channels (s : State) :
    (expireForward s).channels = s.channels := by unfold expireForward; dsimp only; split <;> simp
@[simp] theorem expireForward_test (s : State) :
    (expireForward s).test = s.test := by unfold expireForward; dsimp only; split <;> simp
@[simp] theorem expireForward_probes (s : State) :
    (expireForward s).probes = s.probes := by unfold expireForward; dsimp only; split <;> simp
@[simp] theorem expireForward_rooms (s : State) :
    (expireForward s).rooms = s.rooms := by unfold expireForward; dsimp only; split <;> simp
@[simp] theorem expireForward_toolRequest (s : State) :
    (expireForward s).toolRequest = s.toolRequest := by unfold expireForward; dsimp only; split <;> simp
@[simp] theorem expireForward_period (s : State) :
    (expireForward s).period = s.period := by unfold expireForward; dsimp only; split <;> simp
@[simp] theorem expireForward_arb (s : State) :
    (expireForward s).arb = s.arb := by unfold expireForward; dsimp only; split <;> simp
@[simp] theorem expireForward_supply (s : State) :
    (expireForward s).supply = s.supply := by unfold expireForward; dsimp only; split <;> simp
@[simp] theorem expireForward_store (s : State) :
    (expireForward s).store = s.store := by unfold expireForward; dsimp only; split <;> simp
@[simp] theorem expireForward_msPhase (s : State) :
    (expireForward s).msPhase = s.msPhase := by unfold expireForward; dsimp only; split <;> simp
@[simp] theorem expireForward_draws (s : State) :
    (expireForward s).draws = s.draws := by unfold expireForward; dsimp only; split <;> simp
@[simp] theorem expireForward_pending (s : State) :
    (expireForward s).pending = s.pending := by unfold expireForward; dsimp only; split <;> simp

@[simp] theorem raiseRequest_powered (s : State) :
    (raiseRequest s).powered = s.powered := by simp [raiseRequest]
@[simp] theorem raiseRequest_params (s : State) :
    (raiseRequest s).params = s.params := by simp [raiseRequest]
@[simp] theorem raiseRequest_loops (s : State) :
    (raiseRequest s).loops = s.loops := by simp [raiseRequest]
@[simp] theorem raiseRequest_channels (s : State) :
    (raiseRequest s).channels = s.channels := by simp [raiseRequest]
@[simp] theorem raiseRequest_test (s : State) :
    (raiseRequest s).test = s.test := by simp [raiseRequest]
@[simp] theorem raiseRequest_probes (s : State) :
    (raiseRequest s).probes = s.probes := by simp [raiseRequest]
@[simp] theorem raiseRequest_rooms (s : State) :
    (raiseRequest s).rooms = s.rooms := by simp [raiseRequest]
@[simp] theorem raiseRequest_period (s : State) :
    (raiseRequest s).period = s.period := by simp [raiseRequest]
@[simp] theorem raiseRequest_arb (s : State) :
    (raiseRequest s).arb = s.arb := by simp [raiseRequest]
@[simp] theorem raiseRequest_supply (s : State) :
    (raiseRequest s).supply = s.supply := by simp [raiseRequest]
@[simp] theorem raiseRequest_house (s : State) :
    (raiseRequest s).house = s.house := by simp [raiseRequest]
@[simp] theorem raiseRequest_store (s : State) :
    (raiseRequest s).store = s.store := by simp [raiseRequest]
@[simp] theorem raiseRequest_msPhase (s : State) :
    (raiseRequest s).msPhase = s.msPhase := by simp [raiseRequest]
@[simp] theorem raiseRequest_draws (s : State) :
    (raiseRequest s).draws = s.draws := by simp [raiseRequest]
@[simp] theorem raiseRequest_pending (s : State) :
    (raiseRequest s).pending = s.pending := by simp [raiseRequest]

@[simp] theorem dropRequest_powered (s : State) :
    (dropRequest s).powered = s.powered := by unfold dropRequest; dsimp only; split <;> simp
@[simp] theorem dropRequest_params (s : State) :
    (dropRequest s).params = s.params := by unfold dropRequest; dsimp only; split <;> simp
@[simp] theorem dropRequest_loops (s : State) :
    (dropRequest s).loops = s.loops := by unfold dropRequest; dsimp only; split <;> simp
@[simp] theorem dropRequest_channels (s : State) :
    (dropRequest s).channels = s.channels := by unfold dropRequest; dsimp only; split <;> simp
@[simp] theorem dropRequest_test (s : State) :
    (dropRequest s).test = s.test := by unfold dropRequest; dsimp only; split <;> simp
@[simp] theorem dropRequest_probes (s : State) :
    (dropRequest s).probes = s.probes := by unfold dropRequest; dsimp only; split <;> simp
@[simp] theorem dropRequest_rooms (s : State) :
    (dropRequest s).rooms = s.rooms := by unfold dropRequest; dsimp only; split <;> simp
@[simp] theorem dropRequest_period (s : State) :
    (dropRequest s).period = s.period := by unfold dropRequest; dsimp only; split <;> simp
@[simp] theorem dropRequest_arb (s : State) :
    (dropRequest s).arb = s.arb := by unfold dropRequest; dsimp only; split <;> simp
@[simp] theorem dropRequest_supply (s : State) :
    (dropRequest s).supply = s.supply := by unfold dropRequest; dsimp only; split <;> simp
@[simp] theorem dropRequest_house (s : State) :
    (dropRequest s).house = s.house := by unfold dropRequest; dsimp only; split <;> simp
@[simp] theorem dropRequest_store (s : State) :
    (dropRequest s).store = s.store := by unfold dropRequest; dsimp only; split <;> simp
@[simp] theorem dropRequest_msPhase (s : State) :
    (dropRequest s).msPhase = s.msPhase := by unfold dropRequest; dsimp only; split <;> simp
@[simp] theorem dropRequest_draws (s : State) :
    (dropRequest s).draws = s.draws := by unfold dropRequest; dsimp only; split <;> simp
@[simp] theorem dropRequest_pending (s : State) :
    (dropRequest s).pending = s.pending := by unfold dropRequest; dsimp only; split <;> simp

@[simp] theorem resetSegment_powered (a : Activity) (b : RoomBytes) (s : State) :
    (resetSegment a b s).powered = s.powered := by simp [resetSegment]
@[simp] theorem resetSegment_params (a : Activity) (b : RoomBytes) (s : State) :
    (resetSegment a b s).params = s.params := by simp [resetSegment]
@[simp] theorem resetSegment_loops (a : Activity) (b : RoomBytes) (s : State) :
    (resetSegment a b s).loops = s.loops := by simp [resetSegment]
@[simp] theorem resetSegment_channels (a : Activity) (b : RoomBytes) (s : State) :
    (resetSegment a b s).channels = s.channels := by simp [resetSegment]
@[simp] theorem resetSegment_test (a : Activity) (b : RoomBytes) (s : State) :
    (resetSegment a b s).test = s.test := by simp [resetSegment]
@[simp] theorem resetSegment_probes (a : Activity) (b : RoomBytes) (s : State) :
    (resetSegment a b s).probes = s.probes := by simp [resetSegment]
@[simp] theorem resetSegment_rooms (a : Activity) (b : RoomBytes) (s : State) :
    (resetSegment a b s).rooms = s.rooms := by simp [resetSegment]
@[simp] theorem resetSegment_toolRequest (a : Activity) (b : RoomBytes) (s : State) :
    (resetSegment a b s).toolRequest = s.toolRequest := by simp [resetSegment]
@[simp] theorem resetSegment_period (a : Activity) (b : RoomBytes) (s : State) :
    (resetSegment a b s).period = s.period := by simp [resetSegment]
@[simp] theorem resetSegment_arb (a : Activity) (b : RoomBytes) (s : State) :
    (resetSegment a b s).arb = s.arb := by simp [resetSegment]
@[simp] theorem resetSegment_supply (a : Activity) (b : RoomBytes) (s : State) :
    (resetSegment a b s).supply = s.supply := by simp [resetSegment]
@[simp] theorem resetSegment_house (a : Activity) (b : RoomBytes) (s : State) :
    (resetSegment a b s).house = s.house := by simp [resetSegment]
@[simp] theorem resetSegment_store (a : Activity) (b : RoomBytes) (s : State) :
    (resetSegment a b s).store = s.store := by simp [resetSegment]
@[simp] theorem resetSegment_msPhase (a : Activity) (b : RoomBytes) (s : State) :
    (resetSegment a b s).msPhase = s.msPhase := by simp [resetSegment]
@[simp] theorem resetSegment_draws (a : Activity) (b : RoomBytes) (s : State) :
    (resetSegment a b s).draws = s.draws := by simp [resetSegment]
@[simp] theorem resetSegment_pending (a : Activity) (b : RoomBytes) (s : State) :
    (resetSegment a b s).pending = s.pending := by simp [resetSegment]

/-! ### The House Port and the probes -/

@[simp] theorem takeMark_powered (m : Mark) (s : State) :
    (takeMark m s).powered = s.powered := by unfold takeMark; split <;> simp
@[simp] theorem takeMark_params (m : Mark) (s : State) :
    (takeMark m s).params = s.params := by unfold takeMark; split <;> simp
@[simp] theorem takeMark_loops (m : Mark) (s : State) :
    (takeMark m s).loops = s.loops := by unfold takeMark; split <;> simp
@[simp] theorem takeMark_channels (m : Mark) (s : State) :
    (takeMark m s).channels = s.channels := by unfold takeMark; split <;> simp
@[simp] theorem takeMark_test (m : Mark) (s : State) :
    (takeMark m s).test = s.test := by unfold takeMark; split <;> simp
@[simp] theorem takeMark_probes (m : Mark) (s : State) :
    (takeMark m s).probes = s.probes := by unfold takeMark; split <;> simp
@[simp] theorem takeMark_rooms (m : Mark) (s : State) :
    (takeMark m s).rooms = s.rooms := by unfold takeMark; split <;> simp
@[simp] theorem takeMark_seg (m : Mark) (s : State) :
    (takeMark m s).seg = s.seg := by unfold takeMark; split <;> simp
@[simp] theorem takeMark_toolRequest (m : Mark) (s : State) :
    (takeMark m s).toolRequest = s.toolRequest := by unfold takeMark; split <;> simp
@[simp] theorem takeMark_period (m : Mark) (s : State) :
    (takeMark m s).period = s.period := by unfold takeMark; split <;> simp
@[simp] theorem takeMark_arb (m : Mark) (s : State) :
    (takeMark m s).arb = s.arb := by unfold takeMark; split <;> simp
@[simp] theorem takeMark_supply (m : Mark) (s : State) :
    (takeMark m s).supply = s.supply := by unfold takeMark; split <;> simp
@[simp] theorem takeMark_store (m : Mark) (s : State) :
    (takeMark m s).store = s.store := by unfold takeMark; split <;> simp
@[simp] theorem takeMark_msPhase (m : Mark) (s : State) :
    (takeMark m s).msPhase = s.msPhase := by unfold takeMark; split <;> simp
@[simp] theorem takeMark_draws (m : Mark) (s : State) :
    (takeMark m s).draws = s.draws := by unfold takeMark; split <;> simp
@[simp] theorem takeMark_pending (m : Mark) (s : State) :
    (takeMark m s).pending = s.pending := by unfold takeMark; split <;> simp

@[simp] theorem closeExchange_powered (x : Exchange) (m : Mark) (s : State) :
    (closeExchange x m s).powered = s.powered := rfl
@[simp] theorem closeExchange_params (x : Exchange) (m : Mark) (s : State) :
    (closeExchange x m s).params = s.params := rfl
@[simp] theorem closeExchange_loops (x : Exchange) (m : Mark) (s : State) :
    (closeExchange x m s).loops = s.loops := rfl
@[simp] theorem closeExchange_channels (x : Exchange) (m : Mark) (s : State) :
    (closeExchange x m s).channels = s.channels := rfl
@[simp] theorem closeExchange_test (x : Exchange) (m : Mark) (s : State) :
    (closeExchange x m s).test = s.test := rfl
@[simp] theorem closeExchange_probes (x : Exchange) (m : Mark) (s : State) :
    (closeExchange x m s).probes = s.probes := rfl
@[simp] theorem closeExchange_rooms (x : Exchange) (m : Mark) (s : State) :
    (closeExchange x m s).rooms = s.rooms := rfl
@[simp] theorem closeExchange_seg (x : Exchange) (m : Mark) (s : State) :
    (closeExchange x m s).seg = s.seg := rfl
@[simp] theorem closeExchange_toolRequest (x : Exchange) (m : Mark) (s : State) :
    (closeExchange x m s).toolRequest = s.toolRequest := rfl
@[simp] theorem closeExchange_period (x : Exchange) (m : Mark) (s : State) :
    (closeExchange x m s).period = s.period := rfl
@[simp] theorem closeExchange_arb (x : Exchange) (m : Mark) (s : State) :
    (closeExchange x m s).arb = s.arb := rfl
@[simp] theorem closeExchange_supply (x : Exchange) (m : Mark) (s : State) :
    (closeExchange x m s).supply = s.supply := rfl
@[simp] theorem closeExchange_store (x : Exchange) (m : Mark) (s : State) :
    (closeExchange x m s).store = s.store := rfl
@[simp] theorem closeExchange_msPhase (x : Exchange) (m : Mark) (s : State) :
    (closeExchange x m s).msPhase = s.msPhase := rfl
@[simp] theorem closeExchange_draws (x : Exchange) (m : Mark) (s : State) :
    (closeExchange x m s).draws = s.draws := rfl
@[simp] theorem closeExchange_pending (x : Exchange) (m : Mark) (s : State) :
    (closeExchange x m s).pending = s.pending := rfl

@[simp] theorem recordResult_powered (r : Result) (k : Byte) (s : State) :
    (recordResult r k s).powered = s.powered := rfl
@[simp] theorem recordResult_params (r : Result) (k : Byte) (s : State) :
    (recordResult r k s).params = s.params := rfl
@[simp] theorem recordResult_loops (r : Result) (k : Byte) (s : State) :
    (recordResult r k s).loops = s.loops := rfl
@[simp] theorem recordResult_channels (r : Result) (k : Byte) (s : State) :
    (recordResult r k s).channels = s.channels := rfl
@[simp] theorem recordResult_test (r : Result) (k : Byte) (s : State) :
    (recordResult r k s).test = s.test := rfl
@[simp] theorem recordResult_probes (r : Result) (k : Byte) (s : State) :
    (recordResult r k s).probes = s.probes := rfl
@[simp] theorem recordResult_rooms (r : Result) (k : Byte) (s : State) :
    (recordResult r k s).rooms = s.rooms := rfl
@[simp] theorem recordResult_seg (r : Result) (k : Byte) (s : State) :
    (recordResult r k s).seg = s.seg := rfl
@[simp] theorem recordResult_toolRequest (r : Result) (k : Byte) (s : State) :
    (recordResult r k s).toolRequest = s.toolRequest := rfl
@[simp] theorem recordResult_period (r : Result) (k : Byte) (s : State) :
    (recordResult r k s).period = s.period := rfl
@[simp] theorem recordResult_arb (r : Result) (k : Byte) (s : State) :
    (recordResult r k s).arb = s.arb := rfl
@[simp] theorem recordResult_supply (r : Result) (k : Byte) (s : State) :
    (recordResult r k s).supply = s.supply := rfl
@[simp] theorem recordResult_store (r : Result) (k : Byte) (s : State) :
    (recordResult r k s).store = s.store := rfl
@[simp] theorem recordResult_msPhase (r : Result) (k : Byte) (s : State) :
    (recordResult r k s).msPhase = s.msPhase := rfl
@[simp] theorem recordResult_draws (r : Result) (k : Byte) (s : State) :
    (recordResult r k s).draws = s.draws := rfl
@[simp] theorem recordResult_pending (r : Result) (k : Byte) (s : State) :
    (recordResult r k s).pending = s.pending := rfl

@[simp] theorem countError_powered (s : State) :
    (countError s).powered = s.powered := rfl
@[simp] theorem countError_params (s : State) :
    (countError s).params = s.params := rfl
@[simp] theorem countError_loops (s : State) :
    (countError s).loops = s.loops := rfl
@[simp] theorem countError_channels (s : State) :
    (countError s).channels = s.channels := rfl
@[simp] theorem countError_test (s : State) :
    (countError s).test = s.test := rfl
@[simp] theorem countError_probes (s : State) :
    (countError s).probes = s.probes := rfl
@[simp] theorem countError_rooms (s : State) :
    (countError s).rooms = s.rooms := rfl
@[simp] theorem countError_seg (s : State) :
    (countError s).seg = s.seg := rfl
@[simp] theorem countError_toolRequest (s : State) :
    (countError s).toolRequest = s.toolRequest := rfl
@[simp] theorem countError_period (s : State) :
    (countError s).period = s.period := rfl
@[simp] theorem countError_arb (s : State) :
    (countError s).arb = s.arb := rfl
@[simp] theorem countError_supply (s : State) :
    (countError s).supply = s.supply := rfl
@[simp] theorem countError_store (s : State) :
    (countError s).store = s.store := rfl
@[simp] theorem countError_msPhase (s : State) :
    (countError s).msPhase = s.msPhase := rfl
@[simp] theorem countError_draws (s : State) :
    (countError s).draws = s.draws := rfl
@[simp] theorem countError_pending (s : State) :
    (countError s).pending = s.pending := rfl

@[simp] theorem sampleLine_powered (i : ProbeIx) (l : List LineRun) (s : State) :
    (sampleLine i l s).powered = s.powered := rfl
@[simp] theorem sampleLine_params (i : ProbeIx) (l : List LineRun) (s : State) :
    (sampleLine i l s).params = s.params := rfl
@[simp] theorem sampleLine_loops (i : ProbeIx) (l : List LineRun) (s : State) :
    (sampleLine i l s).loops = s.loops := rfl
@[simp] theorem sampleLine_channels (i : ProbeIx) (l : List LineRun) (s : State) :
    (sampleLine i l s).channels = s.channels := rfl
@[simp] theorem sampleLine_test (i : ProbeIx) (l : List LineRun) (s : State) :
    (sampleLine i l s).test = s.test := rfl
@[simp] theorem sampleLine_rooms (i : ProbeIx) (l : List LineRun) (s : State) :
    (sampleLine i l s).rooms = s.rooms := rfl
@[simp] theorem sampleLine_seg (i : ProbeIx) (l : List LineRun) (s : State) :
    (sampleLine i l s).seg = s.seg := rfl
@[simp] theorem sampleLine_toolRequest (i : ProbeIx) (l : List LineRun) (s : State) :
    (sampleLine i l s).toolRequest = s.toolRequest := rfl
@[simp] theorem sampleLine_period (i : ProbeIx) (l : List LineRun) (s : State) :
    (sampleLine i l s).period = s.period := rfl
@[simp] theorem sampleLine_arb (i : ProbeIx) (l : List LineRun) (s : State) :
    (sampleLine i l s).arb = s.arb := rfl
@[simp] theorem sampleLine_supply (i : ProbeIx) (l : List LineRun) (s : State) :
    (sampleLine i l s).supply = s.supply := rfl
@[simp] theorem sampleLine_house (i : ProbeIx) (l : List LineRun) (s : State) :
    (sampleLine i l s).house = s.house := rfl
@[simp] theorem sampleLine_store (i : ProbeIx) (l : List LineRun) (s : State) :
    (sampleLine i l s).store = s.store := rfl
@[simp] theorem sampleLine_msPhase (i : ProbeIx) (l : List LineRun) (s : State) :
    (sampleLine i l s).msPhase = s.msPhase := rfl
@[simp] theorem sampleLine_draws (i : ProbeIx) (l : List LineRun) (s : State) :
    (sampleLine i l s).draws = s.draws := rfl
@[simp] theorem sampleLine_pending (i : ProbeIx) (l : List LineRun) (s : State) :
    (sampleLine i l s).pending = s.pending := rfl

/-! ### Reset -/

@[simp] theorem resetBlocks_powered (s : State) :
    (resetBlocks s).powered = s.powered := rfl
@[simp] theorem resetBlocks_params (s : State) :
    (resetBlocks s).params = s.params := rfl
@[simp] theorem resetBlocks_seg (s : State) :
    (resetBlocks s).seg = s.seg := rfl
@[simp] theorem resetBlocks_toolRequest (s : State) :
    (resetBlocks s).toolRequest = s.toolRequest := rfl
@[simp] theorem resetBlocks_house (s : State) :
    (resetBlocks s).house = s.house := rfl
@[simp] theorem resetBlocks_msPhase (s : State) :
    (resetBlocks s).msPhase = s.msPhase := rfl
@[simp] theorem resetBlocks_draws (s : State) :
    (resetBlocks s).draws = s.draws := rfl
@[simp] theorem resetBlocks_pending (s : State) :
    (resetBlocks s).pending = s.pending := rfl

@[simp] theorem autorun_powered (s : State) :
    (autorun s).powered = s.powered := by unfold autorun; split <;> simp
@[simp] theorem autorun_params (s : State) :
    (autorun s).params = s.params := by unfold autorun; split <;> simp
@[simp] theorem autorun_probes (s : State) :
    (autorun s).probes = s.probes := by unfold autorun; split <;> simp
@[simp] theorem autorun_rooms (s : State) :
    (autorun s).rooms = s.rooms := by unfold autorun; split <;> simp
@[simp] theorem autorun_seg (s : State) :
    (autorun s).seg = s.seg := by unfold autorun; split <;> simp
@[simp] theorem autorun_toolRequest (s : State) :
    (autorun s).toolRequest = s.toolRequest := by unfold autorun; split <;> simp
@[simp] theorem autorun_house (s : State) :
    (autorun s).house = s.house := by unfold autorun; split <;> simp
@[simp] theorem autorun_store (s : State) :
    (autorun s).store = s.store := by unfold autorun; split <;> simp
@[simp] theorem autorun_msPhase (s : State) :
    (autorun s).msPhase = s.msPhase := by unfold autorun; split <;> simp
@[simp] theorem autorun_draws (s : State) :
    (autorun s).draws = s.draws := by unfold autorun; split <;> simp
@[simp] theorem autorun_pending (s : State) :
    (autorun s).pending = s.pending := by unfold autorun; split <;> simp

end Sys2Proof.Machine
end

