-- ==== Sys2Proof/Laws/Channels.lean ====
section
/-! SUPPORT. Releases and grants: what they do to one channel, that neither moves the flow count, and
so neither moves the pump request (R127). -/

namespace Sys2Proof.Machine

/-- A pump request machine told of no change stays as it is. -/
@[simp] theorem pumpMove_same (n hold : Nat) (p : Supply) : pumpMove n n hold p = p := by
  unfold pumpMove
  split
  · rfl
  · rw [if_neg (by omega), if_neg (by omega)]

@[simp] theorem Valve.released_flows (t : Nat) (v : Valve) : (v.released t).flows = v.flows := by
  cases v <;> rfl

@[simp] theorem Channel.release_valve_flows (t : Nat) (c : Channel) :
    (c.release t).valve.flows = c.valve.flows := by
  unfold Channel.release
  split <;> simp

@[simp] theorem Channel.energise_valve_flows (t : Nat) (x : Option Nat) (c : Channel) :
    (c.energise t x).valve.flows = c.valve.flows := by
  unfold Channel.energise
  cases c.valve <;> rfl

/-- Channels whose valves flow alike have one flow count. -/
theorem flowCount_congr {a b : Bank Channel 16}
    (h : ∀ i, (a.get i).valve.flows = (b.get i).valve.flows) : flowCount a = flowCount b := by
  unfold flowCount
  exact List.countP_congr fun i _ => by rw [h i]

theorem flowCount_pos (cs : Bank Channel 16) :
    0 < flowCount cs ↔ ∃ i, (cs.get i).valve.flows = true := countP_allLoops_pos _

theorem flowCount_zero (cs : Bank Channel 16) :
    flowCount cs = 0 ↔ ∀ i, (cs.get i).valve.flows = false := countP_allLoops_zero _

/-- A change of channels that leaves every valve's flow alone leaves the supply alone. -/
theorem putChannels_of_flows {cs : Bank Channel 16} {s : State}
    (h : ∀ i, (cs.get i).valve.flows = (s.channels.get i).valve.flows) :
    putChannels cs s = s.setChannels cs := by
  unfold putChannels
  rw [flowCount_congr h, pumpMove_same]
  rfl

@[simp] theorem putChannels_channels (cs : Bank Channel 16) (s : State) :
    (putChannels cs s).channels = cs := rfl

@[simp] theorem putChannel_channels (i : LoopIx) (c : Channel) (s : State) :
    (putChannel i c s).channels = s.channels.set i c := rfl

theorem putChannel_of_flows {i : LoopIx} {c : Channel} {s : State}
    (h : c.valve.flows = (s.channels.get i).valve.flows) :
    putChannel i c s = s.setChannels (s.channels.set i c) := by
  apply putChannels_of_flows
  intro j
  rw [Bank.get_set]
  split
  · next e => rw [e, h]
  · rfl

/-! ## Release (R8) -/

/-- A channel after a release of the selected channels. -/
@[simp] theorem releaseWhere_channels (sel : LoopIx → Bool) (s : State) (i : LoopIx) :
    (releaseWhere sel s).channels.get i =
      if sel i then (s.channels.get i).release s.period.eff.tClose else s.channels.get i := by
  unfold releaseWhere
  dsimp only
  split
  · split <;> simp only [State.setTest_channels, putChannels_channels, Bank.get_imap]
  · simp only [putChannels_channels, Bank.get_imap]
  · simp only [putChannels_channels, Bank.get_imap]

/-- A release moves no pump request. -/
@[simp] theorem releaseWhere_supply (sel : LoopIx → Bool) (s : State) :
    (releaseWhere sel s).supply = s.supply := by
  have h : (putChannels (s.channels.imap fun i c =>
      if sel i then c.release s.period.eff.tClose else c) s).supply = s.supply := by
    rw [putChannels_of_flows (by intro i; simp only [Bank.get_imap]; split <;> simp)]
    rfl
  unfold releaseWhere
  dsimp only
  split
  · split
    · exact h
    · exact h
  · exact h
  · exact h

@[simp] theorem Channel.release_energised (t : Nat) (c : Channel) :
    (c.release t).energised = false := by
  unfold Channel.release
  split <;> simp_all

theorem Channel.release_of_released (t : Nat) {c : Channel} (h : c.energised = false) :
    c.release t = c := by simp [Channel.release, h]

@[simp] theorem Channel.release_condition (t : Nat) (c : Channel) :
    (c.release t).condition = c.condition := by
  unfold Channel.release
  split <;> rfl

@[simp] theorem Channel.release_energisedSeconds (t : Nat) (c : Channel) :
    (c.release t).energisedSeconds = c.energisedSeconds := by
  unfold Channel.release
  split <;> rfl

/-- A release of channels that are all released changes no channel. -/
theorem releaseWhere_idle {sel : LoopIx → Bool} {s : State} (h : anyEnergised sel s = false) :
    releaseWhere sel s = s := by
  have hc : ∀ i, sel i = true → (s.channels.get i).energised = false := by
    simpa [anyEnergised] using h
  have hb : (s.channels.imap fun i c =>
      if sel i then c.release s.period.eff.tClose else c) = s.channels := by
    apply Bank.imap_eq_self
    intro i
    split
    · next e => exact Channel.release_of_released _ (hc i e)
    · rfl
  have hp : putChannels s.channels s = s := by
    rw [putChannels_of_flows fun _ => rfl]; rfl
  unfold releaseWhere
  rw [hb, hp]
  dsimp only
  split
  · next i _ _ _ =>
    rw [if_neg]
    simp only [Bool.and_eq_true, not_and, Bool.not_eq_true]
    exact hc i
  · rfl
  · rfl

/-! ## Grant (R118) -/

@[simp] theorem grantHead_supply (s : State) : (grantHead s).supply = s.supply := by
  have h (i : LoopIx) (x : Option Nat) (t : State) :
      (putChannel i ((t.channels.get i).energise t.period.eff.tOpen x) t).supply = t.supply := by
    rw [putChannel_of_flows (by simp)]
    rfl
  unfold grantHead
  split
  · rfl
  · exact h _ _ (s.setArb _)
  · dsimp only
    split <;> exact h _ _ (s.setArb _)

@[simp] theorem grantsUpTo_supply (n : Nat) (s : State) : (grantsUpTo n s).supply = s.supply := by
  induction n generalizing s with
  | zero => rfl
  | succ n ih => unfold grantsUpTo; split <;> simp [ih]

@[simp] theorem opportunity_supply (s : State) : (opportunity s).supply = s.supply := by
  simp [opportunity]

@[simp] theorem releaseAndOffer_supply (sel : LoopIx → Bool) (s : State) :
    (releaseAndOffer sel s).supply = s.supply := by
  unfold releaseAndOffer
  split <;> simp

/-- With nothing in the queue an opportunity brings no grant. -/
theorem grantsUpTo_of_empty (n : Nat) {s : State} (h : s.arb.queue = []) : grantsUpTo n s = s := by
  cases n with
  | zero => rfl
  | succ n => simp [grantsUpTo, grantReady, h]

theorem opportunity_of_empty {s : State} (h : s.arb.queue = []) : opportunity s = s := by
  simp [opportunity, grantsUpTo_of_empty _ h]

/-- With the conditions of R115 unmet an opportunity brings no grant. -/
theorem grantsUpTo_of_not_ready (n : Nat) {s : State} (h : grantReady s = false) :
    grantsUpTo n s = s := by
  cases n with
  | zero => rfl
  | succ n => simp [grantsUpTo, h]

theorem opportunity_of_not_ready {s : State} (h : grantReady s = false) : opportunity s = s := by
  simp [opportunity, grantsUpTo_of_not_ready _ h]

/-- With a spacing above 0 an opportunity grants the head at most (R116). -/
theorem opportunity_of_spacing {s : State} (h : s.period.eff.spacing ≠ 0) :
    opportunity s = if grantReady s then grantHead s else s := by
  simp [opportunity, h, grantsUpTo]

/-- Releasing with an empty queue is a release and nothing else. -/
theorem releaseAndOffer_of_empty (sel : LoopIx → Bool) {s : State} (h : s.arb.queue = []) :
    releaseAndOffer sel s = releaseWhere sel s := by
  unfold releaseAndOffer
  split
  · exact opportunity_of_empty (by simpa using h)
  · next e => rw [releaseWhere_idle (by simpa using e)]

end Sys2Proof.Machine
end

