-- ==== Sys2Proof/Laws/Operations.lean ====
section
/-! SUPPORT. One lemma for each shared operation, saying once what it can do: a command under power, a
timer event, a frame at the own address, a release, a grant opportunity, and the arithmetic of a pass. -/

namespace Sys2Proof.Machine

/-! ## What the room segment carries -/

/-- Every reply byte that the 716 clocks in has its slot (R52). -/
theorem clockedReply_slots (low high : Nat) (cut : Bool) (bytes : List Byte) :
    (clockedReply low high cut bytes).2.length = (clockedReply low high cut bytes).1.length := by
  unfold clockedReply receivedReply
  dsimp only
  split
  · rfl
  · split <;> simp

/-- Bytes that the unit does not drive read as 0xFF (log 19). -/
theorem undriven_bytes (more : List Byte) (n : Nat) :
    (List.range n).map (fun i => more.getD i 0xFF)
      = more.take n ++ List.replicate (n - more.length) 0xFF := by
  apply List.ext_getElem
  · simp; omega
  · intro i h _
    by_cases short : i < more.length
    · have : i < n := by simpa using h
      simp [List.getD_eq_getElem?_getD, short, this]
    · simp [List.getElem_append, List.getD_eq_getElem?_getD, short]

/-- What is clocked in of a reply whose length is taken: the bytes as they came, filled up with 0xFF where the
transaction was not cut short, and a slot for each (R52). -/
theorem clockedReply_taken {low high : Nat} {len : Byte} (least : low ≤ len.toNat)
    (most : len.toNat ≤ high) (more : List Byte) (cut : Bool) :
    let came := if cut then more.length + 1 else len.toNat + 2
    clockedReply low high cut (len :: more)
      = ((len :: more.take (len.toNat + 1) ++ List.replicate (len.toNat + 1 - more.length) 0xFF).take came,
          (List.replicate (len.toNat + 1) true ++ [false]).take came) := by
  have line := undriven_bytes more (len.toNat + 1)
  rw [List.range_succ, List.map_append, List.map_singleton] at line
  simp only [clockedReply, receivedReply, List.getD_cons_zero, List.getD_cons_succ, least, most, and_self,
    if_true, List.length_cons, reduceCtorEq, and_false, if_false, List.cons_append, line]

/-- A length that is not taken is the last byte, and is not acknowledged (R52). -/
theorem clockedReply_bad {low high : Nat} {len : Byte} (bad : len.toNat < low ∨ high < len.toNat)
    (more : List Byte) (cut : Bool) :
    clockedReply low high cut (len :: more) = ([len], [false]) := by
  have : ¬ (low ≤ len.toNat ∧ len.toNat ≤ high) := by omega
  simp [clockedReply, receivedReply, this]

/-- What the segment carries in a transaction is as R52 says, however it ends. -/
theorem carriedBytes_carriedIn (x : Transaction) (lengths : Option (Nat × Nat)) (e : RoomEnding) :
    CarriedIn x lengths e (carriedBytes x lengths e) := by
  have cut : x.cut = true ↔ x.timedOut = true ∨ x.ended = true := by simp [Transaction.cut]
  refine ⟨?_, fun kept => ⟨?_, ?_, ?_⟩⟩
  · rintro k rfl
    rfl
  · cases e <;> cases lengths <;> first | rfl | exact absurd rfl (kept _)
  · rintro rfl
    cases e <;> exact ⟨rfl, rfl⟩
  rintro low high rfl
  refine ⟨fun none => ?_, ?_⟩
  · have : carriedBytes x (some (low, high)) e
        = ⟨x.sent, (clockedReply low high x.cut []).1, (clockedReply low high x.cut []).2⟩ := by
      obtain rfl | rfl := none <;> rfl
    rw [this, ← cut]
    refine ⟨fun h => by simp [clockedReply, h], fun h room => ?_⟩
    have bad : ¬ (low ≤ 255 ∧ 255 ≤ high) := by omega
    have : clockedReply low high x.cut [] = ([0xFF], [false]) := by
      unfold clockedReply
      exact (if_neg fun g => h g.1).trans (if_neg bad)
    simp [this]
  · rintro len more rfl
    refine ⟨fun bad => ?_, fun least most => ⟨fun long => ?_, fun short h => ?_, fun short h => ?_⟩⟩
    · simp [carriedBytes, endingBytes, clockedReply_bad bad]
    all_goals simp only [carriedBytes, endingBytes, clockedReply_taken least most more x.cut]
    · have filled : len.toNat + 1 - more.length = 0 := by omega
      cases x.cut <;> simp [filled, long]
    · have whole : more.take (len.toNat + 1) = more := List.take_of_length_le (by omega)
      have slots : min more.length len.toNat = more.length := by omega
      have before : more.length - len.toNat = 0 := by omega
      simp [cut.mpr h, whole, List.take_append, slots, before]
    · have whole : more.take (len.toNat + 1) = more := List.take_of_length_le (by omega)
      have : x.cut = false := by simpa using mt cut.mp h
      simp [this, whole]
      omega

@[simp] theorem endCycle_carried (s : State) : (endCycle s).seg.carried = s.seg.carried := by
  unfold endCycle
  split <;> (try split) <;> (try split) <;> rfl

@[simp] theorem arbitrate_carried (s : State) : (arbitrate s).seg.carried = s.seg.carried := by
  unfold arbitrate
  dsimp only
  split <;> (try split) <;> (try split) <;> (try split) <;> (try split) <;>
    simp [setActivity, beginForward, beginPoll, setSlot]

@[simp] theorem cycleDue_carried (s : State) : (cycleDue s).seg.carried = s.seg.carried := by
  unfold cycleDue
  dsimp only
  split <;> split <;> simp

@[simp] theorem pollExpiry_carried (s : State) : (pollExpiry s).seg.carried = s.seg.carried := by
  simp [pollExpiry]

@[simp] theorem resetSegment_carried (a : Activity) (b : RoomBytes) (s : State) :
    (resetSegment a b s).seg.carried = b := by
  simp [resetSegment]

@[simp] theorem endForward_carried (t : Transaction) (e : RoomEnding) (k : Option Nat) (s : State) :
    (endForward t e k s).seg.carried = s.seg.carried := by
  unfold endForward
  dsimp only
  split <;> (try split) <;> simp [setSlot]

/-- What a poll carried stays to be read after it (R52, log 23). -/
theorem endTransaction_carried_poll {r : RoomIx} {t : Transaction} {s : State}
    (poll : s.seg.activity = .polling r t) (e : RoomEnding) (k : Option Nat) :
    (endTransaction e k s).seg.carried = carriedBytes t pollLengths e := by
  unfold endTransaction
  rw [poll]
  dsimp only
  split <;> simp [leaveSegment]

/-- What a forward carried stays to be read after it (R52, log 23). -/
theorem endTransaction_carried_forward {t : Transaction} {s : State}
    (forward : s.seg.activity = .forwarding t) (e : RoomEnding) (k : Option Nat) :
    (endTransaction e k s).seg.carried = carriedBytes t (forwardLengths t) e := by
  unfold endTransaction
  rw [forward]
  simp only [arbitrate_carried, endCycle_carried]
  split <;> simp [leaveSegment]

/-! ## Commands and timer events -/

/-- A command without power leaves the state, with power it makes its change and drives the lines. -/
theorem whenPowered_next (f : State → State) (s t : State) :
    whenPowered f s = .next t ↔
      (s.powered = false ∧ t = s) ∨ (s.powered = true ∧ t = driveLines (f s)) := by
  unfold whenPowered
  cases s.powered <;> simp [eq_comm]

theorem whenPowered_of_powered {f : State → State} {s : State} (h : s.powered = true) :
    whenPowered f s = .next (driveLines (f s)) := by simp [whenPowered, h]

theorem whenPowered_of_unpowered {f : State → State} {s : State} (h : s.powered = false) :
    whenPowered f s = .next s := by simp [whenPowered, h]

/-- Driving the lines twice drives them once. -/
@[simp] theorem driveLines_driveLines (s : State) : driveLines (driveLines s) = driveLines s := by
  have h (src : Source) : sourceActive (driveLines s) src = sourceActive s src := by
    cases src <;> rfl
  simp [driveLines, lineLevel, State.setSupply] at h ⊢
  simp [h]

theorem timed_of_due {a : Nat} {due : State → Bool} {f : State → State} {s : State}
    (h : due (elapse a s) = true) : timed a due f s = f (elapse a s) := by simp [timed, h]

theorem timed_of_not_due {a : Nat} {due : State → Bool} {f : State → State} {s : State}
    (h : due (elapse a s) = false) : timed a due f s = elapse a s := by simp [timed, h]

/-! ## Frames at the own address -/

/-- The sum of a joined list of bytes. -/
theorem sum8_append (a b : List Byte) : sum8 (a ++ b) = sum8 a + sum8 b := by
  induction a with
  | nil => simp [sum8]
  | cons x a ih => simp only [sum8, List.cons_append, List.foldr_cons] at *; rw [ih, BitVec.add_assoc]

/-- A check byte brings the sum of the bytes before it to zero (R141). -/
theorem sum8_checkByte (bs : List Byte) : sum8 (bs ++ [checkByte bs]) = 0 := by
  rw [sum8_append]
  show sum8 bs + (-(sum8 bs) + 0) = 0
  simp

/-- A frame that the owner decides: its result is recorded on what the owner leaves (R144, R155). -/
theorem ownSend_good (k : SendKind) (owner : Owner) (payload : List Byte) (m : Mark) {s : State}
    (held : s.house.held = false) (len : payload.length ∈ k.lengths)
    (agrees : k.lengthAgrees payload = true) :
    ownSend k owner (goodFrame s k payload m) s =
      let (r, t) := owner payload s
      let bytes := sendBytes s.house.own k payload
      recordResult r k.code
        (closeExchange (if r.accepted then takenBytes bytes .own else refusedBytes bytes) m t) := by
  have short : payload.length < 256 := by
    cases k <;>
      simp only [SendKind.lengths, List.mem_cons, List.not_mem_nil, or_false] at len <;> omega
  have size : (byteOf payload.length).toNat = payload.length := by
    simp [byteOf, Nat.mod_eq_of_lt short]
  have sum : sum8 (sendBytes s.house.own k payload) = 0 := sum8_checkByte _
  have bytes : (goodFrame s k payload m).bytes =
      byteOf payload.length :: (payload ++ [checkByte (sendHead s.house.own k payload)]) := rfl
  have whole : [headerByte s.house.own false, k.code] ++ byteOf payload.length :: payload
      ++ [checkByte (sendHead s.house.own k payload)] = sendBytes s.house.own k payload := rfl
  unfold ownSend
  simp only [held, bytes, size, List.contains_eq_mem, len, decide_true, Bool.not_true,
    Bool.false_eq_true, if_false, List.take_left', List.drop_left', whole, sum, ne_eq,
    not_true_eq_false, agrees]
  rfl

/-- A selector in range is answered, one out of range is not acknowledged (R145). -/
theorem ownFetch_cases (k : FetchKind) (reply : Byte → State → Option (List Byte)) (f : FetchFrame)
    {s : State} (held : s.house.held = false) :
    let head := [headerByte s.house.own true, k.code, f.selector]
    (reply f.selector s = none →
      ownFetch k reply f s = closeExchange (refusedBytes head) f.mark s)
    ∧ ∀ p, reply f.selector s = some p →
      ownFetch k reply f s = closeExchange (answered head p f.nackAt .own) f.mark s := by
  constructor
  · intro h; simp [ownFetch, held, h]
  · intro p h; simp [ownFetch, held, h]

/-! ## Releases and grants -/

/-- A release is the one the manual's table gives (R8, R15). -/
theorem Channel.release_eq_afterRelease (t : Nat) (c : Channel) : c.release t = c.afterRelease t := by
  unfold Channel.release Channel.afterRelease
  split
  · cases c.valve <;> rfl
  · rfl

/-- A grant's energising is the one the manual's table gives (R7, R15). -/
theorem Channel.energise_eq_afterGrant (t : Nat) (x : Option Nat) (c : Channel) :
    c.energise t x = c.afterGrant t x := by
  unfold Channel.energise Channel.afterGrant
  cases c.valve <;> rfl

/-- The conditions of R115. -/
theorem grantReady_iff (s : State) :
    grantReady s = true ↔ s.arb.queue ≠ [] ∧ Grantable s := by
  unfold grantReady Grantable
  cases s.arb.sinceGrant <;> simp [and_assoc]

/-- A loop at the head, granted (R118, R119). -/
theorem grantHead_loop {s : State} {i : LoopIx} {q : List QueueEntry}
    (h : s.arb.queue = .loop i :: q) : grantHead s = s.afterLoopGrant i q := by
  unfold grantHead
  rw [h]
  dsimp only
  rw [putChannel_of_flows (by simp)]
  unfold State.afterLoopGrant grantClose
  rw [Channel.energise_eq_afterGrant]
  cases (s.loops.get i).cls <;>
    simp [updateRecord, State.setPeriod, State.setArb, State.setChannels]

/-- A test entry at the head, granted (R118, R19). -/
theorem grantHead_test {s : State} {i j : LoopIx} {d : Nat} {q : List QueueEntry}
    (h : s.arb.queue = .test i :: q) (t : s.test = .queued j d) :
    grantHead s = s.afterTestGrant i j d q := by
  unfold grantHead
  rw [h]
  dsimp only
  rw [putChannel_of_flows (by simp), Channel.energise_eq_afterGrant, t]
  rfl

/-- A grant is the one the manual's rules give, whatever the head is. -/
theorem grantHead_eq_afterHeadGrant (s : State) : grantHead s = s.afterHeadGrant := by
  unfold State.afterHeadGrant
  split
  · next h => simp [grantHead, h]
  · next i q h => exact grantHead_loop h
  · next i q h =>
    have plain (n : ∀ j d, s.test ≠ .queued j d) : grantHead s = { s with
        channels := s.channels.set i ((s.channels.get i).afterGrant s.period.eff.tOpen none)
        arb := { s.arb with queue := q, sinceGrant := some 0 } } := by
      unfold grantHead
      rw [h]
      dsimp only
      rw [putChannel_of_flows (by simp), Channel.energise_eq_afterGrant]
      split
      · next t => exact absurd t (n _ _)
      · rfl
      · rfl
    split
    · next t => exact grantHead_test h t
    · next t => exact plain (by simp [t])
    · next t => exact plain (by simp [t])

/-- A grant takes the head off the queue. -/
theorem grantHead_queue (s : State) : (grantHead s).arb.queue = s.arb.queue.drop 1 := by
  unfold grantHead
  split
  · simp [*]
  · next h => simp [h, updateRecord]
  · next h => dsimp only; split <;> simp [h]

@[simp] theorem grantHead_plan (s : State) : (grantHead s).arb.plan = s.arb.plan := by
  unfold grantHead
  split
  · rfl
  · simp [updateRecord]
  · dsimp only; split <;> simp

@[simp] theorem grantsUpTo_plan (n : Nat) (s : State) : (grantsUpTo n s).arb.plan = s.arb.plan := by
  induction n generalizing s with
  | zero => rfl
  | succ n ih => unfold grantsUpTo; split <;> simp [ih]

/-- A grant changes the current-period records of the period, and nothing else of it. -/
@[simp] theorem grantHead_eff (s : State) : (grantHead s).period.eff = s.period.eff := by
  unfold grantHead
  split
  · rfl
  · rfl
  · dsimp only; split <;> rfl

/-- With start spacing 0, heads are granted one after another, each while the energised count is below the
holding limit, until the queue is empty or the limit is reached (R116). -/
theorem grantsUpTo_spacing_zero {n : Nat} {s : State} (spacing : s.period.eff.spacing = 0)
    (len : s.arb.queue.length ≤ n) :
    ∃ m, m ≤ s.arb.queue.length ∧ grantsUpTo n s = s.afterGrants m
      ∧ (∀ j, j < m → energisedCount (s.afterGrants j) < s.period.eff.limit)
      ∧ (m = s.arb.queue.length ∨ s.period.eff.limit ≤ energisedCount (grantsUpTo n s)) := by
  induction n generalizing s with
  | zero => exact ⟨0, Nat.zero_le _, rfl, by simp, .inl (Nat.le_zero.mp len).symm⟩
  | succ n ih =>
    unfold grantsUpTo
    by_cases g : grantReady s = true
    · rw [if_pos g]
      have gr := (grantReady_iff s).mp g
      have pos : 0 < s.arb.queue.length := List.length_pos_iff.mpr gr.1
      have step (j : Nat) : s.afterGrants (j + 1) = (grantHead s).afterGrants j := by
        rw [State.afterGrants, grantHead_eq_afterHeadGrant]
      obtain ⟨m, le, eq, room, done⟩ := ih (s := grantHead s) (by simpa using spacing)
        (by rw [grantHead_queue, List.length_drop]; omega)
      rw [grantHead_queue, List.length_drop] at le done
      refine ⟨m + 1, by omega, by rw [eq, step], ?_, ?_⟩
      · intro j lt
        cases j with
        | zero => exact gr.2.1
        | succ j =>
          rw [step]
          simpa using room j (by omega)
      · rcases done with done | done
        · exact .inl (by omega)
        · exact .inr (by simpa using done)
    · rw [if_neg g]
      refine ⟨0, Nat.zero_le _, rfl, by simp, ?_⟩
      rw [grantReady_iff, Grantable, spacing] at g
      by_cases e : s.arb.queue = []
      · exact .inl (by simp [e])
      · exact .inr (by simpa [e] using g)

/-- A grant opportunity does what R115, R116 and R118 say, and nothing else. -/
theorem opportunity_after (s : State) : AfterOpportunity s (opportunity s) := by
  refine ⟨?_, ?_, ?_⟩
  · rintro (h | h)
    · exact opportunity_of_empty h
    · exact opportunity_of_not_ready (by
        rw [← Bool.not_eq_true, grantReady_iff]; exact fun x => h x.2)
  · intro q g pos
    rw [opportunity_of_spacing (by omega), if_pos ((grantReady_iff s).mpr ⟨q, g⟩),
      grantHead_eq_afterHeadGrant]
  · intro _ _ zero
    have e : opportunity s = grantsUpTo s.arb.queue.length s := by simp [opportunity, zero]
    rw [e]
    exact grantsUpTo_spacing_zero zero (Nat.le_refl _)

/-! ## Early close (R80) and ticks (R69) -/

/-- A demand drop of rooms none of whose loops is left to close changes nothing (R78, R80). -/
theorem demandDrop_of_none {rooms : RoomIx → Bool} {s : State}
    (h : ∀ i, droppedLoop rooms s i = false) : demandDrop rooms s = s := by
  have none : droppedLoop rooms s = fun _ => false := funext h
  have marks : markClosed (fun _ => false) s = s := by
    have same (b : Bank PeriodRecord 16) : (b.imap fun _ x => x) = b :=
      Bank.imap_eq_self _ b fun _ => rfl
    have map : s.period.records.map (fun b => b.imap fun _ x => x) = s.period.records := by
      cases s.period.records <;> simp [same]
    simp only [markClosed, updateRecords, State.setPeriod, Bool.false_eq_true, if_false, map]
  have drops : dropLoops (fun _ => false) s = s := by
    have plan : (s.arb.plan.filter fun _ => !false) = s.arb.plan := List.filter_eq_self.mpr (by simp)
    unfold dropLoops State.setArb
    rw [plan, List.filter_eq_self.mpr fun e _ => by cases e <;> rfl]
  have off : classOff (fun _ => false) s = s := by
    simp only [classOff, State.setLoops, Bool.false_eq_true, if_false]
    rw [Bank.imap_eq_self _ s.loops fun _ => rfl]
  have rel : releaseAndOffer (fun _ => false) s = s := by
    simp [releaseAndOffer, anyEnergised]
  unfold demandDrop
  split
  · rw [none, marks, closeLoops, drops, off, rel]
  · rfl

/-- Reports of no room change nothing. -/
@[simp] theorem demandDrop_false (s : State) : demandDrop (fun _ => false) s = s :=
  demandDrop_of_none fun i => by cases r : (s.loops.get i).cfg.room <;> simp [droppedLoop, r]

/-- While no boundary is due, every demand-drop report is taken at once (R50). -/
theorem reportDrops_of_not_due {rooms : RoomIx → Bool} {s : State} (h : boundaryDue s = false) :
    reportDrops rooms s = demandDrop rooms s := by
  have w (r : RoomIx) : dropWaits s r = false := by simp [dropWaits, h]
  have keep : holdDrops (fun _ => false) s = s := by simp [holdDrops, State.setPeriod]
  simp [reportDrops, w, keep, drawsOrder, h]

/-- Outside RUNNING a demand-drop report changes nothing (R80). -/
theorem reportDrops_of_not_running {rooms : RoomIx → Bool} {s : State} (h : s.period.mode ≠ .running) :
    reportDrops rooms s = s := by
  have w (r : RoomIx) : dropWaits s r = false := by simp [dropWaits, h]
  have keep : holdDrops (fun _ => false) s = s := by simp [holdDrops, State.setPeriod]
  simp [reportDrops, w, keep, drawsOrder, demandDrop, h]

/-- With no tick due, none is taken. -/
theorem takeTicks_of_none {s : State} (h : tickDue s = false) (n : Nat) : takeTicks n s = s := by
  cases n <;> simp [takeTicks, h]

/-- Reports of no room change nothing. -/
@[simp] theorem reportDrops_false (s : State) : reportDrops (fun _ => false) s = s := by
  have keep : holdDrops (fun _ => false) s = s := by simp [holdDrops, State.setPeriod]
  simp [reportDrops, drawsOrder, keep]

/-- Where no demand falls to 0, the changed rooms are all that changes (R50). -/
theorem changeRooms_of_no_drop {f : RoomIx → Room → Room} {s : State}
    (h : ∀ r, 0 < derivedDemand (s.rooms.get r) → derivedDemand (f r (s.rooms.get r)) ≠ 0) :
    changeRooms f s = s.setRooms (s.rooms.imap f) := by
  have none (r : RoomIx) : (decide (0 < derivedDemand (s.rooms.get r))
      && decide (derivedDemand ((s.setRooms (s.rooms.imap f)).rooms.get r) = 0)) = false := by
    by_cases p : 0 < derivedDemand (s.rooms.get r)
    · simp [h r p]
    · simp [p]
  unfold changeRooms
  dsimp only
  rw [funext none, reportDrops_false]

/-- A boundary that is due, with no tick of its period owed, no demand falling by age and no report waiting:
the rooms that are too old become LOST, and the boundary is taken as R71 says. -/
theorem regularBoundary_of_due {s : State} (due : boundaryDue s = true) (ticks : ticksOwed s = 0)
    (ages : ∀ r, 0 < derivedDemand (s.rooms.get r) →
      derivedDemand ((s.rooms.get r).aged s.params.g2.holdTime) ≠ 0)
    (drops : s.period.drops = []) :
    regularBoundary s
      = boundary (s.setRooms (s.rooms.imap fun _ => Room.aged s.params.g2.holdTime)) := by
  have aged : expireAges s = s.setRooms (s.rooms.imap fun _ => Room.aged s.params.g2.holdTime) :=
    changeRooms_of_no_drop ages
  simp [regularBoundary, boundaryWithDrops, ticks, takeTicks, due, drops, aged]

/-- A signed configuration value that its clamp keeps is read as it was sent (R175). -/
theorem difference16_of_lt {v : Nat} (h : v < 0x8000) : difference16 v = v := by
  unfold difference16 signed16
  rw [BitVec.toInt_eq_toNat_of_lt (by rw [BitVec.toNat_ofNat]; omega), BitVec.toNat_ofNat]
  omega

/-! ## The arithmetic of a pass -/

/-- The class and on-time of a loop that takes part (R95 to R100). -/
theorem classify_classedAs (t : Timing) (policy : Policy) (demand k : Nat) :
    ClassedAs t policy demand k (classify t policy (duty demand k)).1
      (classify t policy (duty demand k)).2 := by
  have on (x : Nat) : (pulseOnTime t x : Int)
      = min (max ((x : Int) + t.tOpen - t.tClose) t.minPulse) t.period := by
    unfold pulseOnTime
    omega
  have e : effectiveTime t.period (duty demand k)
      = (min (demand * k / 1024) 1000 * t.period + 500) / 1000 := rfl
  unfold ClassedAs classify
  dsimp only
  rw [← e, show min (demand * k / 1024) 1000 = duty demand k from rfl]
  by_cases c : duty demand k = 1000 ∨ t.period ≤ effectiveTime t.period (duty demand k) + t.margin
  · rw [if_pos c, if_pos (by omega)]
    exact ⟨rfl, rfl⟩
  · rw [if_neg c, if_neg (by omega)]
    by_cases z : effectiveTime t.period (duty demand k) = 0
    · rw [if_pos z, if_pos z]
      exact ⟨rfl, rfl⟩
    · rw [if_neg z, if_neg z]
      by_cases m : t.eMin ≤ effectiveTime t.period (duty demand k)
      · rw [if_pos m, if_neg (Nat.not_lt.mpr m)]
        exact ⟨rfl, on _⟩
      · rw [if_neg m, if_pos (Nat.not_le.mp m)]
        cases policy with
        | suppress => exact ⟨rfl, rfl⟩
        | raise =>
          rw [if_neg (by simp)]
          dsimp only
          by_cases r : t.period ≤ t.eMin + t.margin
          · rw [if_pos r, if_pos (by omega)]
            exact ⟨rfl, rfl⟩
          · rw [if_neg r, if_neg (by omega)]
            exact ⟨rfl, on t.eMin⟩

/-- The mean drop, the step and the factor of a loop that takes part in a full pass (R87 to R92). -/
theorem factorOf_learnedAs (g : Group1) (l : Loop) (ended : LoopClass) :
    LearnedAs g l ended (meanDrop g.nMeas l.sigma l.n) (stepOf g l ended) (factorOf g l ended) := by
  unfold LearnedAs
  by_cases h : l.n < g.nMeas
  · have : ¬ g.nMeas ≤ l.n := by omega
    simp [h, meanDrop, stepOf, factorOf, this]
  · have : g.nMeas ≤ l.n := by omega
    rw [if_neg h]
    simp only [meanDrop, stepOf, factorOf, this, if_true, Option.isSome_some, newFactor,
      windUpHold, limitedStep, relativeError, clampInt, true_and]
    rw [Int.toNat_of_nonneg (by omega)]
    exact ⟨rfl, rfl⟩

end Sys2Proof.Machine
end

