-- ==== Sys2Proof/WellFormed.lean ====
section
/-! DEFINITION. Which commands are well formed: the bytes a frame can hold (R141), and a row's own
form of a frame (log 1). Every command has a meaning, well formed or not. -/

namespace Sys2Proof

/-- The first payload byte of a SEND, when the frame reaches it. -/
def SendFrame.selector (f : SendFrame) : Option Byte := f.bytes[1]?

/-- A SEND holds at most a length byte, 32 payload bytes and a check byte (R141). -/
def SendFrame.fits (f : SendFrame) : Bool := decide (f.bytes.length ≤ 34)

/-- The frame is of the row whose first payload byte is `own`, or its byte is none of those of the
rows of its kind (log 1). -/
def SendFrame.ofRow (own : Byte) (rows : List Byte) (f : SendFrame) : Bool :=
  f.fits && f.selector.all fun b => b = own || !rows.contains b

/-- Only a length byte or one of 32 payload bytes can be left unacknowledged too early (R141). -/
def nackFits (nackAt : Option Nat) : Bool := nackAt.all fun j => decide (j ≤ 32)

/-- A FETCH frame's unacknowledged byte is one the part can send (R141). -/
def FetchFrame.fits (f : FetchFrame) : Bool := nackFits f.nackAt

/-- The first payload bytes of the rows of WRITE_MANIFOLD (section 11.3). -/
def groupRows : List Byte := [0, 1, 2, 3]

/-- The first payload bytes of the rows of SET_MODE: STOP, RUN, FLUSH (section 11.5). -/
def modeRows : List Byte := [0, 1, 2]

/-- The first payload bytes of the rows of CLEAR: CHANNEL, PROBE, ALL (section 11.5). -/
def targetRows : List Byte := [0, 1, 2]

/-- The first payload bytes of the rows of RESTART: RUNTIME, RELOAD, FACTORY (section 11.5). -/
def scopeRows : List Byte := [0, 1, 2]

/-- A kind byte that names one of the ten SEND kinds (section 11.3). -/
def namesSendKind (b : Byte) : Bool := decide (0x41 ≤ b ∧ b ≤ 0x4A)

/-- A kind byte that names a FETCH kind of the own address (section 11.4). -/
def namesFetchKind (b : Byte) : Bool := decide (0x61 ≤ b ∧ b ≤ 0x69) || decide (b = 0x6F)

/-- A run of a probe line has at least one sample (R24). -/
def lineFits (line : List LineRun) : Bool := line.all fun r => decide (0 < r.samples)

/-- The 716 sends at most 36 bytes: header, kind, length, 32 payload bytes and check; a follower's reply has
a length byte, at most 32 payload bytes and a check byte (R141). -/
def RoomEnding.fits : RoomEnding → Bool
  | .acked => true
  | .nack index => decide (index < 36)
  | .reply bytes => decide (bytes.length ≤ 34)

/-- The bytes after a header: kind and selector of a FETCH; kind, length, 32 payload bytes and check of
a SEND (R141). -/
def transactionFits (header : Byte) (bytes : List Byte) : Bool :=
  decide (bytes.length ≤ if header.getLsbD 0 then 2 else 35)

/-- The row FORWARD_OFFER is a transaction at a room's address, or, without a header, a mark alone
(log 8). -/
def offerFits (header : Option Byte) (bytes : List Byte) (nackAt : Option Nat) : Bool :=
  match header with
  | some h => transactionFits h bytes && nackFits nackAt
  | none => bytes.isEmpty && nackAt.isNone

/-- A command is well formed. -/
def Instr.wf : Instr → Bool
  | .writeLoop f => f.fits
  | .writeRoom f => f.fits
  | .writeProbe f => f.fits
  | .writeManifoldGroup0 f => f.ofRow 0 groupRows
  | .writeManifoldGroup1 f => f.ofRow 1 groupRows
  | .writeManifoldGroup2 f => f.ofRow 2 groupRows
  | .writeManifoldGroup3 f => f.ofRow 3 groupRows
  | .setModeRun f => f.ofRow 1 modeRows
  | .setModeStop f => f.ofRow 0 modeRows
  | .setModeFlush f => f.ofRow 2 modeRows
  | .clearChannel f => f.ofRow 0 targetRows
  | .clearProbe f => f.ofRow 1 targetRows
  | .clearAll f => f.ofRow 2 targetRows
  | .testChannel f => f.fits
  | .save f => f.fits
  | .restartRuntime f => f.ofRow 0 scopeRows
  | .restartReload f => f.ofRow 1 scopeRows
  | .restartFactory f => f.ofRow 2 scopeRows
  | .seed f => f.fits
  | .unknownKind kind _ => !namesSendKind kind
  | .manifoldStatus f => f.fits
  | .loopStatus f => f.fits
  | .roomStatus f => f.fits
  | .probeStatus f => f.fits
  | .periodSummary f => f.fits
  | .readLoop f => f.fits
  | .readRoom f => f.fits
  | .readProbe f => f.fits
  | .readManifold f => f.fits
  | .lastResult f => f.fits
  | .report _ f => f.fits
  | .forwardOffer header bytes nackAt _ => offerFits header bytes nackAt
  | .forwardTimeoutExpiry _ => true
  | .pollTimerExpiry _ => true
  | .roomTransactionEnd ending turn => ending.fits && nackFits turn.nackAt
  | .roomHoldTimeout _ => true
  | .toolRequestRaised => true
  | .toolRequestDropped => true
  | .ageExpiry _ _ => true
  | .probeCycleComplete _ line => lineFits line
  | .stuckError _ line => lineFits line
  | .measurementTick _ => true
  | .flushTimerExpiry _ => true
  | .regularBoundary _ => true
  | .join _ => true
  | .spacingExpiry _ => true
  | .closeTimeReached _ _ => true
  | .loadCheck _ _ _ => true
  | .overcurrent _ => true
  | .openingEnds _ _ => true
  | .closingEnds _ _ => true
  | .testEnd _ => true
  | .pumpHoldExpiry _ => true
  | .saveCompletes _ => true
  | .powerOn _ => true
  | .resetInput _ => true
  | .acceptedEdge _ line => lineFits line
  | .unknownFetchKind kind _ => !namesFetchKind kind
  | .powerLoss => true

end Sys2Proof
end

