-- ==== Sys2Proof/Tests/Slice0.lean ====
section
/-! SUPPORT. Tests: ill-formed commands refused, the manual's worked examples one step at a time, and for
every statement with hypotheses a witness that meets them. -/

namespace Sys2Proof.Tests

-- One theorem after another: the kernel's checks below would else each hold a thread.
set_option Elab.async false

open Sys2Proof.Machine

/-! ## Small states -/

/-- The state a command leaves; every command leaves one. -/
def after (o : Host.Outcome State Fault Refusal) : State :=
  match o with
  | .next t => t
  | .fault _ => State.reset
  | .refused _ => State.reset

/-- A good SEND to the part after reset, followed by a stop mark. -/
def frame (k : SendKind) (p : List Byte) : SendFrame := goodFrame State.reset k p .stop

/-- A fetch acknowledged to its end and followed by a stop mark. -/
def fetch (sel : Byte) : FetchFrame := { selector := sel, nackAt := none, mark := .stop }

/-- A state with one loop changed. -/
def withLoop (i : LoopIx) (f : Loop → Loop) (s : State) : State :=
  s.setLoops (s.loops.set i (f (s.loops.get i)))

/-- A state with one channel changed. -/
def withChannel (i : LoopIx) (f : Channel → Channel) (s : State) : State :=
  s.setChannels (s.channels.set i (f (s.channels.get i)))

/-- A state with one room changed. -/
def withRoom (r : RoomIx) (f : Room → Room) (s : State) : State :=
  s.setRooms (s.rooms.set r (f (s.rooms.get r)))

/-- A state with one probe changed. -/
def withProbe (p : ProbeIx) (f : Probe → Probe) (s : State) : State :=
  s.setProbes (s.probes.set p (f (s.probes.get p)))

/-- A state in a mode at a period time, every tick up to it taken, its records open. -/
def atTime (m : Mode) (time : Nat) (s : State) : State :=
  s.setPeriod { s.period with
    mode := m, time := time, lastTick := time / 10 * 10
    records := some (s.loops.imap fun _ l => freshRecord l) }

/-- A loop enabled with a fixed demand. -/
def enable (i : LoopIx) (demand : Nat) (s : State) : State :=
  withLoop i (fun l => { l with cfg := { l.cfg with enabled := true, fixedDemand := demand } }) s

/-- A loop's class and on-time. -/
def classed (i : LoopIx) (c : LoopClass) (on : Nat) (s : State) : State :=
  withLoop i (fun l => { l with cls := c, onTime := on }) s

/-- A channel energised, its valve in a state. -/
def energised (i : LoopIx) (v : Valve) (s : State) : State :=
  withChannel i (fun c => { c with energised := true, valve := v }) s

/-- Every estimate CLOSED and the pump request OFF. -/
def settled (s : State) : State :=
  (s.setChannels (s.channels.imap fun _ c => { c with valve := .closed })).setSupply
    { s.supply with pump := .off }

/-- A probe OK with a filtered value. -/
def reads (p : ProbeIx) (v : Int) (s : State) : State :=
  withProbe p (fun q => { q with status := .ok, filtered := some v, sample := some v }) s

/-- A room in use at an address, in a proxy mode. -/
def roomAt (r : RoomIx) (a : BitVec 7) (m : ProxyMode) (s : State) : State :=
  withRoom r (fun v => { v with cfg := { v.cfg with address := a, proxy := m } }) s

/-- A room FRESH with a report. -/
def reported (r : RoomIx) (v : Report) (s : State) : State :=
  withRoom r (fun x => { x with report := some v, freshness := .fresh, lastPoll := .answered }) s

/-- A poll of a room under way. -/
def polled (r : RoomIx) (s : State) : State :=
  let a := (s.rooms.get r).cfg.address
  s.setSeg { s.seg with
    activity := .polling r
      { address := a, sent := [headerByte a true, 0x21, 0], holdLimit := 25, timedOut := false,
        ended := false, stale := false }
    cursor := some (r.val + 1) }

/-- A forward of a SEND under way to an address. -/
def forwarding (a : BitVec 7) (f : ForwardFrame) (s : State) : State :=
  s.setSeg { s.seg with
    activity := .forwarding
      { address := a, sent := forwardBytes a f, holdLimit := 25, timedOut := false,
        ended := false, stale := false }
    slot := .active a f false }

/-- The reply bytes of a unit at an address to a REPORT fetch with this payload. -/
def unitReply (a : BitVec 7) (p : List Byte) : List Byte :=
  let head := [headerByte a true, 0x21, 0]
  byteOf p.length :: p ++ [checkByte (head ++ byteOf p.length :: p)]

/-! ## Ill-formed commands -/

theorem test_wf_refuses_long_frame :
    (Instr.writeLoop ⟨List.replicate 35 0, .stop⟩).wf = false := by decide
theorem test_wf_refuses_other_group : (Instr.writeManifoldGroup0 ⟨[16, 1], .stop⟩).wf = false := by
  decide
theorem test_wf_refuses_other_mode : (Instr.setModeRun ⟨[1, 0], .stop⟩).wf = false := by decide
theorem test_wf_refuses_other_target : (Instr.clearAll ⟨[2, 1, 3], .stop⟩).wf = false := by decide
theorem test_wf_refuses_other_scope : (Instr.restartReload ⟨[1, 2], .stop⟩).wf = false := by decide
theorem test_wf_refuses_known_send_kind : (Instr.unknownKind 0x4A .stop).wf = false := by decide
theorem test_wf_refuses_known_fetch_kind : (Instr.unknownFetchKind 0x6F .stop).wf = false := by
  decide
theorem test_wf_refuses_late_nack : (Instr.report 0x21 ⟨0, some 33, .stop⟩).wf = false := by decide
theorem test_wf_refuses_long_transaction :
    (Instr.forwardOffer (some 0x43) [0x22, 0, 0] none .stop).wf = false := by decide
theorem test_wf_refuses_bytes_without_header :
    (Instr.forwardOffer none [0x22] none .stop).wf = false := by decide
theorem test_wf_refuses_long_reply :
    (Instr.roomTransactionEnd (.reply (List.replicate 35 0)) ⟨none, .absent⟩).wf = false := by decide
theorem test_wf_refuses_late_room_nack :
    (Instr.roomTransactionEnd (.nack 36) ⟨none, .absent⟩).wf = false := by decide
theorem test_wf_refuses_empty_run : (Instr.acceptedEdge 3 [⟨true, 0⟩]).wf = false := by decide
theorem test_wf_accepts_good_frame : (Instr.setModeRun (frame .setMode [1])).wf = true := by decide
theorem test_no_word_is_a_command : decodeTableWord 16 0x41 = none := rfl

/-! ## Frames and layouts: the examples of section 11.2 -/

theorem test_check_byte_of_set_mode : checkByte [0xC2, 0x45, 0x01, 0x01] = 0xF7 := by decide
theorem test_report_reply_bytes :
    replyBytes [0x43, 0x21, 0x00] (reportBytes ⟨2040, 2100, 120, none⟩)
      = [0x06, 0x07, 0xF8, 0x08, 0x34, 0x78, 0x00, 0xE3] := by decide
theorem test_header_bytes : headerByte 0x61 false = 0xC2 ∧ headerByte 0x21 true = 0x43 := by decide

/-! ## Arithmetic: the examples of chapter 5 -/

theorem test_classes_over_duties :
    [0, 1, 165, 170, 200, 500, 866, 867, 1000].map (classify Params.factory.timing .raise)
      = [(.off, 0), (.pulse, 240), (.pulse, 240), (.pulse, 246), (.pulse, 300), (.pulse, 840),
         (.pulse, 1499), (.continuous, 1800), (.continuous, 1800)] := by decide
theorem test_suppressed_classes :
    [1, 165, 170].map (classify Params.factory.timing .suppress)
      = [(.off, 0), (.off, 0), (.pulse, 246)] := by decide
theorem test_fast_loop :
    let l := { Loop.factory with sigma := 4560, n := 12 }
    stepOf Params.factory.g1 l .pulse = -61 ∧ factorOf Params.factory.g1 l .pulse = 963
      ∧ classify Params.factory.timing .raise (duty 600 963) = (.pulse, 955) := by decide
theorem test_starved_loop_step :
    let l := { Loop.factory with
      cfg := { Loop.factory.cfg with kmax := 1900 }, k := 1800, sigma := 8640, n := 12 }
    stepOf Params.factory.g1 l .pulse = 64 ∧ stepOf Params.factory.g1 l .continuous = 0 := by decide

/-- The loops of the example of section 5.8. -/
def seedState : State :=
  let long (x : Nat) (l : Loop) : Loop :=
    { l with cfg := { l.cfg with enabled := true, length := some x } }
  withLoop 4 (fun l => { l with cfg := { l.cfg with length := some 40 } })
    (withLoop 3 (fun l => { l with cfg := { l.cfg with enabled := true }, k := 1100 })
      (withLoop 2 (long 120) (withLoop 1 (long 90) (withLoop 0 (long 60) State.reset))))

theorem test_seed_example :
    let t := after (exec (.seed (frame .seed [])) seedState)
    (t.loops.toList.take 5).map Loop.k = [682, 1024, 1365, 1100, 1024] := by decide +kernel

/-! ## Loop and channel frames: the examples of chapter 1 -/

/-- Loop 5 as the example of section 1.1 finds it. -/
def loopFive (k : Nat) : State := withLoop 4 (fun l => { l with k := k }) (enable 4 0 State.reset)

theorem test_write_loop_keeps_and_clamps :
    let t := after (exec (.writeLoop (frame .writeLoop
      [5, 1, 0, 0, 0, 0, 0x01, 0x00, 0x07, 0x08, 1, 0, 0, 0])) (loopFive 1950))
    (t.loops.get 4).k = 1800 ∧ t.house.lastResult = .ok := by decide +kernel
theorem test_write_loop_clamps_bounds :
    let t := after (exec (.writeLoop (frame .writeLoop
      [5, 1, 0, 0, 0, 0, 0x13, 0x88, 0x10, 0x00, 1, 0, 0, 0])) (loopFive 1200))
    (t.loops.get 4).k = 4096 ∧ t.house.lastResult = .clamped := by decide +kernel

/-- Channel 9 ABSENT in STOPPED, its valve closed (section 1.5). -/
def nineAbsent : State :=
  withChannel 8 (fun c => { c with condition := .absent }) (settled State.reset)

theorem test_channel_test_granted_at_once :
    let t := after (exec (.testChannel (frame .testChannel [9, 0, 120])) nineAbsent)
    t.test = .active 8 120 120 ∧ (t.channels.get 8).valve = .opening 180
      ∧ (t.channels.get 8).loadCheck = some 2 := by decide +kernel
theorem test_load_check_recovers :
    let s := (energised 8 (.opening 180) nineAbsent).setTest (.active 8 120 120)
    let u := withChannel 8 (fun c => { c with loadCheck := some 2 }) s
    let t := after (exec (.loadCheck 8 true 2) u)
    (t.channels.get 8).condition = .ready ∧ t.test = .active 8 120 118 := by decide +kernel
theorem test_test_end_releases :
    let s := (energised 8 (.opening 62) nineAbsent).setTest (.active 8 120 2)
    let t := after (exec (.testEnd 2) s)
    t.test = .idle ∧ (t.channels.get 8).energised = false
      ∧ (t.channels.get 8).valve = .closed := by decide +kernel
theorem test_overcurrent_trips :
    let t := after (exec (.overcurrent 3)
      (energised 3 (.opening 179) (atTime .running 41 (settled State.reset))))
    (t.channels.get 3).condition = .tripped ∧ (t.channels.get 3).valve = .closed := by
  decide +kernel
theorem test_close_time_releases :
    let s := atTime .running 1690 (settled State.reset)
    let u := withChannel 1 (fun c => { c with closeTime := some 1700 }) (energised 1 (.isOpen 1490) s)
    let t := after (exec (.closeTimeReached 1 10) u)
    (t.channels.get 1).energised = false ∧ (t.channels.get 1).valve = .closing 240
      ∧ (t.channels.get 1).energisedSeconds = 10 := by decide +kernel
theorem test_opening_ends_asserts_pump :
    let t := after (exec (.openingEnds 1 180) (energised 1 (.opening 180) (settled State.reset)))
    (t.channels.get 1).valve = .isOpen 0 ∧ t.supply.pump = .on := by decide +kernel

/-! ## Probes: the examples of chapter 2 -/

/-- Probe 3 in phase LOW, its counter at 10,016, four samples before the end of its cycle. -/
def probeThree : State :=
  withProbe 3 (fun q => { q with
    cfg := { q.cfg with offset := 15, shift := 4 }, adopting := false, phase := .low
    high := some 4210, counter := 10016 }) (reads 3 2800 State.reset)

theorem test_cycle_decoded :
    let p := (after (exec (.probeCycleComplete 3 [⟨true, 4⟩]) probeThree)).probes.get 3
    p.sample = some 2867 ∧ p.filtered = some 2804 ∧ p.period = some 10020 ∧ p.phase = .high
      ∧ p.counter = 0 ∧ p.errors = 0 := by decide +kernel
theorem test_stuck_error :
    let s := withProbe 6 (fun q => { q with adopting := false, counter := 65000 })
      (reads 6 3011 State.reset)
    let p := (after (exec (.stuckError 6 [⟨false, 535⟩]) s)).probes.get 6
    p.status = .suspect ∧ p.errors = 1 ∧ p.filtered = some 3011 ∧ p.lastError = .stuck := by
  decide +kernel
theorem test_accepted_edge_takes_depth_samples :
    let s := withProbe 3 (fun q => { q with adopting := false }) State.reset
    let p (n : Nat) := (after (exec (.acceptedEdge 3 [⟨true, n⟩]) s)).probes.get 3
    (p 3).phase = .wait ∧ (p 4).phase = .high ∧ (p 4).counter = 0 := by decide +kernel

/-! ## Rooms and their segment: the examples of chapter 3 -/

/-- Room 2 in use with demand 120 half-percent, being polled, with some failures behind it. -/
def roomTwo (failures : Nat) : State :=
  polled 1 (withRoom 1 (fun v => { v with failures := failures })
    (reported 1 ⟨2040, 2100, 120, none⟩ (roomAt 1 0x21 .full State.reset)))

theorem test_failed_poll_ages :
    let r := (after (exec (.roomTransactionEnd (.nack 0) ⟨none, .absent⟩) (roomTwo 0))).rooms.get 1
    r.freshness = .aged ∧ r.failures = 1 ∧ derivedDemand r = 600 := by decide +kernel
/-- R52: the kind byte of a poll not acknowledged ends it there. -/
theorem test_room_nack_stops_the_bytes :
    let t := after (exec (.roomTransactionEnd (.nack 1) ⟨none, .absent⟩) (roomTwo 0))
    t.seg.carried = ⟨[0x43, 0x21], [], []⟩ := by decide +kernel
/-- R52: each reply byte acknowledged but the check, and a length above 8 not acknowledged. -/
theorem test_room_reply_slots :
    let ends (bs : List Byte) := (after (exec (.roomTransactionEnd (.reply bs) ⟨none, .absent⟩)
      (roomTwo 0))).seg.carried
    (ends [6, 7, 0xF8, 8, 0x34, 0x78, 0, 0xE3]).acks
        = [true, true, true, true, true, true, true, false]
      ∧ (ends [9, 7, 0xF8]).received = [9] ∧ (ends [9, 7, 0xF8]).acks = [false] := by decide +kernel
theorem test_fourth_failure_loses :
    let r := (after (exec (.roomTransactionEnd (.nack 0) ⟨none, .absent⟩) (roomTwo 3))).rooms.get 1
    r.freshness = .lost ∧ r.failures = 4 ∧ derivedDemand r = 300 := by decide +kernel
theorem test_floor_limit_entered :
    let s := withRoom 1 (fun v => { v with cfg := { v.cfg with floorLimit := some 2700 } }) (roomTwo 0)
    let p : List Byte := signedBytes 2040 ++ signedBytes 2100 ++ [160, 1] ++ signedBytes 2700
    let r := (after (exec (.roomTransactionEnd (.reply (unitReply 0x21 p)) ⟨none, .absent⟩) s)).rooms.get 1
    r.floor = .limited ∧ derivedDemand r = 0 := by decide +kernel

theorem test_address_changed_and_back_discards_outcome :
    let write (a : Byte) (s : State) : State :=
      after (exec (.writeRoom (frame .writeRoom [2, a, 2, 0x01, 0x2C, 0, 0])) s)
    let s := write 0x21 (write 0x30 (roomTwo 0))
    let p : List Byte := signedBytes 2040 ++ signedBytes 2100 ++ [120, 0]
    let r := (after (exec (.roomTransactionEnd (.reply (unitReply 0x21 p)) ⟨none, .absent⟩) s)).rooms.get 1
    r.cfg.address = 0x21 ∧ r.freshness = .none ∧ r.report = none := by decide +kernel

/-- Rooms 1, 3, 4 and 7 in use, room 4 under FULL, nothing running. -/
def fourRooms : State :=
  roomAt 6 0x27 .off (roomAt 3 0x24 .full (roomAt 2 0x23 .off (roomAt 0 0x21 .off State.reset)))

theorem test_poll_timer_starts_cycle :
    let t := after (exec (.pollTimerExpiry 15) fourRooms)
    t.seg.cursor = some 1 ∧ (match t.seg.activity with
      | .polling r _ => decide (r = 0)
      | .idle | .forwarding _ | .granted => false) = true := by decide +kernel
theorem test_tool_resumes_at_room_three :
    let s := fourRooms.setSeg { fourRooms.seg with activity := .granted, cursor := some 2 }
    (match (after (exec .toolRequestDropped s)).seg.activity with
      | .polling r _ => decide (r = 2)
      | .idle | .forwarding _ | .granted => false) = true := by decide +kernel
theorem test_tool_granted_at_once :
    (after (exec .toolRequestRaised State.reset)).seg.activity = .granted := by decide +kernel
theorem test_hold_off_of_26_ms_times_out :
    (match (after (exec (.roomHoldTimeout 26) (roomTwo 0))).seg.activity with
      | .polling _ x => x.timedOut
      | .idle | .forwarding _ | .granted => false) = true := by decide +kernel
theorem test_age_above_hold_time_loses :
    let s := withRoom 1 (fun v => { v with age := 1799 }) (roomTwo 0)
    ((after (exec (.ageExpiry 1 1) s)).rooms.get 1).freshness = .fresh
      ∧ ((after (exec (.ageExpiry 1 2) s)).rooms.get 1).freshness = .lost := by decide +kernel

/-! ## The period, the starts and the pump: the examples of chapters 4, 6 and 7 -/

/-- The nine PULSE loops of the second example of section 6.3. -/
def nineLoops : State :=
  let on : List (LoopIx × Nat) :=
    [(0, 400), (1, 600), (2, 300), (3, 240), (4, 700), (5, 240), (6, 300), (7, 240), (8, 500)]
  on.foldl (fun s e => classed e.1 .pulse e.2 (enable e.1 0 s)) State.reset

theorem test_plan_order :
    (withJoinTimes 120 (planOrder nineLoops)).map (fun e => (loopNumber e.loop, e.joinTime))
      = [(5, 0), (2, 120), (9, 240), (1, 360), (3, 480), (7, 600), (4, 720), (6, 840), (8, 960)] := by
  decide +kernel

/-- Loop 6 first in the plan of RUNNING at 1560 s, its on-time 300 s (section 6.3). -/
def loopSixPlanned : State :=
  let s := atTime .running 1560 (classed 5 .pulse 300 (enable 5 0 (settled State.reset)))
  s.setArb { s.arb with plan := [{ loop := 5, joinTime := 80 }] }

theorem test_join_granted_and_clipped :
    let t := after (exec (.join 15) loopSixPlanned)
    (t.channels.get 5).closeTime = some 1800
      ∧ (t.period.records.map fun b => (b.get 5).clipped) = some true
      ∧ (t.period.records.map fun b => (b.get 5).grantTime) = some (some 1575) := by decide +kernel
theorem test_spacing_expiry_grants :
    let s := loopSixPlanned.setArb { plan := [], queue := [.loop 5], sinceGrant := some 18 }
    ((after (exec (.spacingExpiry 1) s)).channels.get 5).energised = false
      ∧ ((after (exec (.spacingExpiry 2) s)).channels.get 5).energised = true := by decide +kernel
/-- R116: a spacing that ran out while a CLOSING_ENDS's seconds passed is still due in the next second. -/
theorem test_spacing_expiry_stays_due :
    let s := withChannel 8 (fun c => { c with valve := .closing 10 })
      (loopSixPlanned.setArb { plan := [], queue := [.loop 5], sinceGrant := some 15 })
    let t := after (exec (.closingEnds 8 10) s)
    t.arb.sinceGrant = some 25 ∧ (t.channels.get 5).energised = false
      ∧ (dueEvents (elapse 1 t)).contains (.spacingExpiry 0) = true := by decide +kernel
theorem test_last_closing_starts_hold :
    let s := withChannel 8 (fun c => { c with valve := .closing 10 }) (settled State.reset)
    let t := after (exec (.closingEnds 8 10) (s.setSupply { s.supply with pump := .on }))
    t.supply.pump = .hold ∧ t.supply.holdTimer = some 60 := by decide +kernel
theorem test_pump_hold_expires :
    let s := (settled State.reset)
    let t := after (exec (.pumpHoldExpiry 60)
      (s.setSupply { s.supply with pump := .hold, holdTimer := some 60 }))
    t.supply.pump = .off ∧ t.supply.lineA = false := by decide +kernel
theorem test_tick_accumulates :
    let s := energised 1 (.isOpen 290) (enable 1 500 (reads 2 3000 (reads 0 3500 State.reset)))
    let l := (after (exec (.measurementTick 10) (atTime .running 490 s))).loops.get 1
    l.sigma = 500 ∧ l.n = 1 := by decide +kernel
theorem test_overheat_locks_out :
    let s := energised 1 (.isOpen 290) (enable 1 500 (reads 0 5500 State.reset))
    let t := after (exec (.measurementTick 10) (atTime .running 490 s))
    t.period.mode = .overheat ∧ t.supply.pump = .off ∧ energisedCount t = 0 := by decide +kernel
theorem test_boundary_takes_owed_ticks :
    let s := atTime .running 1770 (energised 1 (.isOpen 900)
      (enable 1 500 (reads 2 3000 (reads 0 3500 State.reset))))
    let t := after (exec (.regularBoundary 30) s)
    (t.period.summary.map fun b => (b.get 1).n) = some 3 := by decide +kernel
theorem test_flush_timer_makes_end_due :
    let s := atTime .flush 100 State.reset
    let u := s.setPeriod { s.period with flushTimer := some 5 }
    (after (exec (.flushTimerExpiry 5) u)).period.flushDue = true := by decide +kernel
/-- R79: a flush timer that runs out at P ends the flush there, and the period is not shortened. -/
theorem test_flush_that_ends_at_the_boundary_is_not_shortened :
    let s := atTime .flush 1770 State.reset
    let u := s.setPeriod { s.period with flushTimer := some 30 }
    let t := after (exec (.regularBoundary 30) u)
    t.period.mode = .running ∧ t.period.time = 0
      ∧ (t.period.summary.map fun b => (b.get 0).shortened) = some false := by decide +kernel
theorem test_boundary_learns :
    let s := withLoop 2 (fun l => { l with sigma := 4560, n := 12 })
      (classed 2 .pulse 600 (enable 2 600 State.reset))
    let t := after (exec (.regularBoundary 1) (atTime .running 1799 s))
    (t.loops.get 2).k = 963 ∧ (t.loops.get 2).cls = .pulse ∧ (t.loops.get 2).onTime = 955
      ∧ (t.period.summary.map fun b => ((b.get 2).kBefore, (b.get 2).step, (b.get 2).kAfter))
        = some (1024, -61, 963) := by decide +kernel
theorem test_run_classes_from_demand :
    let t := after (exec (.setModeRun (frame .setMode [1])) (enable 2 500 (settled State.reset)))
    t.period.mode = .running ∧ (t.loops.get 2).onTime = 840
      ∧ (t.channels.get 2).closeTime = some 840 := by decide +kernel
theorem test_flush_opens_every_loop :
    let t := after (exec (.setModeFlush (frame .setMode [2])) (enable 2 0 (settled State.reset)))
    t.period.mode = .flush ∧ (t.loops.get 2).cls = .continuous
      ∧ t.period.flushTimer = some 1800 := by decide +kernel
theorem test_stop_clears :
    let s := atTime .running 500 (energised 1 (.isOpen 20) (classed 1 .pulse 900 State.reset))
    let t := after (exec (.setModeStop (frame .setMode [0])) s)
    t.period.mode = .stopped ∧ (t.loops.get 1).onTime = 0
      ∧ (t.channels.get 1).valve = .closing 240 := by decide +kernel

/-! ## The other management frames -/

/-- The group 1 payload of the example of section 7.3: supply base and supply max given. -/
def supplyPayload (base top : Int) : List Byte :=
  [1, 12] ++ wordBytes 500 ++ wordBytes 256 ++ wordBytes 64 ++ signedBytes base ++ signedBytes top
    ++ signedBytes 5500 ++ wordBytes 300

theorem test_group1_reclamps_bias :
    let s := State.reset.setSupply { State.reset.supply with bias := 200 }
    (after (exec (.writeManifoldGroup1 (frame .writeManifold (supplyPayload 3200 3350))) s)).supply.bias
      = 150 := by decide +kernel
theorem test_negative_difference_clamps_low :
    let p : List Byte := [1, 12, 0xFC, 0x18, 1, 0, 0, 64] ++ signedBytes 3200 ++ signedBytes 4000
      ++ signedBytes 5500 ++ [0xFC, 0x18]
    let t := after (exec (.writeManifoldGroup1 (frame .writeManifold p)) State.reset)
    t.params.g1.target = 200 ∧ t.params.g1.hysteresis = 100 ∧ t.house.lastResult = .clamped := by
  decide +kernel
theorem test_group0_waits_for_boundary :
    let p : List Byte := [0] ++ wordBytes 3599 ++ [4, 20] ++ wordBytes 180 ++ wordBytes 240
      ++ wordBytes 240 ++ wordBytes 300 ++ wordBytes 240 ++ wordBytes 300 ++ wordBytes 1800
    let t := after (exec (.writeManifoldGroup0 (frame .writeManifold p)) State.reset)
    t.params.timing.period = 3540 ∧ t.period.eff.limit = 8 ∧ t.house.lastResult = .clamped := by
  decide +kernel
theorem test_group2_written :
    let t := after (exec (.writeManifoldGroup2 (frame .writeManifold
      [2, 4, 4, 0x07, 0x08, 0x01, 0x2C, 25])) State.reset)
    t.params.g2.pollInterval = 5 ∧ t.params.g2.holdTime = 1800 ∧ t.house.lastResult = .clamped := by
  decide +kernel
theorem test_group3_moves_line :
    let t := after (exec (.writeManifoldGroup3 (frame .writeManifold
      [3, 0, 60, 48, 0, 1, 1, 4, 0, 20])) State.reset)
    t.supply.lineA = false ∧ t.supply.lineB = true := by decide +kernel
theorem test_write_room_resets_runtime :
    let t := after (exec (.writeRoom (frame .writeRoom [2, 0x30, 2, 0x01, 0x2C, 0, 0])) (roomTwo 2))
    (t.rooms.get 1).cfg.address = 0x30 ∧ (t.rooms.get 1).freshness = .none := by decide +kernel
theorem test_write_probe_initialises :
    let t := after (exec (.writeProbe (frame .writeProbe [3, 1, 0xFF, 0xF6, 2, 9])) probeThree)
    (t.probes.get 3).cfg = ⟨true, -10, .two, 8⟩ ∧ (t.probes.get 3).status = .suspect := by
  decide +kernel
theorem test_clear_channel :
    ((after (exec (.clearChannel (frame .clear [0, 9])) nineAbsent)).channels.get 8).condition
      = .ready := by decide +kernel
theorem test_clear_probe :
    let s := withProbe 6 (fun q => { q with status := .failed, errors := 30 }) State.reset
    ((after (exec (.clearProbe (frame .clear [1, 6])) s)).probes.get 6).status = .suspect := by
  decide +kernel
theorem test_clear_all :
    anyChannelFault (after (exec (.clearAll (frame .clear [2])) nineAbsent)) = false := by
  decide +kernel
theorem test_save_completes :
    let s := after (exec (.save (frame .save [])) State.reset)
    let t := after (exec (.saveCompletes 1) s)
    s.store.image.load = none ∧ saving s = true ∧ saving t = false
      ∧ t.store.defaulted = false := by decide +kernel
theorem test_restart_runtime_keeps_tables :
    let t := after (exec (.restartRuntime (frame .restart [0])) (atTime .running 9 (enable 2 500 State.reset)))
    t.period.mode = .stopped ∧ (t.loops.get 2).cfg.enabled = true := by decide +kernel
theorem test_restart_reload_of_blank_store :
    let t := after (exec (.restartReload (frame .restart [1])) (enable 2 500 State.reset))
    (t.loops.get 2).cfg.enabled = false ∧ t.store.defaulted = true := by decide +kernel
theorem test_restart_factory :
    let t := after (exec (.restartFactory (frame .restart [2])) (enable 2 500 State.reset))
    (t.loops.get 2).cfg.enabled = false := by decide +kernel
theorem test_unknown_kind_counted :
    let t := after (exec (.unknownKind 0x4B .stop) State.reset)
    t.house.lastResult = .unknownKind ∧ t.house.errors = 1 ∧ t.house.acks = [true, false] := by
  decide +kernel
theorem test_unknown_fetch_kind_counted :
    let t := after (exec (.unknownFetchKind 0x6A .stop) State.reset)
    t.house.lastResult = .ok ∧ t.house.errors = 1 := by decide +kernel
theorem test_power_on_reads_straps :
    (after (exec (.powerOn 3) State.reset)).house.own = 0x63 := by decide +kernel
theorem test_reset_input_is_power_on :
    after (exec (.resetInput 0) (enable 2 500 (atTime .running 9 State.reset))) = State.reset := by
  decide +kernel
theorem test_power_loss_keeps_image :
    let t := after (exec .powerLoss State.reset)
    t.powered = false ∧ t.store.image = .blank ∧ t.supply.lineA = false := by decide +kernel

/-! ## Fetches -/

theorem test_manifold_status_after_reset :
    (after (exec (.manifoldStatus (fetch 0)) State.reset)).house.sent.take 9
      = [17, 0, 0, 0, 0x07, 0x08, 0, 0, 1] := by decide +kernel
theorem test_loop_status_after_reset :
    (after (exec (.loopStatus (fetch 16)) State.reset)).house.sent.take 7
      = [13, 0, 0, 0, 3, 0, 0] := by decide +kernel
theorem test_room_status_after_reset :
    (after (exec (.roomStatus (fetch 12)) State.reset)).house.sent.take 7
      = [18, 0, 0, 0, 0, 0x01, 0x2C] := by decide +kernel
theorem test_probe_status_after_reset :
    (after (exec (.probeStatus (fetch 16)) State.reset)).house.sent.take 6
      = [12, 1, 0x80, 0x00, 0x80, 0x00] := by decide +kernel
theorem test_no_summary_after_reset :
    (after (exec (.periodSummary (fetch 1)) State.reset)).house.sent.length = 2 := by decide +kernel
theorem test_read_loop_factory :
    (after (exec (.readLoop (fetch 1)) State.reset)).house.sent.take 15
      = [14, 1, 0, 0, 0, 0, 0, 0x01, 0x00, 0x0C, 0x00, 1, 0, 0, 0] := by decide +kernel
theorem test_read_room_factory :
    (after (exec (.readRoom (fetch 1)) State.reset)).house.sent.take 8
      = [7, 1, 0, 0, 0x01, 0x2C, 0, 0] := by decide +kernel
theorem test_read_probe_factory :
    (after (exec (.readProbe (fetch 0)) State.reset)).house.sent.take 7 = [6, 0, 1, 0, 0, 4, 3] := by
  decide +kernel
theorem test_read_manifold_group3_factory :
    (after (exec (.readManifold (fetch 3)) State.reset)).house.sent.take 11
      = [10, 3, 0, 60, 48, 0, 1, 0, 2, 0, 20] := by decide +kernel
theorem test_last_result_after_reset :
    (after (exec (.lastResult (fetch 0)) State.reset)).house.sent.take 3 = [2, 0, 0] := by
  decide +kernel
theorem test_report_served_from_cache :
    (after (exec (.report 0x21 (fetch 0)) (roomTwo 0))).house.sent
      = [0x06, 0x07, 0xF8, 0x08, 0x34, 0x78, 0x00, 0xE3] := by decide +kernel
theorem test_forward_taken :
    let t := after (exec (.forwardOffer (some (headerByte 0x24 true)) [0x22, 0x05] none .absent) fourRooms)
    t.seg.slot = .active 0x24 (.fetch 0x22 0x05) false ∧ t.house.timeout = some 300 := by
  decide +kernel
theorem test_forward_timeout_orphans :
    let s := after (exec (.forwardOffer (some (headerByte 0x24 true)) [0x22, 0x05] none .absent) fourRooms)
    let t := after (exec (.forwardTimeoutExpiry ⟨300, .absent⟩) s)
    t.seg.slot = .active 0x24 (.fetch 0x22 0x05) true ∧ t.house.state = .ignoring
      ∧ (after (exec (.forwardOffer none [] none .stop) t)).house.state = .idle := by
  decide +kernel
theorem test_start_mark_ignored_while_held :
    let s := after (exec (.forwardOffer (some (headerByte 0x24 true)) [0x22, 0x05] none .absent) fourRooms)
    (after (exec (.forwardOffer none [] none .start) s)).house.state = .proxyHeld 3 .full true
      ∧ (after (exec (.forwardOffer none [] none .start) fourRooms)).house.state = .header := by
  decide +kernel

/-! ## Witnesses: for each statement with hypotheses, states and operands that meet them -/

theorem witness_listens : State.reset.listens := ⟨rfl, rfl⟩

theorem witness_EmptyQueuePassesOneSecond :
    (State.reset.pending = [] ∧ State.reset.powered = true)
      ∧ ∃ s : State, s.pending = [] ∧ s.powered = false :=
  ⟨⟨rfl, rfl⟩, losePower State.reset, rfl, rfl⟩

theorem witness_SecondsMoveTheCounts : State.reset.msPhase < 1000 := by decide

theorem witness_UnpoweredPartStaysAsItIs :
    ∃ (c : Instr) (s : State), s.powered = false ∧ ∀ straps, c ≠ .powerOn straps :=
  ⟨.toolRequestRaised, losePower State.reset, rfl, by simp⟩

/-- A cut-off frame, a wrong length byte, a wrong check, and a length that its target type denies. -/
theorem witness_BadSendChangesNothing :
    let c (bytes : List Byte) : Instr := .clearChannel ⟨bytes, .stop⟩
    (∀ bytes, ownSendOf (c bytes) = some (.clear, ⟨bytes, .stop⟩)) ∧ State.reset.listens
      ∧ (∀ len rest, ([2, 0] : List Byte) = len :: rest →
          len.toNat ∈ SendKind.clear.lengths ∧ rest.length ≤ len.toNat)
      ∧ (3 : Byte).toNat ∉ SendKind.clear.lengths
      ∧ sum8 [headerByte 0x60 false, 0x46, 2, 0, 9, 0] ≠ 0
      ∧ sum8 [headerByte 0x60 false, 0x46, 1, 0, 0xF9] = 0
      ∧ SendKind.clear.lengthAgrees [0] = false := by
  refine ⟨fun _ => rfl, witness_listens, ?_, by decide, by decide, by decide, by decide⟩
  rintro _ _ ⟨⟩
  decide

/-- A frame its owner accepts, and one it refuses. -/
theorem witness_OwnerDecidesGoodSend :
    let c (p : List Byte) : Instr := .setModeRun (goodFrame State.reset .setMode p .stop)
    State.reset.listens ∧ ([1] : List Byte).length ∈ SendKind.setMode.lengths
      ∧ SendKind.setMode.lengthAgrees [1] = true
      ∧ ownSendOf (c [1]) = some (.setMode, goodFrame State.reset .setMode [1] .stop)
      ∧ (ownerOf .setMode [1] State.reset).1.accepted = false
      ∧ (ownerOf .setMode [0] State.reset).1.accepted = true :=
  ⟨witness_listens, by decide, by decide, rfl, by decide +kernel, by decide +kernel⟩

theorem witness_UnknownKindsAreRefused :
    State.reset.listens ∧ ((0x40 : Byte) < 0x41 ∧ (0x4A : Byte) < 0x4B)
      ∧ ∀ k ∈ [(0x60 : Byte), 0x6A, 0x6E, 0x70], k < 0x61 ∨ 0x69 < k ∧ k ≠ 0x6F :=
  ⟨witness_listens, by decide, by decide⟩

/-- Selectors at the ends of every range, and just beyond them; the first and the last byte of a reply
left unacknowledged. -/
theorem witness_FetchAnswersOrIgnores :
    State.reset.listens
      ∧ (∀ f : FetchFrame, ownFetchOf (.loopStatus f) = some (.loopStatus, f)
          ∧ ownFetchOf (.readRoom f) = some (.readRoom, f)
          ∧ ownFetchOf (.readProbe f) = some (.readProbe, f)
          ∧ ownFetchOf (.readManifold f) = some (.readManifold, f)
          ∧ ownFetchOf (.lastResult f) = some (.lastResult, f))
      ∧ (∀ b ∈ [(1 : Byte), 16], 1 ≤ b.toNat ∧ b.toNat ≤ 16)
      ∧ (∀ b ∈ [(0 : Byte), 17], ¬ (1 ≤ b.toNat ∧ b.toNat ≤ 16))
      ∧ (∀ b ∈ [(1 : Byte), 12], 1 ≤ b.toNat ∧ b.toNat ≤ 12)
      ∧ (∀ b ∈ [(0 : Byte), 13], ¬ (1 ≤ b.toNat ∧ b.toNat ≤ 12))
      ∧ ((0 : Byte).toNat ≤ 16 ∧ (16 : Byte).toNat ≤ 16 ∧ ¬ (17 : Byte).toNat ≤ 16)
      ∧ ((3 : Byte).toNat ≤ 3 ∧ ¬ (4 : Byte).toNat ≤ 3 ∧ ¬ (1 : Byte).toNat = 0)
      ∧ ∃ p, replyOf .lastResult 0 State.reset = some p ∧ 0 ≤ p.length ∧ 2 ≤ p.length :=
  ⟨witness_listens, fun _ => ⟨rfl, rfl, rfl, rfl, rfl⟩, by decide, by decide, by decide, by decide,
    by decide, by decide, _, rfl, by decide, by decide⟩

/-- A supply request at each end of sixteen signed bits. -/
theorem witness_ManifoldAndLoopStatusFields :
    ∀ z ∈ [(-32768 : Int), 32767], ∃ s : State, supplyRequest s = z ∧ -32768 ≤ z ∧ z ≤ 32767 := by
  intro z _
  refine ⟨State.reset.setParams
    { State.reset.params with g1 := { State.reset.params.g1 with supplyBase := z } }, ?_, ?_⟩
  · show z + ((0 : Nat) : Int) = z
    omega
  · simp only [List.mem_cons, List.not_mem_nil, or_false] at *
    omega

/-- A summary entry with every optional field present. -/
def fullEntry : SummaryEntry :=
  { planned := ⟨.pulse, 600, some 0, false, false, false⟩, energisedSeconds := 600,
    shortened := false, n := 12, meanDrop := some 32767, kBefore := 1024, step := -256, kAfter := 900 }

/-- Reports, samples and drops at the ends of sixteen signed bits, and each optional field both present
and absent. -/
theorem witness_RecordStatusFields :
    (∃ s : State, ∃ v, (s.rooms.get 0).report = some v ∧ v.air = -32768 ∧ v.setpoint = 32767
        ∧ v.floor = some 2650)
      ∧ (∃ s : State, (s.probes.get 0).filtered = some 32767 ∧ (s.probes.get 0).sample = some 32767)
      ∧ ((State.reset.probes.get 0).filtered = none ∧ (State.reset.probes.get 0).sample = none
        ∧ (State.reset.probes.get 0).high = none ∧ (State.reset.probes.get 0).period = none)
      ∧ (∃ s : State, (s.probes.get 0).high = some 4210 ∧ (s.probes.get 0).period = some 10020)
      ∧ State.reset.period.summary = none
      ∧ (∃ (s : State) (b : Bank SummaryEntry 16), s.period.summary = some b
        ∧ (b.get 0).planned.grantTime = some 0 ∧ (b.get 0).meanDrop = some 32767
        ∧ (b.get 0).step = -256)
      ∧ ∃ (s : State) (b : Bank SummaryEntry 16), s.period.summary = some b
        ∧ (b.get 0).planned.grantTime = none ∧ (b.get 0).meanDrop = none :=
  ⟨⟨reported 0 ⟨-32768, 32767, 1, some 2650⟩ State.reset, _, rfl, by decide⟩,
   ⟨reads 0 32767 State.reset, by decide⟩, by decide,
   ⟨withProbe 0 (fun q => { q with high := some 4210, period := some 10020 }) State.reset, by decide⟩,
   rfl,
   ⟨State.reset.setPeriod { State.reset.period with summary := some (Bank.fill 16 fullEntry) }, _, rfl,
    by decide⟩,
   ⟨State.reset.setPeriod { State.reset.period with summary := some (Bank.fill 16 { fullEntry with
      planned := ⟨.off, 0, none, false, false, false⟩, meanDrop := none }) }, _, rfl, by decide⟩⟩

/-- A WRITE_LOOP payload of loop 5: enabled, room, Kmin, Kmax, K action. -/
def loopBytes (enabled room : Byte) (kmin kmax : Nat) (action : Byte) : List Byte :=
  [5, enabled, room, 0, 0, 0] ++ wordBytes kmin ++ wordBytes kmax ++ [1, 0, 0, action]

/-- Equal bounds at each end of their range, a room in use, both K actions. -/
theorem witness_WriteLoopReplacesRecord :
    fourRooms.listens ∧ ∀ e ∈ [((1 : Byte), 0, 4096, 4096, (0 : Byte)), (0, 0, 128, 128, 1), (1, 1, 256, 3072, 1)],
      ∃ (c : LoopConfig) (u : Bool),
        let p := loopBytes e.1 e.2.1 e.2.2.1 e.2.2.2.1 e.2.2.2.2
        p.length = 14 ∧ byteAt p 0 = (4 : LoopIx).val + 1 ∧ loopPayload p = some c
          ∧ kActionPayload p = some u
          ∧ (∀ r, c.room = some r → (fourRooms.rooms.get r).cfg.address ≠ 0)
          ∧ max 128 (min c.kmin 4096) ≤ max 128 (min c.kmax 4096)
          ∧ ¬ ((fourRooms.loops.get 4).cfg.enabled = true ∧ c.enabled = false) := by
  refine ⟨⟨rfl, rfl⟩, ?_⟩
  simp only [List.mem_cons, List.not_mem_nil, or_false, forall_eq_or_imp, forall_eq]
  exact ⟨⟨_, _, by decide, by decide, rfl, rfl, by decide, by decide, by decide⟩,
    ⟨_, _, by decide, by decide, rfl, rfl, by decide, by decide, by decide⟩,
    ⟨_, _, by decide, by decide, rfl, rfl, by decide, by decide, by decide⟩⟩

/-- Each refused field just outside its range. -/
theorem witness_WritesRefusedByRange :
    let s := withLoop 0 (fun l => { l with cfg := { l.cfg with room := some 0 } }) fourRooms
    s.listens
      ∧ (∀ p ∈ [(0 :: List.replicate 13 0 : List Byte), 17 :: List.replicate 13 0,
            loopBytes 2 0 256 256 0, loopBytes 1 0 256 256 2, loopBytes 1 13 256 256 0,
            loopBytes 1 2 256 256 0, loopBytes 1 0 257 256 0],
          p.length = 14 ∧ (byteAt p 0 = 0 ∨ 16 < byteAt p 0 ∨ 1 < byteAt p 1 ∨ 1 < byteAt p 10
            ∨ 1 < byteAt p 13 ∨ 12 < byteAt p 2
            ∨ (∃ r : RoomIx, byteAt p 2 = r.val + 1 ∧ (s.rooms.get r).cfg.address = 0)
            ∨ max 128 (min (wordAt p 8) 4096) < max 128 (min (wordAt p 6) 4096)))
      ∧ (∀ p ∈ [([0, 0x30, 0, 0, 0, 0, 0] : List Byte), [13, 0x30, 0, 0, 0, 0, 0],
            [2, 0x07, 0, 0, 0, 0, 0], [2, 0x60, 0, 0, 0, 0, 0], [2, 0x30, 3, 0, 0, 0, 0],
            [2, 0x21, 0, 0, 0, 0, 0], [1, 0, 0, 0, 0, 0, 0]],
          p.length = 7 ∧ (byteAt p 0 = 0 ∨ 12 < byteAt p 0 ∨ 2 < byteAt p 2
            ∨ (byteAt p 1 ≠ 0 ∧ (byteAt p 1 < 0x08 ∨ 0x5F < byteAt p 1))
            ∨ (byteAt p 1 ≠ 0 ∧ ∃ q : RoomIx, byteAt p 0 ≠ q.val + 1
                ∧ (s.rooms.get q).cfg.address.toNat = byteAt p 1)
            ∨ (byteAt p 1 = 0 ∧ ∃ (r : RoomIx) (i : LoopIx), byteAt p 0 = r.val + 1
                ∧ (s.loops.get i).cfg.room = some r)))
      ∧ ∀ n ∈ [19, 16, 8, 10], (4 :: List.replicate (n - 1) 0 : List Byte).length = n
          ∧ 3 < byteAt (4 :: List.replicate (n - 1) 0) 0 :=
  ⟨⟨rfl, rfl⟩, by decide +kernel, by decide +kernel, by decide⟩

/-- Loop 5 enabled and energised in RUNNING. -/
def fiveHeats : State := energised 4 (.isOpen 9) (atTime .running 500 (enable 4 500 State.reset))

theorem witness_WriteLoopDisablesLoop :
    ∃ (c : LoopConfig) (u : Bool) (b : Bank PeriodRecord 16),
      let p := loopBytes 0 0 4096 4096 1
      fiveHeats.listens ∧ p.length = 14 ∧ byteAt p 0 = (4 : LoopIx).val + 1 ∧ loopPayload p = some c
        ∧ kActionPayload p = some u
        ∧ (∀ r, c.room = some r → (fiveHeats.rooms.get r).cfg.address ≠ 0)
        ∧ c.clamped.kmin ≤ c.clamped.kmax ∧ (fiveHeats.loops.get 4).cfg.enabled = true
        ∧ c.enabled = false ∧ (.test 4 ∈ fiveHeats.arb.queue → ∃ d, fiveHeats.test = .queued 4 d)
        ∧ fiveHeats.period.mode = .running ∧ fiveHeats.period.records = some b :=
  ⟨_, _, _, ⟨rfl, rfl⟩, by decide, by decide, rfl, rfl, by decide, by decide, by decide, rfl, nofun,
    rfl, rfl⟩

/-- Addresses at both ends of their range, the same address, and address 0 of a room no loop names. -/
theorem witness_WriteRoomReplacesRecord :
    fourRooms.listens ∧ ∀ a ∈ [(0x08 : Byte), 0x5F, 0x21, 0], ∃ c : RoomConfig,
      let p : List Byte := [1, a, 2, 0x01, 0x2C, 0, 0]
      let room (v : Room) : Room :=
        if v.cfg.address = c.address then
          { v with cfg := c.clamped, floor := if c.floorLimit = none then .normal else v.floor }
        else
          { cfg := c.clamped, report := none, freshness := .none, failures := 0, age := 0
            floor := .normal, lastPoll := .none }
      p.length = 7 ∧ byteAt p 0 = (0 : RoomIx).val + 1 ∧ roomPayload p = some c
        ∧ (c.address = 0 ∨ 0x08 ≤ c.address.toNat ∧ c.address.toNat ≤ 0x5F)
        ∧ (c.address ≠ 0 → ∀ q, q ≠ 0 → (fourRooms.rooms.get q).cfg.address ≠ c.address)
        ∧ (c.address = 0 → ∀ i, (fourRooms.loops.get i).cfg.room ≠ some 0)
        ∧ ¬ (fourRooms.period.mode = .running ∧ 0 < derivedDemand (fourRooms.rooms.get 0)
            ∧ derivedDemand (room (fourRooms.rooms.get 0)) = 0) := by
  refine ⟨⟨rfl, rfl⟩, ?_⟩
  simp only [List.mem_cons, List.not_mem_nil, or_false, forall_eq_or_imp, forall_eq]
  exact ⟨⟨_, rfl, by decide, rfl, by decide, by decide, by decide, by decide⟩,
    ⟨_, rfl, by decide, rfl, by decide, by decide, by decide, by decide⟩,
    ⟨_, rfl, by decide, rfl, by decide, by decide, by decide, by decide⟩,
    ⟨_, rfl, by decide, rfl, by decide, by decide, by decide, by decide⟩⟩

theorem witness_WriteProbeInitialisesProbe :
    State.reset.listens
      ∧ (∀ p ∈ [([17, 0, 0, 0, 2, 0] : List Byte), [0, 2, 0, 0, 2, 0], [0, 0, 0, 0, 3, 0]],
          p.length = 6 ∧ (16 < byteAt p 0 ∨ 1 < byteAt p 1 ∨ (byteAt p 4 ≠ 2 ∧ byteAt p 4 ≠ 4)))
      ∧ ∀ p ∈ [([0, 0, 0, 0, 2, 0] : List Byte), [16, 1, 0xFE, 0x0B, 4, 9]], p.length = 6
          ∧ (∃ q : ProbeIx, byteAt p 0 = q.val) ∧ byteAt p 1 ≤ 1 ∧ (byteAt p 4 = 2 ∨ byteAt p 4 = 4) :=
  ⟨witness_listens, by decide, by decide⟩

theorem witness_WriteGroup0ChangesTableOnly :
    State.reset.listens ∧ (0 :: List.replicate 18 0xFF : List Byte).length = 19
      ∧ byteAt (0 :: List.replicate 18 0xFF) 0 = 0 :=
  ⟨witness_listens, by decide, by decide⟩

/-- Base above max, and base equal to max. -/
theorem witness_WriteGroup1KeepsBiasInRange :
    State.reset.listens ∧ (∀ e ∈ [((3201 : Int), (3200 : Int)), (3200, 3200)],
      (supplyPayload e.1 e.2).length = 16 ∧ byteAt (supplyPayload e.1 e.2) 0 = 1)
      ∧ (let p := supplyPayload 3201 3200
        max 2800 (min (signedAt p 10) 5500) < max 2500 (min (signedAt p 8) 5000))
      ∧ let p := supplyPayload 3200 3200
        max 2500 (min (signedAt p 8) 5000) ≤ max 2800 (min (signedAt p 10) 5500) :=
  ⟨witness_listens, by decide, by decide, by decide⟩

/-- A FRESH room above the new hold time, whose fallback keeps its demand above 0. -/
theorem witness_WriteGroup2AgesRooms :
    let s := atTime .running 500 (withRoom 1 (fun v => { v with age := 61 }) (roomTwo 0))
    let p : List Byte := [2, 15, 4, 0, 60, 1, 0x2C, 25]
    let room (v : Room) : Room :=
      if (v.freshness = .fresh ∨ v.freshness = .aged) ∧ max 60 (min (wordAt p 3) 7200) < v.age then
        { v with freshness := .lost }
      else v
    s.listens ∧ p.length = 8 ∧ byteAt p 0 = 2
      ∧ (∀ r, ¬ (s.period.mode = .running ∧ 0 < derivedDemand (s.rooms.get r)
          ∧ derivedDemand (room (s.rooms.get r)) = 0))
      ∧ (room (s.rooms.get 1)).freshness = .lost :=
  ⟨⟨rfl, rfl⟩, by decide, by decide, by decide +kernel, by decide +kernel⟩

theorem witness_WriteGroup3RoutesLines :
    State.reset.listens
      ∧ (∀ p ∈ [([3, 0, 0, 0, 2, 0, 0, 0, 0, 1] : List Byte), [3, 0, 0, 0, 0, 5, 0, 0, 0, 1],
            [3, 0, 0, 0, 0, 0, 2, 0, 0, 1], [3, 0, 0, 0, 0, 0, 0, 5, 0, 1],
            [3, 0, 0, 0, 0, 0, 0, 0, 2, 1]],
          p.length = 10 ∧ byteAt p 0 = 3
            ∧ (1 < byteAt p 4 ∨ 4 < byteAt p 5 ∨ 1 < byteAt p 6 ∨ 4 < byteAt p 7 ∨ 1 < byteAt p 8))
      ∧ let p : List Byte := [3, 0x03, 0x85, 255, 1, 4, 1, 0, 1, 0]
        p.length = 10 ∧ byteAt p 0 = 3 ∧ byteAt p 4 ≤ 1 ∧ byteAt p 5 = Source.fault.code
          ∧ byteAt p 6 ≤ 1 ∧ byteAt p 7 = Source.off.code ∧ byteAt p 8 ≤ 1 :=
  ⟨witness_listens, by decide, by decide⟩

theorem witness_LinesFollowSources :
    ∃ (c : Instr) (s t : State), exec c s = .next t ∧ t.powered = true :=
  ⟨.toolRequestRaised, State.reset, _, rfl, rfl⟩

theorem witness_SeedSetsFactorsFromLengths :
    let seeded (s : State) : List Nat := allLoops.filterMap fun i =>
      if (s.loops.get i).cfg.enabled then (s.loops.get i).cfg.length else none
    State.reset.listens ∧ seeded State.reset = [] ∧ seedState.listens ∧ seeded seedState ≠ [] :=
  ⟨witness_listens, by decide +kernel, ⟨rfl, rfl⟩, by decide +kernel⟩

/-- Every mode, with a loop enabled and without, and the first mode value that names nothing. -/
theorem witness_RunEntersRunning :
    (∀ m : Mode, (atTime m 500 State.reset).listens ∧ (atTime m 500 State.reset).period.mode = m
        ∧ (atTime m 500 (enable 4 1 State.reset)).listens)
      ∧ (∀ i, (State.reset.loops.get i).cfg.enabled = false)
      ∧ (∃ i, ((enable 4 1 State.reset).loops.get i).cfg.enabled = true) ∧ 2 < (3 : Byte).toNat :=
  ⟨fun _ => ⟨⟨rfl, rfl⟩, rfl, rfl, rfl⟩, by decide, ⟨4, by decide⟩, by decide⟩

theorem witness_FlushRunsEveryLoop :
    ∀ m : Mode, (atTime m 500 State.reset).listens ∧ (atTime m 500 State.reset).period.mode = m
      ∧ ∃ rec, (atTime m 500 State.reset).period.records = some rec :=
  fun _ => ⟨⟨rfl, rfl⟩, rfl, _, rfl⟩

theorem witness_StopReleasesAndClears : ∃ s : State, s.listens ∧ s.period.mode = .overheat :=
  ⟨atTime .overheat 500 State.reset, ⟨rfl, rfl⟩, rfl⟩

theorem witness_ClearActsOnChannelsAndProbes :
    State.reset.listens
      ∧ (∃ i : LoopIx, (1 : Byte).toNat = i.val + 1) ∧ (∃ i : LoopIx, (16 : Byte).toNat = i.val + 1)
      ∧ ((0 : Byte).toNat = 0 ∧ 16 < (17 : Byte).toNat)
      ∧ (∃ q : ProbeIx, (0 : Byte).toNat = q.val) ∧ (∃ q : ProbeIx, (16 : Byte).toNat = q.val)
      ∧ 2 < (3 : Byte).toNat :=
  ⟨witness_listens, ⟨0, rfl⟩, ⟨15, rfl⟩, by decide, ⟨0, rfl⟩, ⟨16, rfl⟩, by decide⟩

/-- Loop numbers at and beyond the ends, each check failing in turn, and the spacing just reached and not. -/
theorem witness_TestChannelChecksAndQueues :
    (∀ b ∈ [(0 : Byte), 17], byteAt [b, 0, 9] 0 = 0 ∨ 16 < byteAt [b, 0, 9] 0)
      ∧ (∃ i : LoopIx, byteAt [1, 0, 9] 0 = i.val + 1) ∧ (∃ i : LoopIx, byteAt [16, 0, 9] 0 = i.val + 1)
      ∧ ((atTime .running 1 State.reset).listens
        ∧ (atTime .running 1 State.reset).period.mode ≠ .stopped)
      ∧ (let s := State.reset.setTest (.queued 3 60)
        s.listens ∧ s.period.mode = .stopped ∧ s.test ≠ .idle)
      ∧ (let s := withChannel 0 (fun c => { c with condition := .tripped }) State.reset
        s.listens ∧ s.period.mode = .stopped ∧ s.test = .idle
          ∧ (s.channels.get 0).condition = .tripped)
      ∧ ∀ x ∈ [19, 20], ∃ s : State, s.listens ∧ s.period.mode = .stopped ∧ s.test = .idle
          ∧ (s.channels.get 0).condition ≠ .tripped ∧ s.arb.queue = []
          ∧ energisedCount s < s.period.eff.limit ∧ s.arb.sinceGrant = some x
          ∧ (x < s.period.eff.spacing ↔ x = 19) := by
  refine ⟨by decide, ⟨0, rfl⟩, ⟨15, rfl⟩, ⟨⟨rfl, rfl⟩, by decide⟩, ⟨⟨rfl, rfl⟩, rfl, by decide⟩,
    ⟨⟨rfl, rfl⟩, rfl, rfl, by decide⟩, ?_⟩
  intro x hx
  refine ⟨State.reset.setArb { State.reset.arb with sinceGrant := some x }, ⟨rfl, rfl⟩, rfl, rfl,
    by simp [State.setArb]; decide, rfl, (by decide : energisedCount State.reset < 8), rfl, ?_⟩
  show x < 20 ↔ x = 19
  simp only [List.mem_cons, List.not_mem_nil, or_false] at hx
  omega

/-- The part after an accepted SAVE. -/
def saves : State := beginSave State.reset

theorem witness_SaveTakesSnapshotAndCompletes :
    State.reset.listens ∧ State.reset.store.snapshot = none ∧ saves.listens
      ∧ ∃ b, saves.store.snapshot = some b :=
  ⟨witness_listens, rfl, ⟨rfl, rfl⟩, _, rfl⟩

theorem witness_RestartScopes :
    (saves.listens ∧ saves.store.snapshot ≠ none) ∧ State.reset.listens ∧ 2 < (3 : Byte).toNat
      ∧ State.reset.store.snapshot = none
      ∧ ∃ s : State, s.listens ∧ s.store.snapshot = none ∧ s.seg.activity = .granted :=
  ⟨⟨⟨rfl, rfl⟩, nofun⟩, witness_listens, by decide, rfl,
    State.reset.setSeg { State.reset.seg with activity := .granted }, ⟨rfl, rfl⟩, rfl, rfl⟩

theorem witness_PowerOnLoadsAndResets : State.reset.powered = true := rfl

theorem witness_PowerLossCutsSave :
    saves.powered = true ∧ SavingImageFails saves ∧ saves.store.snapshot ≠ none :=
  ⟨rfl, fun _ => rfl, nofun⟩

/-- Room 4 under CACHE. -/
def cached : State := roomAt 3 0x24 .cache fourRooms

/-- An address that nothing holds, one whose room is under OFF, and a frame that CACHE refuses. -/
theorem witness_UnservedHeadersAreIgnored :
    (∀ a ∈ [(0x50 : BitVec 7), 0x21], a ≠ cached.house.own
        ∧ ∀ r, (cached.rooms.get r).cfg.address = 0 ∨ (cached.rooms.get r).cfg.address ≠ a
          ∨ (cached.rooms.get r).cfg.proxy = .off)
      ∧ cached.listens ∧ ProxiedAt cached 3 (headerAddress 0x49) .cache
      ∧ (headerIsFetch 0x48 = false ∨ (0x21 : Byte) ≠ 0x21)
      ∧ (headerIsFetch 0x49 = false ∨ (0x22 : Byte) ≠ 0x21) :=
  ⟨by decide +kernel, ⟨rfl, rfl⟩, by unfold ProxiedAt; decide +kernel, by decide, by decide⟩

/-- Room 2 under FULL: FRESH, AGED, LOST and NONE, and a selector above 0. -/
theorem witness_ReportIsServedFromCache :
    (∀ x : Freshness, ∃ s : State, s.listens ∧ ProxiedAt s 1 0x21 .full
        ∧ (s.rooms.get 1).freshness = x ∧ (s.rooms.get 1).report = some ⟨2040, 2100, 120, none⟩)
      ∧ (fetch 1).nackAt = none ∧ (fetch 1).selector ≠ 0 ∧ (fetch 0).selector = 0 := by
  refine ⟨fun x => ⟨withRoom 1 (fun v => { v with freshness := x }) (roomTwo 0), ⟨rfl, rfl⟩, ?_, ?_⟩,
    rfl, by decide, rfl⟩
  · cases x <;> (unfold ProxiedAt; decide +kernel)
  · cases x <;> decide +kernel

/-- A fetch and a SEND of the longest payload; the controller granted, IDLE and polling, and the slot
taken; a length byte just above 32, a wrong check, and a SEND cut off before its check byte. -/
theorem witness_ForwardOfferIsTakenOrRefused :
    let busy := polled 0 fourRooms
    let granted := fourRooms.setSeg { fourRooms.seg with activity := .granted }
    let full := forwarding 0x24 (.fetch 0x22 5) fourRooms
    (∀ s ∈ [fourRooms, busy, granted, full], s.powered = true ∧ s.house.held = false
        ∧ (0x24 : BitVec 7) ≠ s.house.own ∧ (s.rooms.get 3).cfg.address = 0x24
        ∧ (s.rooms.get 3).cfg.proxy = .full ∧ ∀ q, q ≠ 3 → (s.rooms.get q).cfg.address ≠ 0x24)
      ∧ (headerAddress 0x49 = 0x24 ∧ headerIsFetch 0x49 = true)
      ∧ (let payload : List Byte := List.replicate 32 0
        headerAddress 0x48 = 0x24 ∧ headerIsFetch 0x48 = false ∧ payload.length ≤ 32
          ∧ sum8 (0x48 :: 0x22 :: byteOf payload.length :: payload ++ [0x76]) = 0)
      ∧ (fourRooms.seg.slot = .empty ∧ fourRooms.seg.activity = .idle ∧ fourRooms.toolRequest = false)
      ∧ (busy.seg.slot = .empty ∧ busy.seg.activity ≠ .idle ∧ busy.seg.activity ≠ .granted)
      ∧ (granted.seg.activity = .granted ∧ full.seg.slot ≠ .empty)
      ∧ (32 < (33 : Byte).toNat ∧ sum8 [0x48, 0x22, 0, 0] ≠ 0)
      ∧ (32 : Byte).toNat ≤ 32 ∧ (List.replicate 32 (0 : Byte)).length ≤ (32 : Byte).toNat :=
  ⟨by decide +kernel, by decide, by decide, by decide, by decide, ⟨rfl, by decide⟩, by decide,
    by decide⟩

/-- The part holding the clock for a forward to room 4 under way. -/
def holding (f : ForwardFrame) (isFetch : Bool) : State :=
  let s := forwarding 0x24 f fourRooms
  s.setHouse { s.house with state := .proxyHeld 3 .full isFetch, timeout := some 300 }

/-- A forwarded SEND and fetch, an outlasted hold-off, a reply with a right and with a wrong check, a length
byte just above 32; an orphan, and a forward and a poll that a restart ended, the house transaction over. -/
theorem witness_HeldSlotIsAnswered :
    let sent := forwardBytes 0x24 (.fetch 0x22 5)
    (∀ (f : ForwardFrame) (isFetch : Bool), (holding f isFetch).powered = true
        ∧ (holding f isFetch).house.state = .proxyHeld 3 .full isFetch
        ∧ (holding f isFetch).seg.slot = .active 0x24 f false
        ∧ (∃ x, (holding f isFetch).seg.activity = .forwarding x ∧ x.ended = false
            ∧ x.timedOut = false ∧ x.sent = forwardBytes 0x24 f)
        ∧ (holding f isFetch).house.timeout = some 300)
      ∧ (true = true ↔ ∃ k sel, ForwardFrame.fetch 0x22 5 = .fetch k sel)
      ∧ (false = true ↔ ∃ k sel, ForwardFrame.send 0x22 [] = .fetch k sel)
      ∧ (List.replicate 32 (0 : Byte)).length ≤ 32
      ∧ (let body : List Byte := byteOf 1 :: [7]
        sum8 (sent ++ body ++ [checkByte (sent ++ body)]) = 0
          ∧ sum8 (sent ++ body ++ [checkByte (sent ++ body) + 1]) ≠ 0)
      ∧ (∃ (s : State) (x : Transaction), s.powered = true
        ∧ s.house.state = .proxyHeld 3 .full true ∧ s.seg.activity = .forwarding x
        ∧ x.ended = false ∧ x.timedOut = true ∧ s.seg.slot = .active 0x24 (.fetch 0x22 5) false)
      ∧ 32 < (33 : Byte).toNat
      ∧ (∃ (s : State) (x : Transaction), s.powered = true ∧ s.house.state = .idle
        ∧ s.seg.activity = .forwarding x ∧ x.ended = false
        ∧ s.seg.slot = .active 0x24 (.fetch 0x22 5) true)
      ∧ ∀ poll : Bool, ∃ (s : State) (x : Transaction), s.powered = true ∧ x.ended = true
        ∧ (if poll then ∃ r, s.seg.activity = .polling r x else s.seg.activity = .forwarding x) := by
  refine ⟨fun _ _ => ⟨rfl, rfl, rfl, ⟨_, rfl, rfl, rfl, rfl⟩, rfl⟩, ⟨fun _ => ⟨_, _, rfl⟩, fun _ => rfl⟩,
    ⟨nofun, nofun⟩, by decide, by decide, ?_, by decide, ?_, fun poll => ?_⟩
  · let s := holding (.fetch 0x22 5) true
    exact ⟨s.setSeg { s.seg with activity := .forwarding ⟨0x24, [], 25, true, false, false⟩ }, _, rfl,
      rfl, rfl, rfl, rfl, rfl⟩
  · let s := forwarding 0x24 (.fetch 0x22 5) fourRooms
    exact ⟨s.setSeg { s.seg with slot := .active 0x24 (.fetch 0x22 5) true }, _, rfl, rfl, rfl, rfl, rfl⟩
  · let x : Transaction := ⟨0x24, [], 25, false, true, false⟩
    cases poll
    · exact ⟨fourRooms.setSeg { fourRooms.seg with activity := .forwarding x }, x, rfl, rfl, rfl⟩
    · exact ⟨fourRooms.setSeg { fourRooms.seg with activity := .polling 3 x }, x, rfl, rfl, 3, rfl⟩

/-- An IDLE controller with a room in use and with none; a poll under way; a poll that a restart ended. -/
theorem witness_PollTimerStartsCycle :
    (fourRooms.powered = true ∧ fourRooms.seg.pollTimer = 15 ∧ fourRooms.seg.cursor = none
        ∧ fourRooms.seg.activity = .idle ∧ fourRooms.toolRequest = false
        ∧ (∀ b f, fourRooms.seg.slot ≠ .waiting b f) ∧ (fourRooms.rooms.get 0).cfg.address ≠ 0
        ∧ ∀ q : RoomIx, q < 0 → (fourRooms.rooms.get q).cfg.address = 0)
      ∧ ∃ x, (polled 2 fourRooms).powered = true ∧ (polled 2 fourRooms).seg.pollTimer = 15
        ∧ (polled 2 fourRooms).seg.activity = .polling 2 x ∧ x.ended = false
        ∧ (polled 2 fourRooms).seg.cursor = some 3
      ∧ (State.reset.powered = true ∧ State.reset.seg.pollTimer = 15
        ∧ State.reset.seg.activity = .idle ∧ ∀ r, ¬ PollableAt State.reset 1 r)
      ∧ PollableAt fourRooms 1 0
      ∧ ∃ s : State, s.powered = true ∧ s.seg.pollTimer = 15
        ∧ (∃ r x, s.seg.activity = .polling r x) ∧ ∀ r x, s.seg.activity = .polling r x → x.ended = true :=
  ⟨⟨rfl, rfl, rfl, rfl, rfl, nofun, by decide, by decide⟩, _, rfl, rfl, rfl, rfl, rfl,
    ⟨rfl, rfl, rfl, by unfold PollableAt; decide⟩, by unfold PollableAt; decide,
    fourRooms.setSeg { fourRooms.seg with activity := .polling 2 ⟨0x23, [], 25, false, true, false⟩ },
    rfl, rfl, ⟨_, _, rfl⟩, by rintro _ _ ⟨⟩; rfl⟩

/-- Reports without and with a floor temperature. -/
theorem witness_GoodPollReplacesReport :
    ∀ p ∈ [(signedBytes 2040 ++ signedBytes 2100 ++ [120, 0] : List Byte),
        signedBytes 2040 ++ signedBytes 2100 ++ [120, 1] ++ signedBytes 2650],
      ∃ (x : Transaction) (v : Report),
        (roomTwo 3).powered = true ∧ (roomTwo 3).seg.activity = .polling 1 x ∧ x.ended = false
          ∧ x.timedOut = false ∧ x.stale = false ∧ ((roomTwo 3).rooms.get 1).cfg.address = x.address
          ∧ (p.length = 6 ∨ p.length = 8) ∧ reportOf p = some v
          ∧ sum8 (x.sent ++ byteOf p.length :: p
              ++ [checkByte (x.sent ++ byteOf p.length :: p)]) = 0
          ∧ (roomTwo 3).period.mode ≠ .running := by
  simp only [List.mem_cons, List.not_mem_nil, or_false, forall_eq_or_imp, forall_eq]
  exact ⟨⟨_, _, rfl, rfl, rfl, rfl, rfl, rfl, by decide, rfl, by decide, by decide⟩,
    ⟨_, _, rfl, rfl, rfl, rfl, rfl, rfl, by decide, rfl, by decide, by decide⟩⟩

/-- A byte left unacknowledged; a payload of five bytes and one of six whose check is wrong; replies of length
6 that break off after the length and before the check; a hold-off
outlasted; an address changed meanwhile, and one changed and written back. -/
theorem witness_FailedPollAgesRoom :
    (∃ x, (roomTwo 3).powered = true ∧ (roomTwo 3).seg.activity = .polling 1 x ∧ x.ended = false
        ∧ x.timedOut = false ∧ x.stale = false ∧ ((roomTwo 3).rooms.get 1).cfg.address = x.address
        ∧ (roomTwo 3).period.mode ≠ .running
        ∧ (List.replicate 5 (0 : Byte)).length < 6
        ∧ sum8 (x.sent ++ byteOf 6 :: List.replicate 6 0 ++ [0]) ≠ 0
        ∧ (∀ n ∈ [0, 6], let more : List Byte := List.replicate n 0
            let body := more ++ List.replicate ((6 : Byte).toNat + 1 - more.length) 0xFF
            more.length ≤ (6 : Byte).toNat ∧ sum8 (x.sent ++ 6 :: body) ≠ 0))
      ∧ (∃ (s : State) (x : Transaction), s.powered = true ∧ s.seg.activity = .polling 1 x
        ∧ x.ended = false ∧ x.timedOut = true ∧ x.stale = false
        ∧ (s.rooms.get 1).cfg.address = x.address)
      ∧ (∃ (s : State) (x : Transaction), s.powered = true ∧ s.seg.activity = .polling 1 x
        ∧ x.ended = false ∧ (s.rooms.get 1).cfg.address ≠ x.address)
      ∧ ∃ (s : State) (x : Transaction), s.powered = true ∧ s.seg.activity = .polling 1 x
        ∧ x.ended = false ∧ (s.rooms.get 1).cfg.address = x.address ∧ x.stale = true :=
  ⟨⟨_, rfl, rfl, rfl, rfl, rfl, rfl, by decide, by decide, by decide, by decide⟩,
   ⟨(roomTwo 0).setSeg { (roomTwo 0).seg with activity := .polling 1 ⟨0x21, [], 25, true, false, false⟩ }, _,
    rfl, rfl, rfl, rfl, rfl, rfl⟩,
   ⟨roomAt 1 0x30 .full (roomTwo 0), _, rfl, rfl, rfl, by decide⟩,
   ⟨(roomTwo 0).setSeg { (roomTwo 0).seg with activity := .polling 1 ⟨0x21, [], 25, false, false, true⟩ }, _,
    rfl, rfl, rfl, rfl, rfl⟩⟩

/-- The clauses of what a poll carries: lengths just outside and at the ends of 6 to 8; a reply of length 6 that
is whole and one that lacks its check byte; a poll that runs its course and one that a hold-off cut short. -/
theorem witness_CarriedIn :
    let poll (late : Bool) : Transaction := ⟨0x21, [0x43, 0x21, 0], 25, late, false, false⟩
    let reply (n : Byte) (more : Nat) : RoomEnding := .reply (n :: List.replicate more 0)
    (∀ n more k, reply n more ≠ .nack k) ∧ (∀ k, RoomEnding.acked ≠ .nack k)
      ∧ ¬ ((poll false).timedOut = true ∨ (poll false).ended = true) ∧ (poll true).timedOut = true
      ∧ (∀ n ∈ [(5 : Byte), 9], n.toNat < 6 ∨ 8 < n.toNat)
      ∧ (∀ n ∈ [(6 : Byte), 8], 6 ≤ n.toNat ∧ n.toNat ≤ 8)
      ∧ (6 : Byte).toNat < (List.replicate 7 (0 : Byte)).length
      ∧ (List.replicate 6 (0 : Byte)).length ≤ (6 : Byte).toNat :=
  ⟨nofun, nofun, by decide, rfl, by decide, by decide, by decide, by decide⟩

/-- Room 2 with fallback 0 at its last failure before the loss, loop 6 heating it, in RUNNING. -/
def dropping : State :=
  let s := withRoom 1 (fun v => { v with cfg := { v.cfg with fallback := 0 } }) (roomTwo 3)
  let t := withLoop 5 (fun l => { l with cfg := { l.cfg with room := some 1 } })
    (classed 5 .pulse 600 (enable 5 0 s))
  energised 5 (.isOpen 9) (atTime .running 500 t)

/-- R78: an age due in the boundary's second counts before its pass, which reads the fallback demand 300
and not the report's 600. -/
theorem test_boundary_finds_old_room_lost :
    let s := atTime .running 1799 (withRoom 1 (fun v =>
      { v with age := 1800, cfg := { v.cfg with fallback := 300 } }) dropping)
    let t := after (exec (.regularBoundary 1) s)
    (t.rooms.get 1).freshness = .lost ∧ (t.loops.get 5).cls = .pulse
      ∧ (t.loops.get 5).onTime = 480 := by decide +kernel

/-- A WRITE_ROOM that takes room 2's address away, as the bytes of a transaction with the own header. -/
def ownRoomWrite : Instr :=
  let p : List Byte := [2, 0x30, 2, 0, 0, 0, 0]
  .forwardOffer (some (headerByte State.reset.house.own false))
    (SendKind.writeRoom.code :: (frame .writeRoom p).bytes) none .stop

/-- The drop taken before the end of the period, by a failed poll and by a WRITE_ROOM that comes as a
transaction with the own header; and a command with a boundary due. -/
theorem witness_DemandDropClosesLoops :
    (∀ c ∈ [.roomTransactionEnd (.nack 0) ⟨none, .absent⟩, ownRoomWrite], ∃ t, ChangesDemand dropping c
        ∧ exec c dropping = .next t
        ∧ 0 < derivedDemand (dropping.rooms.get 1) ∧ derivedDemand (t.rooms.get 1) = 0
        ∧ t.period.time < dropping.period.eff.period)
      ∧ (let due := atTime .running 1800 dropping
        due.powered = true ∧ due.period.mode = .running ∧ due.period.records.isSome = true
          ∧ due.arb.queue = [] ∧ due.period.eff.period ≤ due.period.time)
      ∧ ∃ (x : Transaction) (b : Bank PeriodRecord 16), dropping.powered = true
      ∧ dropping.period.mode = .running ∧ dropping.period.records = some b
      ∧ (∀ i, .test i ∉ dropping.arb.queue) ∧ dropping.seg.activity = .polling 1 x ∧ x.ended = false
      ∧ x.stale = false
      ∧ (dropping.rooms.get 1).cfg.address = x.address ∧ 0 < derivedDemand (dropping.rooms.get 1)
      ∧ (dropping.rooms.get 1).cfg.fallback = 0
      ∧ dropping.params.g2.lossThreshold ≤ min 255 ((dropping.rooms.get 1).failures + 1)
      ∧ (dropping.loops.get 5).cfg.enabled = true ∧ (dropping.loops.get 5).cls ≠ .off
      ∧ (dropping.loops.get 5).cfg.room = some 1 :=
  ⟨by
      simp only [List.mem_cons, List.not_mem_nil, or_false, forall_eq_or_imp, forall_eq]
      exact ⟨⟨_, trivial, rfl, by decide +kernel, by decide +kernel, by decide +kernel⟩,
        ⟨_, ⟨rfl, .inl rfl⟩, rfl, by decide +kernel, by decide +kernel, by decide +kernel⟩⟩,
    ⟨rfl, rfl, rfl, rfl, by decide⟩, _, _, rfl, rfl, rfl, nofun, rfl, rfl, rfl, rfl, by decide,
    by decide, by decide, by decide, by decide, by decide⟩

theorem witness_HoldOffBeyondLimitTimesOut :
    (∃ x, (roomTwo 0).powered = true ∧ (roomTwo 0).seg.activity = .polling 1 x ∧ x.holdLimit < 26
        ∧ 25 ≤ x.holdLimit)
      ∧ ∃ x, (holding (.fetch 0x22 5) true).powered = true
        ∧ (holding (.fetch 0x22 5) true).seg.activity = .forwarding x ∧ x.holdLimit < 26
        ∧ 25 ≤ x.holdLimit :=
  ⟨⟨_, rfl, rfl, by decide, by decide⟩, _, rfl, rfl, by decide, by decide⟩

theorem witness_ToolGrantFollowsRequest :
    let granted (slot : Slot) (cursor : Option Nat) : State :=
      fourRooms.setSeg
        { fourRooms.seg with activity := .granted, slot := slot, cursor := cursor }
    (fourRooms.powered = true ∧ fourRooms.seg.activity = .idle)
      ∧ ((polled 0 fourRooms).powered = true ∧ (polled 0 fourRooms).seg.activity ≠ .idle
        ∧ (polled 0 fourRooms).seg.activity ≠ .granted)
      ∧ (∀ slot cursor, (granted slot cursor).powered = true
        ∧ (granted slot cursor).seg.activity = .granted ∧ (granted slot cursor).seg.slot = slot
        ∧ (granted slot cursor).seg.cursor = cursor)
      ∧ ((fourRooms.rooms.get 2).cfg.address ≠ 0 ∧ 2 ≤ (2 : RoomIx).val + 1
        ∧ 3 ≤ (2 : RoomIx).val + 1
        ∧ ∀ q : RoomIx, q < 2 → (fourRooms.rooms.get q).cfg.address = 0 ∨ q.val + 1 < 2) :=
  ⟨⟨rfl, rfl⟩, ⟨rfl, nofun, nofun⟩, fun _ _ => ⟨rfl, rfl, rfl, rfl⟩, by decide +kernel⟩

/-- A room whose fallback keeps its demand; and one whose demand falls, at the end of the period. -/
theorem witness_AgeAboveHoldTimeLosesRoom :
    (let s := atTime .running 500 (withRoom 1 (fun v => { v with age := 1800 }) (roomTwo 0))
    s.powered = true ∧ (s.rooms.get 1).freshness = .fresh
      ∧ s.params.g2.holdTime < ((elapse 1 s).rooms.get 1).age
      ∧ ¬ (s.period.mode = .running ∧ 0 < derivedDemand (s.rooms.get 1)
        ∧ (s.rooms.get 1).floor = .normal ∧ (s.rooms.get 1).cfg.fallback = 0))
      ∧ let s := atTime .running 1799 (withRoom 1 (fun v => { v with age := 1800 }) dropping)
      s.powered = true ∧ (s.rooms.get 1).freshness = .fresh
        ∧ s.params.g2.holdTime < ((elapse 1 s).rooms.get 1).age ∧ s.period.mode = .running
        ∧ s.period.eff.period ≤ (elapse 1 s).period.time ∧ (s.probes.get 0).status ≠ .ok
        ∧ (s.rooms.get 1).floor = .normal ∧ (s.rooms.get 1).cfg.fallback = 0
        ∧ s.params.timing.margin < s.params.timing.period ∧ (s.loops.get 5).cfg.room = some 1 :=
  ⟨⟨rfl, by decide, by decide, by decide⟩, rfl, by decide, by decide, rfl, by decide, by decide,
    by decide, by decide, by decide, by decide⟩

/-- Probe 3 in phase LOW with a high time, its counter `n`. -/
def cycling (n high : Nat) : State :=
  withProbe 3 (fun q => { q with counter := n, high := some high }) probeThree

/-- Cycles of 4,999, 5,000, 20,000 and 20,001 ticks, and high times at each end of the ratio's range. -/
theorem witness_CompletedCycleIsChecked :
    (∀ e ∈ [(4995, 2500), (4996, 500), (4996, 501), (19996, 18000), (19996, 18001), (19997, 9000)],
      let s := cycling e.1 e.2
      let p := s.probes.get 3
      s.powered = true ∧ p.cfg.depth = .four ∧ p.cfg.fitted = true ∧ p.adopting = false ∧ p.run = 0
        ∧ p.accepted = false ∧ p.phase = .low ∧ p.high = some e.2 ∧ p.counter + 4 < 65535
        ∧ p.status ≠ .absent)
      ∧ (4995 + 4 < 5000 ∧ 20000 < 19997 + 4)
      ∧ (500 * 65536 / 5000 < 6554 ∧ 58982 < 18001 * 65536 / 20000)
      ∧ (6554 ≤ 501 * 65536 / 5000 ∧ 18000 * 65536 / 20000 ≤ 58982) :=
  ⟨by decide +kernel, by decide, by decide, by decide⟩

/-- Both phases and levels in which an edge can come, and a counter one below its last. -/
theorem witness_CaptureFollowsLine :
    ∀ e ∈ [(false, Phase.wait, 0), (true, .high, 4206), (true, .wait, 65530), (false, .low, 65534)],
      let s := withProbe 3 (fun q => { q with
        adopting := false, accepted := e.1, phase := e.2.1, counter := e.2.2 }) State.reset
      let p := s.probes.get 3
      s.powered = true ∧ p.cfg.fitted = true ∧ p.adopting = false ∧ p.run = 0 ∧ p.accepted = e.1
        ∧ p.phase = e.2.1 ∧ p.counter < 65535 ∧ p.status ≠ .absent ∧ p.cfg.depth = .four
        ∧ (p.counter ≤ 65530 → p.counter + 4 < 65535) := by decide +kernel

/-- Loop 2 enabled in RUNNING at 490 s, its valve OPEN for 290 s, both its probes usable. -/
def measured (hot : Int) : State :=
  energised 1 (.isOpen 290) (atTime .running 490 (enable 1 500 (reads 2 3000 (reads 0 hot State.reset))))

/-- Supply water one cK below the trip; open-since just at the settle time. No tick: in STOPPED, a second
before the next multiple of 10 s, and at P. -/
theorem witness_TickAccumulatesDrops :
    let s := measured 5499
    let t := elapse 10 s
    s.powered = true ∧ s.period.mode = .running ∧ s.period.lastTick + 10 ≤ t.period.time
      ∧ s.period.lastTick + 10 < s.period.eff.period
      ∧ (State.reset.powered = true ∧ State.reset.period.mode = .stopped)
      ∧ (elapse 9 s).period.time < s.period.lastTick + 10
      ∧ (let e := atTime .running 1790 s
        e.powered = true ∧ e.period.eff.period ≤ e.period.lastTick + 10)
      ∧ (let e := atTime .flush 490 s
        e.powered = true ∧ e.period.mode = .flush
          ∧ ¬ FlushEndsAt (elapse 10 e) (e.period.lastTick + 10))
      ∧ (∀ f, (s.probes.get 0).status = .ok ∧ (s.probes.get 0).filtered = some f →
          f < s.params.g1.trip)
      ∧ (s.loops.get 1).cfg.enabled = true ∧ (t.channels.get 1).valve = .isOpen 300
      ∧ s.period.eff.tSettle ≤ 300
      ∧ ((s.probes.get 2).status = .ok ∧ (s.probes.get 2).filtered = some 3000)
      ∧ (s.loops.get 2).cfg.enabled = false := by
  refine ⟨rfl, rfl, by decide, by decide, ⟨rfl, rfl⟩, by decide, ⟨rfl, by decide⟩,
    ⟨rfl, rfl, by unfold FlushEndsAt; decide⟩, ?_, by decide, by decide +kernel, by decide, by decide,
    by decide⟩
  intro f h
  have e : ((measured 5499).probes.get 0).filtered = some 5499 := by decide
  have : f = 5499 := by simpa [e, eq_comm] using h.2
  subst this
  decide

/-- Supply water just at the trip, in RUNNING and in a FLUSH that goes on; in OVERHEAT, any. -/
theorem witness_OverheatAtTicks :
    let t (m : Mode) : State := atTime m 490 (measured 5500)
    (∀ m ∈ [Mode.running, .flush, .overheat], (t m).powered = true ∧ (t m).period.mode = m
        ∧ (t m).period.lastTick + 10 ≤ (elapse 10 (t m)).period.time
        ∧ (t m).period.lastTick + 10 < (t m).period.eff.period
        ∧ ((t m).probes.get 0).status = .ok ∧ ((t m).probes.get 0).filtered = some 5500
        ∧ (t m).params.g1.trip ≤ 5500)
      ∧ ¬ FlushEndsAt (elapse 10 (t .flush)) ((t .flush).period.lastTick + 10) :=
  ⟨by decide +kernel, by unfold FlushEndsAt; decide⟩

/-- A timer that reaches 0 just at the tick's period time, one that reaches it a second later, and one whose
expiry has been noted. -/
theorem witness_FlushEndsAtNextTick :
    let s (left : Nat) (due : Bool) : State :=
      let u := atTime .flush 490 State.reset
      u.setPeriod { u.period with flushTimer := some left, flushDue := due }
    (∀ left ∈ [0, 10, 11], ∀ due, (s left due).powered = true ∧ (s left due).period.mode = .flush
        ∧ (s left due).period.flushTimer = some left ∧ (s left due).period.flushDue = due
        ∧ (s left due).period.time < (s left due).period.eff.period
        ∧ (s left due).period.lastTick + 10 ≤ (elapse 11 (s left due)).period.time
        ∧ (s left due).period.lastTick + 10 < (s left due).period.eff.period
        ∧ ((s left due).probes.get 0).status ≠ .ok)
      ∧ FlushEndsAt (elapse 11 (s 10 false)) 500 ∧ ¬ FlushEndsAt (elapse 11 (s 11 false)) 500
      ∧ FlushEndsAt (elapse 11 (s 0 true)) 500 := by
  refine ⟨by decide +kernel, ?_, ?_, ?_⟩ <;> (unfold FlushEndsAt; decide)

/-- The end of a RUNNING period, a loop taking part, supply water below the trip, and a demand-drop report
of room 1, whose demand is 0, waiting. -/
theorem witness_RegularBoundaryLearnsAndPlans :
    let m := measured 5499
    let s := withRoom 0 (fun v => { v with cfg := { v.cfg with fallback := 0 } })
      (m.setPeriod { m.period with time := 1800, drops := [0] })
    ∃ rec, s.powered = true ∧ s.period.mode = .running ∧ s.period.records = some rec
      ∧ DropsFindNothing (elapse 0 s).agesExpired
      ∧ (∀ r, 0 < derivedDemand (s.rooms.get r) →
          derivedDemand ((elapse 0 s).agesExpired.rooms.get r) ≠ 0)
      ∧ s.period.eff.period ≤ (elapse 0 s).period.time
      ∧ (∀ f, (s.probes.get 0).status = .ok → (s.probes.get 0).filtered = some f →
          f < s.params.g1.trip)
      ∧ (s.loops.get 1).cfg.enabled = true ∧ (s.channels.get 1).condition = .ready
      ∧ s.params.timing = s.period.eff ∧ 0 < s.params.g3.autosave ∧ s.store.snapshot = none := by
  refine ⟨_, rfl, rfl, rfl, by unfold DropsFindNothing; decide +kernel, by decide +kernel,
    by decide, ?_, by decide, by decide, rfl, by decide, rfl⟩
  intro f _ h
  have e : ((measured 5499).probes.get 0).filtered = some 5499 := by decide
  have : f = 5499 := by
    have := e.symm.trans h
    exact (Option.some.inj this).symm
  subst this
  decide

/-- The lockout as the manual leaves it, every valve closed, the supply water at a value. -/
def lockedOut (water : Int) : State :=
  let s := atTime .overheat 1800 (settled (reads 0 water State.reset))
  s.setSupply { s.supply with latch := true }

/-- A flush that goes on, one whose timer runs out just at P with a tick below P still due, and one whose
timer ran out before; a lockout that goes on and one whose exit condition just holds. -/
theorem witness_BoundaryOutsideRunning :
    let s (left : Nat) : State :=
      let u := atTime .flush 1789 State.reset
      u.setPeriod { u.period with flushTimer := some left }
    let t (left : Nat) : State := (elapse 11 (s left)).agesExpired
    let p : Nat := (s 0).period.eff.period
    (∀ left ∈ [11, 12], (s left).powered = true ∧ (s left).period.mode = .flush
        ∧ (t left).period.drops = [] ∧ (s left).period.eff.period = p
        ∧ (s left).period.lastTick + 10 < p ∧ p ≤ (t left).period.time
        ∧ ((s left).probes.get 0).status ≠ .ok)
      ∧ (FlushEndsAt (t 11) p
        ∧ ∀ j, (s 11).period.lastTick + 10 * (j + 1) < p →
            ¬ FlushEndsAt (t 11) ((s 11).period.lastTick + 10 * (j + 1)))
      ∧ ¬ FlushEndsAt (t 12) p
      ∧ (∀ w ∈ [(5200 : Int), 5201], (lockedOut w).powered = true
        ∧ (lockedOut w).period.mode = .overheat
        ∧ (elapse 0 (lockedOut w)).agesExpired.period.drops = []
        ∧ (lockedOut w).period.records.isSome = true
        ∧ (lockedOut w).period.eff.period ≤ (elapse 0 (lockedOut w)).agesExpired.period.time
        ∧ ((lockedOut w).probes.get 0).status = .ok
        ∧ ((lockedOut w).probes.get 0).filtered = some w
        ∧ (lockedOut w).params.timing = (lockedOut w).period.eff)
      ∧ (s 11).params.timing = (s 11).period.eff
      ∧ (lockedOut 0).params.g1.trip - (lockedOut 0).params.g1.hysteresis = 5200
      ∧ ∀ w, PumpFollowsFlow (lockedOut w) := by
  refine ⟨by decide +kernel, ⟨by unfold FlushEndsAt; decide, fun j h => ?_⟩,
    by unfold FlushEndsAt; decide, by decide +kernel, rfl, by decide, fun w => ?_⟩
  · rintro ⟨-, h'⟩
    have := h' 1800 (by decide)
    change 1780 + 10 * (j + 1) < 1800 at h
    change 1800 ≤ 1780 + 10 * (j + 1) at this
    omega
  refine ⟨⟨fun _ => rfl, fun _ => rfl⟩, fun _ => ⟨?_, rfl, rfl, rfl⟩, nofun, ⟨nofun, nofun⟩⟩
  exact (by decide : ∀ i, ((lockedOut 0).channels.get i).energised = false)

/-- A plan entry at its join time, one a second before it, one at P, and a spacing just run out. -/
theorem witness_JoinsAndGrants :
    (∀ x ∈ [0, 60], ∃ e rest, (loopSixPlanned.setPeriod
          { loopSixPlanned.period with time := x }).arb.plan = e :: rest ∧ e.joinTime = 80)
      ∧ loopSixPlanned.powered = true ∧ loopSixPlanned.period.mode = .running
      ∧ 80 ≤ (elapse 15 loopSixPlanned).period.time ∧ 80 < loopSixPlanned.period.eff.period
      ∧ (let s := loopSixPlanned.setPeriod { loopSixPlanned.period with time := 60 }
        ∀ e, s.arb.plan.head? = some e → (elapse 19 s).period.time < e.joinTime)
      ∧ (let s := loopSixPlanned.setArb
          { loopSixPlanned.arb with plan := [{ loop := 5, joinTime := 1800 }] }
        s.powered = true ∧ ∀ e, s.arb.plan.head? = some e → s.period.eff.period ≤ e.joinTime)
      ∧ let s := loopSixPlanned.setArb { plan := [], queue := [.loop 5], sinceGrant := some 19 }
        s.powered = true ∧ s.arb.queue ≠ [] ∧ (elapse 1 s).arb.sinceGrant = some 20
          ∧ s.period.eff.spacing ≤ 20 := by
  refine ⟨fun x _ => ⟨_, _, rfl, rfl⟩, rfl, rfl, by decide, by decide, ?_, ⟨rfl, ?_⟩, rfl, by decide,
    by decide, by decide⟩
  · rintro s e ⟨⟩
    decide
  · rintro e ⟨⟩
    decide

/-- Loop 2 energised at 500 s with a close time. -/
def closesAt (c : Nat) : State :=
  withChannel 1 (fun x => { x with closeTime := some c })
    (energised 1 (.isOpen 9) (atTime .running 500 State.reset))

/-- A close time just reached below P, one equal to P, and a test at its end. -/
theorem witness_ChannelsReleaseThemselves :
    (∀ c ∈ [510, 1799, 1800], (closesAt c).powered = true
        ∧ ((closesAt c).channels.get 1).energised = true
        ∧ ((closesAt c).channels.get 1).closeTime = some c)
      ∧ (510 ≤ (elapse 10 (closesAt 510)).period.time ∧ 510 < (closesAt 510).period.eff.period)
      ∧ (closesAt 1800).period.eff.period ≤ 1800
      ∧ ∃ s : State, s.powered = true ∧ (s.channels.get 8).energised = true
        ∧ s.test = .active 8 120 120 ∧ s.arb.queue = [] :=
  ⟨by decide +kernel, by decide, by decide,
    (energised 8 (.opening 180) nineAbsent).setTest (.active 8 120 120), rfl, by decide, rfl, rfl⟩

/-- Load checks with and without a test, of an ABSENT and of a READY channel; a channel not energised. -/
theorem witness_FaultsReleaseChannel :
    let s := withChannel 8 (fun c => { c with loadCheck := some 2 })
      (energised 8 (.opening 180) nineAbsent)
    let tested := s.setTest (.active 8 120 120)
    (s.powered = true ∧ (s.channels.get 8).energised = true ∧ (s.channels.get 8).loadCheck = some 2
        ∧ (s.channels.get 8).condition = .absent ∧ ∀ d x, s.test ≠ .active 8 d x)
      ∧ (tested.powered = true ∧ (tested.channels.get 8).energised = true
        ∧ (tested.channels.get 8).loadCheck = some 2 ∧ (tested.channels.get 8).condition = .absent
        ∧ ∃ d x, tested.test = .active 8 d x)
      ∧ ((closesAt 1700).channels.get 1).condition ≠ .absent
      ∧ (State.reset.channels.get 8).energised = false :=
  ⟨⟨rfl, by decide, by decide, by decide, nofun⟩,
   ⟨rfl, by decide, by decide, by decide, 120, 120, rfl⟩, by decide, by decide⟩

theorem witness_ValvesMovePump :
    (∀ v ∈ [Valve.opening 180, .closing 240], ∃ s : State, s.powered = true
        ∧ (s.channels.get 1).valve = v)
      ∧ ∃ s : State, s.powered = true ∧ s.supply.pump = .hold ∧ s.supply.holdTimer = some 60 :=
  ⟨fun v _ => ⟨energised 1 v State.reset, rfl, by
      simp [energised, withChannel, State.setChannels, Bank.get, Bank.set]⟩,
    State.reset.setSupply { State.reset.supply with pump := .hold, holdTimer := some 60 },
    rfl, rfl, rfl⟩

/-- The two steps that the invariants are shown to be kept by: a command, from a state of RUNNING with
a room in use and a channel energised, and from a save in progress. -/
theorem witness_StepsKeepTablesSound :
    let s := dropping.setPending [.toolRequestRaised]
    let u := saves.setPending [.saveCompletes 1]
    (∃ t, step s = .next t) ∧ (∃ t, step u = .next t) ∧ FactorsBounded s ∧ RoomsSound s
      ∧ SupplyRequestBounded s ∧ SavingImageFails u := by
  refine ⟨⟨_, rfl⟩, ⟨_, rfl⟩, ?_, ?_, ?_, fun _ => rfl⟩
  · unfold FactorsBounded; decide +kernel
  · unfold RoomsSound; decide +kernel
  · unfold SupplyRequestBounded; decide +kernel

theorem witness_StepsKeepHoldingLimit :
    let s := (energised 1 (.opening 3) (settled State.reset)).setPending [.overcurrent 1]
    let u := atTime .flush 490 State.reset
    let f := (u.setPeriod { u.period with
      flushTimer := some 0, flushRanOut := some 489 }).setPending [.measurementTick 10]
    (∃ t, step s = .next t) ∧ HoldingLimitKept s ∧ ChannelsCoherent s ∧ ClocksSound s
      ∧ (∃ t, step f = .next t) ∧ ClocksSound f := by
  refine ⟨⟨_, rfl⟩, ?_, ?_, by unfold ClocksSound; decide +kernel, ⟨_, rfl⟩,
    ⟨by decide, by decide, nofun, by decide, by decide, nofun, by decide, nofun, ?_⟩⟩
  rotate_left 2
  · rintro x ⟨⟩
    exact ⟨rfl, by decide⟩
  · unfold HoldingLimitKept; decide +kernel
  · unfold ChannelsCoherent; decide +kernel

theorem witness_StepsKeepPumpOnFlow :
    let s := (lockedOut 5000).setPending [.regularBoundary 0]
    (∃ t, step s = .next t) ∧ PumpFollowsFlow s := by
  refine ⟨⟨_, rfl⟩, ?_⟩
  unfold PumpFollowsFlow
  decide +kernel

/-- A loop waiting in the queue of RUNNING. -/
theorem witness_StepsKeepStartsSound :
    let s := (loopSixPlanned.setArb { plan := [], queue := [.loop 5], sinceGrant := some 18 }).setPending
      [.spacingExpiry 2]
    (∃ t, step s = .next t) ∧ StartsSound s := by
  refine ⟨⟨_, rfl⟩, ?_⟩
  refine ⟨⟨by decide +kernel, by decide +kernel⟩, by decide +kernel, fun _ => rfl, nofun, rfl,
    fun _ => nofun, fun _ => rfl⟩

/-- Tables within their ranges: the factory values. -/
theorem witness_ReadBackCarriesRecord :
    (State.reset.loops.get 0).cfg.clamped = (State.reset.loops.get 0).cfg
      ∧ (State.reset.rooms.get 0).cfg.clamped = (State.reset.rooms.get 0).cfg
      ∧ (State.reset.probes.get 0).cfg.clamped = (State.reset.probes.get 0).cfg
      ∧ State.reset.params.clamped = State.reset.params := by decide

theorem witness_ImageLoadsWhatWasSaved :
    Tables.factory.clamped = Tables.factory ∧ Tables.factory.admissible = true := by decide +kernel

end Sys2Proof.Tests
end

/-! The balancing arithmetic: SEED (R106, R107). -/

namespace Sys2Proof.Machine

/-! ## A SEND that its owner decides -/

/-- The transaction's record and the recorded result are together the House Port that R144 and R155 give. -/
theorem recordResult_closeExchange_eq_afterSend (k : SendKind) (payload : List Byte) (r : Result)
    (m : Mark) (t : State) :
    let bytes := sendBytes t.house.own k payload
    recordResult r k.code
        (closeExchange (if r.accepted then takenBytes bytes .own else refusedBytes bytes) m t)
      = { t with house := t.house.afterSend k payload r m } := by
  have slots : (sendBytes t.house.own k payload).length = payload.length + 4 := by
    simp [sendBytes, sendHead]
  cases accepted : r.accepted <;>
    simp [recordResult, closeExchange, State.setHouse, takenBytes, refusedBytes, acked,
      House.afterSend, accepted, slots, List.replicate_succ']

/-- The state after a SEND of a right length, group and check, whose owner leaves the own address. -/
theorem ownSend_good_eq_afterSend (k : SendKind) (owner : Owner) (payload : List Byte) (m : Mark)
    {s : State} (held : s.house.held = false) (len : payload.length ∈ k.lengths)
    (agrees : k.lengthAgrees payload = true) {r : Result} {t : State}
    (decided : owner payload s = (r, t)) (own : t.house.own = s.house.own) :
    ownSend k owner (goodFrame s k payload m) s
      = { t with house := t.house.afterSend k payload r m } := by
  rw [ownSend_good k owner payload m held len agrees, decided]
  simpa only [own] using recordResult_closeExchange_eq_afterSend k payload r m t

/-! ## SEED -/

theorem exec_seed (f : SendFrame) (s : State) :
    exec (.seed f) s = whenPowered (ownSend .seed ownSeed f) s := rfl

/-- A good SEED in a part that listens has the effect and the result its owner gives. -/
theorem exec_seed_good {s : State} (listens : s.listens) (m : Mark) {r : Result} {t : State}
    (decided : ownSeed [] s = (r, t)) (own : t.house.own = s.house.own) :
    exec (.seed (goodFrame s .seed [] m)) s
      = .next (driveLines { t with house := t.house.afterSend .seed [] r m }) := by
  obtain ⟨powered, held⟩ := listens
  rw [exec_seed, whenPowered_of_powered powered,
    ownSend_good_eq_afterSend .seed ownSeed [] m held (by decide) rfl decided own]

/-- The loop records after an accepted SEED (R106). -/
def seededLoops (s : State) : Bank Loop 16 :=
  s.loops.imap fun _ l =>
    { l with k := seededFactor (seededLengths s).length (seededLengths s).sum l }

theorem ownSeed_of_unseeded {s : State} (unseeded : seededLengths s = []) (p : List Byte) :
    ownSeed p s = (.refusedState, s) := by simp [ownSeed, unseeded]

theorem ownSeed_of_seeded {s : State} (seeded : seededLengths s ≠ []) (p : List Byte) :
    ownSeed p s = (.ok, s.setLoops (seededLoops s)) := by simp [ownSeed, seeded, seededLoops]

/-- The seeded K by cases: bounded to the loop's limits where it is enabled with a length, else kept. -/
theorem seededFactor_eq (count total : Nat) (l : Loop) :
    seededFactor count total l =
      match l.cfg.enabled, l.cfg.length with
      | true, some x => max l.cfg.kmin (min (1024 * x * count / total) l.cfg.kmax)
      | _, _ => l.k := by
  unfold seededFactor seededLength
  cases l.cfg.enabled with
  | false => rfl
  | true => cases l.cfg.length <;> rfl

/-- Settles O22, by the two answers of SEED's owner. -/
theorem seedSetsFactorsFromLengths : Obligations.SeedSetsFactorsFromLengths := by
  intro m s listens
  refine ⟨fun unseeded => ?refused, fun seeded => ⟨driveLines { s with
      loops := seededLoops s, house := s.house.afterSend .seed [] .ok m }, ?accepted, ?frame, ?factors⟩⟩
  case refused => exact exec_seed_good listens m (ownSeed_of_unseeded unseeded []) rfl
  case accepted => exact exec_seed_good listens m (ownSeed_of_seeded seeded []) rfl
  case frame => rw [driveLines_loops]
  case factors =>
    intro i
    rw [driveLines_loops, seededLoops, Bank.get_imap, seededFactor_eq]
    rfl

end Sys2Proof.Machine

/-! The other management frames: WRITE_MANIFOLD of group 3 (R160, R173) and CLEAR (R14, R38, R162). -/

namespace Sys2Proof.Machine

/-! ## Rows that are a SEND -/

/-- A good frame in a part that listens, through any row whose meaning is a SEND of the kind, has the
effect and the result its owner gives. -/
theorem exec_ownSend_good {row : SendFrame → Instr} {k : SendKind} {owner : Owner}
    (meaning : ∀ f s, exec (row f) s = whenPowered (ownSend k owner f) s)
    {payload : List Byte} (m : Mark) {s : State} (listens : s.listens)
    (len : payload.length ∈ k.lengths) (agrees : k.lengthAgrees payload = true)
    {r : Result} {t : State} (decided : owner payload s = (r, t)) (own : t.house.own = s.house.own) :
    exec (row (goodFrame s k payload m)) s
      = .next (driveLines { t with house := t.house.afterSend k payload r m }) := by
  obtain ⟨powered, held⟩ := listens
  rw [meaning, whenPowered_of_powered powered,
    ownSend_good_eq_afterSend k owner payload m held len agrees decided own]

theorem exec_writeManifoldGroup3 (f : SendFrame) (s : State) :
    exec (.writeManifoldGroup3 f) s = whenPowered (ownSend .writeManifold ownWriteManifold f) s := rfl

theorem exec_clearChannel (f : SendFrame) (s : State) :
    exec (.clearChannel f) s = whenPowered (ownSend .clear ownClear f) s := rfl

theorem exec_clearProbe (f : SendFrame) (s : State) :
    exec (.clearProbe f) s = whenPowered (ownSend .clear ownClear f) s := rfl

theorem exec_clearAll (f : SendFrame) (s : State) :
    exec (.clearAll f) s = whenPowered (ownSend .clear ownClear f) s := rfl

/-! ## Fields and enumeration codes (R175, section 11.5) -/

theorem byteAt_le (p : List Byte) (i : Nat) : byteAt p i ≤ 255 := by
  have := (p.getD i 0).isLt
  unfold byteAt
  omega

theorem yesNo_of_le {n : Nat} (h : n ≤ 1) : yesNo n = some (decide (n = 1)) := by
  interval_cases n <;> rfl

theorem yesNo_of_lt : ∀ {n : Nat}, 1 < n → yesNo n = none
  | _ + 2, _ => rfl

theorem senseOfCode_of_le {n : Nat} (h : n ≤ 1) : senseOfCode n = some (decide (n = 0)) := by
  interval_cases n <;> rfl

theorem senseOfCode_of_lt : ∀ {n : Nat}, 1 < n → senseOfCode n = none
  | _ + 2, _ => rfl

theorem Source.ofCode_code (src : Source) : Source.ofCode src.code = some src := by
  cases src <;> rfl

theorem Source.ofCode_of_lt : ∀ {n : Nat}, 4 < n → Source.ofCode n = none
  | _ + 5, _ => rfl

theorem loopOfNumber_of_eq_succ {n : Nat} {i : LoopIx} (h : n = i.val + 1) :
    loopOfNumber n = some i := by simp [loopOfNumber, h]

theorem loopOfNumber_of_outside {n : Nat} (h : n = 0 ∨ 16 < n) : loopOfNumber n = none :=
  dif_neg (by omega)

theorem probeOfNumber_of_eq {n : Nat} {q : ProbeIx} (h : n = q.val) : probeOfNumber n = some q := by
  simp [probeOfNumber, h, Nat.le_of_lt_succ q.isLt]

theorem probeOfNumber_of_lt {n : Nat} (h : 16 < n) : probeOfNumber n = none :=
  dif_neg (by omega)

/-! ## WRITE_MANIFOLD of group 3 -/

/-- The values of a group 3 payload that names these sources, as written (section 11.3). -/
def writtenGroup3 (p : List Byte) (srcA srcB : Source) : Group3 where
  pumpHold := wordAt p 1
  autosave := byteAt p 3
  autorun := byteAt p 4 = 1
  lineA := { source := srcA, senseHigh := byteAt p 6 = 0 }
  lineB := { source := srcB, senseHigh := byteAt p 8 = 0 }
  errorThreshold := byteAt p 9

theorem group3Payload_of_unnamed {p : List Byte}
    (h : 1 < byteAt p 4 ∨ 4 < byteAt p 5 ∨ 1 < byteAt p 6 ∨ 4 < byteAt p 7 ∨ 1 < byteAt p 8) :
    group3Payload p = none := by
  unfold group3Payload Group3.ofFields
  obtain autorun | srcA | senseA | srcB | senseB := h
  · simp [yesNo_of_lt autorun]
  · simp [Source.ofCode_of_lt srcA]
  · simp [senseOfCode_of_lt senseA]
  · simp [Source.ofCode_of_lt srcB]
  · simp [senseOfCode_of_lt senseB]

theorem group3Payload_of_named {p : List Byte} {srcA srcB : Source} (autorun : byteAt p 4 ≤ 1)
    (a : byteAt p 5 = srcA.code) (senseA : byteAt p 6 ≤ 1) (b : byteAt p 7 = srcB.code)
    (senseB : byteAt p 8 ≤ 1) : group3Payload p = some (writtenGroup3 p srcA srcB) := by
  simp [group3Payload, Group3.ofFields, yesNo_of_le autorun, a, b, Source.ofCode_code,
    senseOfCode_of_le senseA, senseOfCode_of_le senseB, writtenGroup3]

/-- The clamps of R160 on values that a byte each holds: only two of them can act. -/
theorem Group3.clamped_eq {g : Group3} (autosave : g.autosave ≤ 255)
    (threshold : g.errorThreshold ≤ 255) :
    g.clamped = { g with
      pumpHold := min g.pumpHold 900, errorThreshold := max 1 g.errorThreshold } := by
  simp [Group3.clamped, clampNat, autosave, threshold]

theorem Group3.clamped_eq_self_iff {g : Group3} (autosave : g.autosave ≤ 255)
    (threshold : g.errorThreshold ≤ 255) :
    g.clamped = g ↔ g.pumpHold ≤ 900 ∧ 1 ≤ g.errorThreshold := by
  rw [Group3.clamped_eq autosave threshold]
  obtain ⟨⟩ := g
  simp

theorem countForInterval_eq_min (interval count : Nat) :
    countForInterval interval count = min count interval := by
  unfold countForInterval
  split <;> omega

theorem ownWriteManifold_group3 {p : List Byte} (group : byteAt p 0 = 3) (s : State) :
    ownWriteManifold p s = writeGroup3 p s := by simp [ownWriteManifold, group]

theorem writeGroup3_of_none {p : List Byte} (unnamed : group3Payload p = none) (s : State) :
    writeGroup3 p s = (.refusedRange, s) := by simp [writeGroup3, unnamed]

/-- The owner's answer to a group it can read: the clamped group, and the autosave count brought to the
new interval (R160, R173). -/
theorem writeGroup3_of_some {p : List Byte} {g : Group3} (named : group3Payload p = some g)
    (s : State) :
    writeGroup3 p s =
      (if g.clamped = g then .ok else .clamped,
        { s with
          params := { s.params with g3 := g.clamped }
          store := { s.store with autosave := min s.store.autosave g.clamped.autosave } }) := by
  simp [writeGroup3, named, Result.ofClamp, countForInterval_eq_min, State.setParams, State.setStore]

/-- A good WRITE_MANIFOLD of group 3 has the effect and the result that `writeGroup3` gives. -/
theorem exec_writeManifoldGroup3_good {p : List Byte} (m : Mark) {s : State} (listens : s.listens)
    (len : p.length = 10) (group : byteAt p 0 = 3) {r : Result} {t : State}
    (decided : writeGroup3 p s = (r, t)) (own : t.house.own = s.house.own) :
    exec (.writeManifoldGroup3 (goodFrame s .writeManifold p m)) s
      = .next (driveLines { t with house := t.house.afterSend .writeManifold p r m }) :=
  exec_ownSend_good exec_writeManifoldGroup3 m listens (by simp [SendKind.lengths, len])
    (by simp [SendKind.lengthAgrees, group, groupLength, len])
    ((ownWriteManifold_group3 group s).trans decided) own

/-- Settles O20, by whether the payload's structural values all name something. -/
theorem writeGroup3RoutesLines : Obligations.WriteGroup3RoutesLines := by
  intro p m s listens len group
  refine ⟨fun unnamed => ?refused, fun srcA srcB autorun a senseA b senseB => ?accepted⟩
  case refused =>
    exact exec_writeManifoldGroup3_good m listens len group
      (writeGroup3_of_none (group3Payload_of_unnamed unnamed) s) rfl
  case accepted =>
    have named := group3Payload_of_named autorun a senseA b senseB
    have autosave : (writtenGroup3 p srcA srcB).autosave ≤ 255 := byteAt_le p 3
    have threshold : (writtenGroup3 p srcA srcB).errorThreshold ≤ 255 := byteAt_le p 9
    have decided := writeGroup3_of_some named s
    simp only [Group3.clamped_eq_self_iff autosave threshold] at decided
    rw [Group3.clamped_eq autosave threshold] at decided
    exact exec_writeManifoldGroup3_good m listens len group decided rfl

/-! ## CLEAR -/

/-- CLEAR of a probe by its status: a FAILED one begins again, an ABSENT one is left (R38). -/
theorem Probe.cleared_eq (q : Probe) :
    q.cleared =
      if q.status = .failed then Probe.initial q.cfg
      else if q.status = .absent then q
      else { q with errors := 0, recovery := 0 } := by
  unfold Probe.cleared
  cases q.status <;> simp

section Owner

variable {p : List Byte} (s : State)

theorem ownClear_channel {i : LoopIx} (target : byteAt p 0 = 0)
    (number : loopOfNumber (byteAt p 1) = some i) :
    ownClear p s = (.ok, { s with channels := s.channels.set i (s.channels.get i).cleared }) := by
  simp [ownClear, target, number, State.setChannels]

theorem ownClear_channel_outside (target : byteAt p 0 = 0)
    (number : loopOfNumber (byteAt p 1) = none) : ownClear p s = (.refusedRange, s) := by
  simp [ownClear, target, number]

theorem ownClear_probe {q : ProbeIx} (target : byteAt p 0 = 1)
    (number : probeOfNumber (byteAt p 1) = some q) :
    ownClear p s = (.ok, { s with probes := s.probes.set q (s.probes.get q).cleared }) := by
  simp [ownClear, target, number, State.setProbes]

theorem ownClear_probe_outside (target : byteAt p 0 = 1)
    (number : probeOfNumber (byteAt p 1) = none) : ownClear p s = (.refusedRange, s) := by
  simp [ownClear, target, number]

theorem ownClear_all (target : byteAt p 0 = 2) :
    ownClear p s = (.ok, { s with
      channels := s.channels.imap fun _ c => c.cleared
      probes := s.probes.imap fun _ q => q.cleared }) := by
  simp [ownClear, target, State.setChannels, State.setProbes]

theorem ownClear_unknown (target : 2 < byteAt p 0) : ownClear p s = (.refusedRange, s) := by
  unfold ownClear
  split
  · omega
  · omega
  · omega
  · rfl

end Owner

/-- The second length test of a CLEAR: two bytes, or a target type that is no CHANNEL and no PROBE (R144). -/
theorem clear_lengthAgrees {p : List Byte} (h : p.length = 2 ∨ 1 < byteAt p 0) :
    SendKind.clear.lengthAgrees p = true := by
  by_cases single : byteAt p 0 = 0 ∨ byteAt p 0 = 1
  · have two : p.length = 2 := by omega
    simp [SendKind.lengthAgrees, two]
  · simp [SendKind.lengthAgrees, single]

/-- A good CLEAR of a permitted length, through any of its three rows, has the effect and the result that
`ownClear` gives. -/
theorem exec_clear_good {row : SendFrame → Instr}
    (meaning : ∀ f s, exec (row f) s = whenPowered (ownSend .clear ownClear f) s)
    {p : List Byte} (m : Mark) {s : State} (listens : s.listens)
    (len : p.length = 2 ∨ p.length = 1 ∧ 1 < byteAt p 0) {r : Result} {t : State}
    (decided : ownClear p s = (r, t)) (own : t.house.own = s.house.own) :
    exec (row (goodFrame s .clear p m)) s
      = .next (driveLines { t with house := t.house.afterSend .clear p r m }) :=
  exec_ownSend_good meaning m listens (by simp only [SendKind.lengths, List.mem_cons]; omega)
    (clear_lengthAgrees (by omega)) decided own

/-- Settles O26, by the target type and by whether the number names a channel or a probe. -/
theorem clearActsOnChannelsAndProbes : Obligations.ClearActsOnChannelsAndProbes := by
  intro m x y s listens channel probe refused all
  have cleared : probe = Probe.cleared := (funext Probe.cleared_eq).symm
  simp only [refused, all, cleared]
  refine ⟨fun i number => ?channel, fun outside => ?channelOutside, fun q number => ?probe,
    fun outside => ?probeOutside, ?all, ?allTwo, fun unknown => ⟨?unknown, ?unknownTwo⟩⟩
  case channel =>
    have named : loopOfNumber (byteAt [0, x] 1) = some i := loopOfNumber_of_eq_succ number
    exact exec_clear_good exec_clearChannel m listens (.inl rfl) (ownClear_channel s rfl named) rfl
  case channelOutside =>
    exact exec_clear_good exec_clearChannel m listens (.inl rfl)
      (ownClear_channel_outside s rfl (loopOfNumber_of_outside outside)) rfl
  case probe =>
    have named : probeOfNumber (byteAt [1, x] 1) = some q := probeOfNumber_of_eq number
    exact exec_clear_good exec_clearProbe m listens (.inl rfl) (ownClear_probe s rfl named) rfl
  case probeOutside =>
    exact exec_clear_good exec_clearProbe m listens (.inl rfl)
      (ownClear_probe_outside s rfl (probeOfNumber_of_lt outside)) rfl
  case all =>
    exact exec_clear_good exec_clearAll m listens (.inr ⟨rfl, by decide⟩) (ownClear_all s rfl) rfl
  case allTwo =>
    exact exec_clear_good exec_clearAll m listens (.inl rfl) (ownClear_all s rfl) rfl
  case unknown =>
    have target : 1 < byteAt [x] 0 := Nat.lt_of_succ_lt unknown
    exact exec_clear_good exec_clearAll m listens (.inr ⟨rfl, target⟩) (ownClear_unknown s unknown) rfl
  case unknownTwo =>
    exact exec_clear_good exec_clearAll m listens (.inl rfl) (ownClear_unknown s unknown) rfl

end Sys2Proof.Machine

/-! Commands by their form: a SEND, a FETCH, a change under power; and what every command leaves (R138, log
28). -/

namespace Sys2Proof.Machine

/-! ## Commands by their form -/

/-- A row that is a SEND at the own address is decided by the owner of its kind (R154). -/
theorem exec_ownSendOf {c : Instr} {k : SendKind} {f : SendFrame} (row : ownSendOf c = some (k, f))
    (s : State) : exec c s = whenPowered (ownSend k (ownerOf k) f) s := by
  cases c <;> simp only [ownSendOf, Option.some.injEq, Prod.mk.injEq, reduceCtorEq] at row <;>
    obtain ⟨rfl, rfl⟩ := row <;> rfl

/-- A row that is a FETCH at the own address is answered with the reply of its kind (R145). -/
theorem exec_ownFetchOf {c : Instr} {k : FetchKind} {f : FetchFrame}
    (row : ownFetchOf c = some (k, f)) (s : State) :
    exec c s = whenPowered (ownFetch k (replyOf k) f) s := by
  cases c <;> simp only [ownFetchOf, Option.some.injEq, Prod.mk.injEq, reduceCtorEq] at row <;>
    obtain ⟨rfl, rfl⟩ := row <;> rfl

/-- The change that a command makes under power, before the lines follow their sources. -/
def commandEffect : Instr → State → State
  | .writeLoop f => ownSend .writeLoop ownWriteLoop f
  | .writeRoom f => ownSend .writeRoom ownWriteRoom f
  | .writeProbe f => ownSend .writeProbe ownWriteProbe f
  | .writeManifoldGroup0 f | .writeManifoldGroup1 f | .writeManifoldGroup2 f
  | .writeManifoldGroup3 f => ownSend .writeManifold ownWriteManifold f
  | .setModeRun f | .setModeStop f | .setModeFlush f => ownSend .setMode ownSetMode f
  | .clearChannel f | .clearProbe f | .clearAll f => ownSend .clear ownClear f
  | .testChannel f => ownSend .testChannel ownTestChannel f
  | .save f => ownSend .save ownSave f
  | .restartRuntime f | .restartReload f | .restartFactory f => ownSend .restart ownRestart f
  | .seed f => ownSend .seed ownSeed f
  | .unknownKind kind mark => ownSendKind kind mark
  | .manifoldStatus f => ownFetch .manifoldStatus replyManifoldStatus f
  | .loopStatus f => ownFetch .loopStatus replyLoopStatus f
  | .roomStatus f => ownFetch .roomStatus replyRoomStatus f
  | .probeStatus f => ownFetch .probeStatus replyProbeStatus f
  | .periodSummary f => ownFetch .periodSummary replyPeriodSummary f
  | .readLoop f => ownFetch .readLoop replyReadLoop f
  | .readRoom f => ownFetch .readRoom replyReadRoom f
  | .readProbe f => ownFetch .readProbe replyReadProbe f
  | .readManifold f => ownFetch .readManifold replyReadManifold f
  | .lastResult f => ownFetch .lastResult replyLastResult f
  | .report a f => houseTransaction (headerByte a true) [reportKind, f.selector] f.nackAt f.mark
  | .forwardOffer (some h) bytes nackAt mark => houseTransaction h bytes nackAt mark
  | .forwardOffer none _ _ mark => takeMark mark
  | .forwardTimeoutExpiry run => fun s =>
    let t := elapseMs run.after s
    takeMark run.mark (if forwardExpired t then expireForward t else t)
  | .pollTimerExpiry after => timed after (fun t => t.seg.pollTimer = 0) pollExpiry
  | .roomTransactionEnd ending turn => fun s => takeMark turn.mark (endTransaction ending turn.nackAt s)
  | .roomHoldTimeout held => holdOff held
  | .toolRequestRaised => raiseRequest
  | .toolRequestDropped => dropRequest
  | .ageExpiry room after => timed after (ageDue room) (expireAge room)
  | .probeCycleComplete probe line | .stuckError probe line | .acceptedEdge probe line =>
    sampleLine probe line
  | .measurementTick after => timed after tickDue tick
  | .flushTimerExpiry after => timed after flushExpired markFlushDue
  | .regularBoundary after => timed after boundaryDue regularBoundary
  | .join after => timed after joinReached joinFirst
  | .spacingExpiry after => timed after spacingReached opportunity
  | .closeTimeReached loop after => timed after (closeReached loop) (releaseOne loop)
  | .loadCheck loop load after => timed after (loadCheckDue loop) (checkLoad loop load)
  | .overcurrent loop => tripChannel loop
  | .openingEnds loop after => timed after (openingOver loop) (finishOpening loop)
  | .closingEnds loop after => timed after (closingOver loop) (finishClosing loop)
  | .testEnd after => timed after testOver finishTest
  | .pumpHoldExpiry after => timed after holdOver finishHold
  | .saveCompletes after => timed after saving completeSave
  | .powerOn straps | .resetInput straps => powerUp straps
  | .unknownFetchKind kind mark => ownFetchKind kind mark
  | .powerLoss => losePower

/-- The tool request pin follows its line, with or without power (R60, R61, log 10). -/
def pinFollows : Instr → State → State
  | .toolRequestRaised, s => s.setToolRequest true
  | .toolRequestDropped, s => s.setToolRequest false
  | _, s => s

/-- Every command but a power-on makes its change under power alone (log 10). -/
theorem exec_eq_whenPowered {c : Instr} (h : ∀ straps, c ≠ .powerOn straps) (s : State) :
    exec c s = whenPowered (commandEffect c) (pinFollows c s) := by
  cases c
  case powerOn straps => exact absurd rfl (h straps)
  case forwardOffer header _ _ _ => cases header <;> rfl
  all_goals rfl

theorem exec_powerOn (straps : BitVec 2) (s : State) :
    exec (.powerOn straps) s = .next (driveLines (powerUp straps s)) := rfl

@[simp] theorem pinFollows_powered (c : Instr) (s : State) : (pinFollows c s).powered = s.powered := by
  unfold pinFollows
  split <;> rfl

/-- What a command can give: under power, or at a power-on, its change with the lines driven after it;
otherwise the state as it was, but for the tool request pin. -/
theorem exec_next {c : Instr} {s t : State} (h : exec c s = .next t) :
    t = driveLines (commandEffect c (pinFollows c s)) ∨ s.powered = false ∧ t = pinFollows c s := by
  by_cases on : ∃ straps, c = .powerOn straps
  · obtain ⟨straps, rfl⟩ := on
    rw [exec_powerOn, Host.Outcome.next.injEq] at h
    exact .inl h.symm
  · rw [exec_eq_whenPowered (fun straps e => on ⟨straps, e⟩), whenPowered_next, pinFollows_powered] at h
    obtain ⟨off, rfl⟩ | ⟨-, rfl⟩ := h
    · exact .inr ⟨off, rfl⟩
    · exact .inl rfl

/-- Settles O1, by the definition of a step. -/
theorem stepTakesFrontCommand : Obligations.StepTakesFrontCommand := fun _ _ _ => rfl

/-- Settles O4: without power a command does nothing but move the pin. -/
theorem unpoweredPartStaysAsItIs : Obligations.UnpoweredPartStaysAsItIs := by
  intro c s off notOn
  rw [exec_eq_whenPowered notOn, whenPowered_of_unpowered (by rw [pinFollows_powered, off])]
  cases c <;> rfl

/-! ## The auxiliary lines (R138) -/

theorem heatCall_iff (s : State) : heatCall s = true ↔
    (s.period.mode = .running ∨ s.period.mode = .flush) ∧ ∃ i, (s.loops.get i).cls ≠ .off := by
  cases mode : s.period.mode <;> simp [heatCall, Mode.heats, mode]

theorem supplyUnmonitored_iff (s : State) : supplyUnmonitored s = true ↔
    (s.period.mode = .running ∨ s.period.mode = .flush) ∧ (s.probes.get 0).status ≠ .ok := by
  unfold supplyUnmonitored
  rw [Bool.and_eq_true, decide_eq_true_iff]
  cases s.period.mode <;> simp [Mode.heats, supplyProbe]

theorem anyFault_iff (s : State) : anyFault s = true ↔
    (∃ q, (s.probes.get q).status = .failed) ∨ (∃ i, (s.channels.get i).condition ≠ .ready)
      ∨ (∃ r, (s.rooms.get r).freshness = .lost) ∨ s.store.defaulted = true
      ∨ ((s.period.mode = .running ∨ s.period.mode = .flush) ∧ (s.probes.get 0).status ≠ .ok) := by
  simp only [anyFault, Bool.or_eq_true, supplyUnmonitored_iff, or_assoc]
  simp [anyProbeFailed, anyChannelFault, anyRoomLost]

theorem Pump.asserted_iff (p : Pump) : p.asserted = true ↔ p = .on ∨ p = .hold := by
  cases p <;> simp [Pump.asserted]

/-- Driving the lines moves no source. -/
@[simp] theorem driveLines_sourceActive (s : State) (src : Source) :
    sourceActive (driveLines s) src = sourceActive s src := by
  cases src <;> rfl

@[simp] theorem driveLines_lineLevel (s : State) (r : Routing) :
    lineLevel (driveLines s) r = lineLevel s r := by
  simp [lineLevel]

/-- Driven lines are at the levels that their sources and senses give. -/
theorem driveLines_linesFollow (s : State) : LinesFollow (driveLines s) := by
  intro on
  rw [driveLines_powered] at on
  rw [driveLines_lineLevel, driveLines_lineLevel]
  simp [driveLines, on, State.setSupply]

/-- The level of a line, by its source and its sense (R138). -/
theorem lineLevel_iff (s : State) (r : Routing) :
    lineLevel s r = true ↔ (sourceActive s r.source = true ↔ r.senseHigh = true) := by
  unfold lineLevel
  rw [beq_iff_eq, Bool.eq_iff_iff]

/-- A part that has power after a command has driven its lines at its end. -/
theorem exec_linesFollow {c : Instr} {s t : State} (h : exec c s = .next t) : LinesFollow t := by
  obtain rfl | ⟨off, rfl⟩ := exec_next h
  · exact driveLines_linesFollow _
  · intro on
    rw [pinFollows_powered, off] at on
    contradiction

/-- Settles O21: the lines are driven at the end of every command that is taken. -/
theorem linesFollowSources : Obligations.LinesFollowSources := by
  refine ⟨?_, fun s => rfl, rfl, rfl⟩
  intro c s t h on active high
  have source (src : Source) : sourceActive t src = true ↔ active src := by
    cases src with
    | off => simp [sourceActive, active]
    | pump => exact Pump.asserted_iff _
    | heatCall => exact heatCall_iff t
    | overheat => rfl
    | fault => exact anyFault_iff t
  obtain ⟨lineA, lineB⟩ := exec_linesFollow h on
  rw [lineA, lineB, lineLevel_iff, lineLevel_iff, source, source]
  exact ⟨.rfl, .rfl⟩

end Sys2Proof.Machine

/-! Invariants of a step, packaged once: what has to be kept by each operation of the part, and that a step
then keeps it. -/

namespace Sys2Proof.Machine

/-! ## What the invariants do not read -/

/-- The two states agree in all that an invariant reads: not in the probes, the room segment, the House Port,
the tool request pin, the queue of commands, the rooms' reports and the levels of the lines. -/
structure SameCore (s t : State) : Prop where
  g1 : t.params.g1 = s.params.g1
  loops : t.loops = s.loops
  channels : t.channels = s.channels
  test : t.test = s.test
  rooms : ∀ r, (t.rooms.get r).cfg = (s.rooms.get r).cfg
  period : t.period = s.period
  arb : t.arb = s.arb
  pump : t.supply.pump = s.supply.pump
  holdTimer : t.supply.holdTimer = s.supply.holdTimer
  bias : t.supply.bias = s.supply.bias
  latch : t.supply.latch = s.supply.latch
  snapshot : t.store.snapshot = s.store.snapshot
  image : t.store.image = s.store.image
  msPhase : t.msPhase = s.msPhase

namespace SameCore

theorem setHouse (s : State) (h : House) : SameCore s (s.setHouse h) := by constructor <;> simp
theorem setSeg (s : State) (v : Segment) : SameCore s (s.setSeg v) := by constructor <;> simp
theorem setProbes (s : State) (v : Bank Probe 17) : SameCore s (s.setProbes v) := by
  constructor <;> simp
theorem setToolRequest (s : State) (v : Bool) : SameCore s (s.setToolRequest v) := by
  constructor <;> simp
theorem setPending (s : State) (v : List Instr) : SameCore s (s.setPending v) := by
  constructor <;> simp
theorem setDraws (s : State) (v : Nat) : SameCore s (s.setDraws v) := by constructor <;> simp
theorem driveLines (s : State) : SameCore s (driveLines s) := by
  constructor <;> first | simp | simp [Machine.driveLines]
theorem pinFollows (c : Instr) (s : State) : SameCore s (pinFollows c s) := by
  unfold Machine.pinFollows
  split
  · exact setToolRequest s _
  · exact setToolRequest s _
  · constructor <;> simp

/-- Rooms changed in their runtime fields alone. -/
theorem setRooms {f : RoomIx → Room → Room} (s : State) (cfg : ∀ r v, (f r v).cfg = v.cfg) :
    SameCore s (s.setRooms (s.rooms.imap f)) := by
  constructor <;> simp [cfg]

theorem trans {s t u : State} (a : SameCore s t) (b : SameCore t u) : SameCore s u where
  g1 := b.g1.trans a.g1
  loops := b.loops.trans a.loops
  channels := b.channels.trans a.channels
  test := b.test.trans a.test
  rooms r := (b.rooms r).trans (a.rooms r)
  period := b.period.trans a.period
  arb := b.arb.trans a.arb
  pump := b.pump.trans a.pump
  holdTimer := b.holdTimer.trans a.holdTimer
  bias := b.bias.trans a.bias
  latch := b.latch.trans a.latch
  snapshot := b.snapshot.trans a.snapshot
  image := b.image.trans a.image
  msPhase := b.msPhase.trans a.msPhase

/-- The manifold parameter table written, but for group 1, and the autosave count brought to it. -/
theorem setParams {p : Params} (s : State) (g1 : p.g1 = s.params.g1) : SameCore s (s.setParams p) := by
  constructor <;> simp [g1]

end SameCore

@[simp] theorem Room.aged_cfg (h : Nat) (v : Room) : (v.aged h).cfg = v.cfg := by
  unfold Room.aged
  split <;> (try split) <;> rfl

/-! ## The invariant of a step -/

/-- What has to be shown of `I` for every step to keep it: one field per operation of the part, each under
what its caller has checked. -/
structure StepInvariant (I : State → Prop) : Prop where
  congr : ∀ {s t}, SameCore s t → I s → I t
  elapseMs : ∀ {s} n, I s → I (elapseMs n s)
  reportDrops : ∀ {s} rooms, I s → I (reportDrops rooms s)
  writeLoop : ∀ {s} i {c : LoopConfig} unity,
    (c.admissible fun r => (s.rooms.get r).cfg.inUse) = true → I s → I (writeLoopRecord i c.clamped unity s)
  writeRoom : ∀ {s} r {c : RoomConfig}, roomAdmissible r c s = true → I s → I (writeRoomRecord r c.clamped s)
  writeGroup1 : ∀ {s} p, I s → I (writeGroup1 p s).2
  seed : ∀ {s}, I s → I (s.setLoops (seededLoops s))
  stop : ∀ {s}, I s → I (stopManifold s)
  run : ∀ {s}, I s → I (setRun s).2
  flush : ∀ {s}, I s → I (setFlush s).2
  clear : ∀ {s} (sel : LoopIx → Bool), I s →
    I (s.setChannels (s.channels.imap fun i c => if sel i then c.cleared else c))
  queueTest : ∀ {s} i d, s.period.mode = .stopped → s.test = .idle → I s → I (queueTest i d s)
  beginSave : ∀ {s}, saving s = false → I s → I (beginSave s)
  restart : ∀ {s} scope, saving s = false → I s → I (restart scope s)
  tick : ∀ {s}, tickDue s = true → I s → I (tick s)
  regularBoundary : ∀ {s}, boundaryDue s = true → I s → I (regularBoundary s)
  markFlushDue : ∀ {s}, flushExpired s = true → I s → I (markFlushDue s)
  joinFirst : ∀ {s}, joinReached s = true → I s → I (joinFirst s)
  opportunity : ∀ {s}, I s → I (opportunity s)
  releaseOne : ∀ {s} i, I s → I (releaseOne i s)
  checkLoad : ∀ {s} i load, loadCheckDue i s = true → I s → I (checkLoad i load s)
  tripChannel : ∀ {s} i, I s → I (tripChannel i s)
  finishOpening : ∀ {s} i, openingOver i s = true → I s → I (finishOpening i s)
  finishClosing : ∀ {s} i, closingOver i s = true → I s → I (finishClosing i s)
  finishTest : ∀ {s}, testOver s = true → I s → I (finishTest s)
  finishHold : ∀ {s}, holdOver s = true → I s → I (finishHold s)
  completeSave : ∀ {s}, I s → I (completeSave s)
  powerUp : ∀ {s} straps, I s → I (powerUp straps s)
  losePower : ∀ {s}, I s → I (losePower s)

namespace StepInvariant

variable {I : State → Prop} (inv : StepInvariant I) {s : State}

include inv

/-- A timer event keeps what its time and, where it is due, its event keep. -/
theorem timed {due : State → Bool} {f : State → State} (after : Nat)
    (event : ∀ {t}, due t = true → I t → I (f t)) (h : I s) : I (timed after due f s) := by
  have passed : I (elapse after s) := inv.elapseMs _ h
  unfold Machine.timed
  dsimp only
  split
  · next d => exact event d passed
  · exact passed

/-- Rooms changed in their runtime fields, with the reports of their demand drops (R50). -/
theorem changeRooms {f : RoomIx → Room → Room} (cfg : ∀ r v, (f r v).cfg = v.cfg) (h : I s) :
    I (changeRooms f s) :=
  inv.reportDrops _ (inv.congr (.setRooms s cfg) h)

theorem changeRoom {f : Room → Room} (r : RoomIx) (cfg : ∀ v, (f v).cfg = v.cfg) (h : I s) :
    I (changeRoom r f s) :=
  inv.changeRooms (fun q v => by split <;> simp [cfg]) h

theorem expireAge (r : RoomIx) (h : I s) : I (expireAge r s) := inv.changeRoom r (by simp) h

theorem expireAges (h : I s) : I (expireAges s) := inv.changeRooms (by simp) h

theorem closeExchange (x : Exchange) (m : Mark) (h : I s) : I (closeExchange x m s) :=
  inv.congr (.setHouse _ _) h

theorem recordResult (r : Result) (k : Byte) (h : I s) : I (recordResult r k s) :=
  inv.congr (.setHouse _ _) h

theorem countError (h : I s) : I (countError s) := inv.congr (.setHouse _ _) h

theorem takeMark (m : Mark) (h : I s) : I (takeMark m s) := by
  unfold Machine.takeMark
  split
  · exact h
  · exact inv.congr (.setHouse _ _) h

/-! ### The owners -/

theorem ownWriteLoop (p : List Byte) (h : I s) : I (ownWriteLoop p s).2 := by
  unfold Machine.ownWriteLoop
  split
  · split
    · next sound => exact inv.writeLoop _ _ sound h
    · exact h
  · exact h

theorem ownWriteRoom (p : List Byte) (h : I s) : I (ownWriteRoom p s).2 := by
  unfold Machine.ownWriteRoom
  split
  · split
    · next sound => exact inv.writeRoom _ sound h
    · exact h
  · exact h

theorem ownWriteProbe (p : List Byte) (h : I s) : I (ownWriteProbe p s).2 := by
  unfold Machine.ownWriteProbe
  split
  · exact inv.congr (.setProbes _ _) h
  · exact h

theorem ownWriteManifold (p : List Byte) (h : I s) : I (ownWriteManifold p s).2 := by
  unfold Machine.ownWriteManifold
  split
  · exact inv.congr (.setParams s rfl) h
  · exact inv.writeGroup1 p h
  · exact inv.expireAges (inv.congr (.setParams s rfl) h)
  · unfold Machine.writeGroup3
    split
    · exact inv.congr (SameCore.trans (.setParams s rfl) (by constructor <;> simp)) h
    · exact h
  · exact h

theorem ownSetMode (p : List Byte) (h : I s) : I (ownSetMode p s).2 := by
  unfold Machine.ownSetMode
  split
  · exact inv.stop h
  · exact inv.run h
  · exact inv.flush h
  · exact h

theorem ownClear (p : List Byte) (h : I s) : I (ownClear p s).2 := by
  unfold Machine.ownClear
  split
  · split
    · next i _ =>
      have one : s.channels.set i (s.channels.get i).cleared
          = s.channels.imap fun j c => if decide (j = i) then c.cleared else c := by
        apply Bank.ext_get
        intro j
        rw [Bank.get_set, Bank.get_imap]
        split
        · next e => simp [e]
        · next e => simp [e]
      dsimp only
      rw [one]
      exact inv.clear _ h
    · exact h
  · split
    · exact inv.congr (.setProbes _ _) h
    · exact h
  · exact inv.congr (.setProbes _ _) (inv.clear (fun _ => true) h)
  · exact h

theorem ownTestChannel (p : List Byte) (h : I s) : I (ownTestChannel p s).2 := by
  unfold Machine.ownTestChannel
  split
  · exact h
  · dsimp only
    split
    · exact h
    · next stopped =>
      split
      · exact h
      · next idle =>
        split
        · exact h
        · exact inv.queueTest _ _ (not_not.mp stopped) (not_not.mp idle) h

theorem ownSave (p : List Byte) (h : I s) : I (ownSave p s).2 := by
  unfold Machine.ownSave
  split
  · exact h
  · next free => exact inv.beginSave (by simpa using free) h

theorem ownRestart (p : List Byte) (h : I s) : I (ownRestart p s).2 := by
  unfold Machine.ownRestart
  split
  · exact h
  · split
    · exact h
    · next free => exact inv.restart _ (by simpa using free) h

theorem ownSeed (p : List Byte) (h : I s) : I (ownSeed p s).2 := by
  unfold Machine.ownSeed
  dsimp only
  split
  · exact h
  · exact inv.seed h

theorem ownerOf (k : SendKind) (p : List Byte) (h : I s) : I (ownerOf k p s).2 := by
  cases k with
  | writeLoop => exact inv.ownWriteLoop p h
  | writeRoom => exact inv.ownWriteRoom p h
  | writeProbe => exact inv.ownWriteProbe p h
  | writeManifold => exact inv.ownWriteManifold p h
  | setMode => exact inv.ownSetMode p h
  | clear => exact inv.ownClear p h
  | testChannel => exact inv.ownTestChannel p h
  | save => exact inv.ownSave p h
  | restart => exact inv.ownRestart p h
  | seed => exact inv.ownSeed p h

/-! ### House transactions -/

theorem ownSend (k : SendKind) (f : SendFrame) (h : I s) : I (ownSend k (Machine.ownerOf k) f s) := by
  unfold Machine.ownSend
  dsimp only
  split
  · exact h
  split
  · exact inv.closeExchange _ _ h
  split
  · exact inv.recordResult _ _ (inv.countError (inv.closeExchange _ _ h))
  split
  · exact inv.closeExchange _ _ h
  split
  · exact inv.recordResult _ _ (inv.countError (inv.closeExchange _ _ h))
  split
  · exact inv.recordResult _ _ (inv.countError (inv.closeExchange _ _ h))
  · exact inv.recordResult _ _ (inv.closeExchange _ _ (inv.ownerOf k _ h))

theorem ownSendKind (kind : Byte) (m : Mark) (h : I s) : I (ownSendKind kind m s) := by
  unfold Machine.ownSendKind
  dsimp only
  split
  · exact h
  split
  · exact inv.closeExchange _ _ h
  · exact inv.recordResult _ _ (inv.countError (inv.closeExchange _ _ h))

theorem ownFetch (k : FetchKind) (reply : Byte → State → Option (List Byte)) (f : FetchFrame) (h : I s) :
    I (ownFetch k reply f s) := by
  unfold Machine.ownFetch
  dsimp only
  split
  · exact h
  split <;> exact inv.closeExchange _ _ h

theorem ownFetchKind (kind : Byte) (m : Mark) (h : I s) : I (ownFetchKind kind m s) := by
  unfold Machine.ownFetchKind
  dsimp only
  split
  · exact h
  split
  · exact inv.closeExchange _ _ h
  · exact inv.countError (inv.closeExchange _ _ h)

theorem ownTransaction (fetch : Bool) (bytes : List Byte) (nackAt : Option Nat) (m : Mark) (h : I s) :
    I (ownTransaction fetch bytes nackAt m s) := by
  unfold Machine.ownTransaction
  split
  · exact inv.closeExchange _ _ h
  split
  · split
    · exact inv.ownFetch _ _ _ h
    · exact inv.ownFetchKind _ _ h
  · split
    · exact inv.ownSend _ _ h
    · exact inv.ownSendKind _ _ h

theorem arbitrate (h : I s) : I (arbitrate s) := inv.congr (by constructor <;> simp) h

theorem pollExpiry (h : I s) : I (pollExpiry s) := inv.congr (by constructor <;> simp) h

theorem offerForward (r : RoomIx) (a : BitVec 7) (f : ForwardFrame) (bytes : List Byte) (fetch : Bool)
    (m : Mark) (h : I s) : I (offerForward r a f bytes fetch m s) := by
  unfold Machine.offerForward
  split
  · exact inv.arbitrate (inv.congr (.setSeg _ _) (inv.congr (.setHouse _ _) h))
  · exact inv.closeExchange _ _ h

theorem forwardSend (r : RoomIx) (header kind : Byte) (rest : List Byte) (m : Mark) (h : I s) :
    I (forwardSend r header kind rest m s) := by
  unfold Machine.forwardSend
  dsimp only
  split
  · exact inv.closeExchange _ _ h
  split
  · exact inv.closeExchange _ _ h
  split
  · exact inv.closeExchange _ _ h
  split
  · exact inv.closeExchange _ _ h
  · exact inv.offerForward _ _ _ _ _ _ h

theorem serveReport (r : RoomIx) (head : List Byte) (sel : Byte) (nackAt : Option Nat) (m : Mark)
    (h : I s) : I (serveReport r head sel nackAt m s) := by
  unfold Machine.serveReport
  split <;> exact inv.closeExchange _ _ h

theorem proxyTransaction (r : RoomIx) (header : Byte) (bytes : List Byte) (nackAt : Option Nat)
    (m : Mark) (h : I s) : I (proxyTransaction r header bytes nackAt m s) := by
  unfold Machine.proxyTransaction
  dsimp only
  split
  · exact inv.closeExchange _ _ h
  split
  · split
    · exact inv.closeExchange _ _ h
    · exact inv.serveReport _ _ _ _ _ h
  split
  · exact inv.closeExchange _ _ h
  split
  · split
    · exact inv.closeExchange _ _ h
    · exact inv.offerForward _ _ _ _ _ _ h
  · exact inv.forwardSend _ _ _ _ _ h

theorem houseTransaction (header : Byte) (bytes : List Byte) (nackAt : Option Nat) (m : Mark) (h : I s) :
    I (houseTransaction header bytes nackAt m s) := by
  unfold Machine.houseTransaction
  split
  · exact h
  split
  · exact inv.ownTransaction _ _ _ _ h
  split
  · exact inv.proxyTransaction _ _ _ _ _ h
  · exact inv.closeExchange _ _ h

/-! ### The room segment -/

theorem deliverPoll (r : RoomIx) (t : Transaction) (e : RoomEnding) (h : I s) :
    I (deliverPoll r t e s) := by
  unfold Machine.deliverPoll
  split
  · split
    · exact inv.changeRoom r (fun _ => rfl) h
    · exact inv.changeRoom r (fun _ => rfl) h
  · exact h

theorem endTransaction (e : RoomEnding) (nackAt : Option Nat) (h : I s) :
    I (endTransaction e nackAt s) := by
  unfold Machine.endTransaction
  split
  · exact h
  · exact h
  · dsimp only
    split
    · exact inv.congr (by constructor <;> simp) h
    · next r x _ _ =>
      have left : I (leaveSegment x pollLengths e s) := inv.congr (.setSeg s _) h
      exact inv.congr (by constructor <;> simp) (inv.deliverPoll r x e left)
  · dsimp only
    split <;> exact inv.congr (by constructor <;> simp) h

theorem expireForward (h : I s) : I (expireForward s) := by
  apply inv.congr _ h
  constructor <;> simp [Machine.expireForward] <;> split <;> simp

/-! ### Every command, and every step -/

/-- Every command's change keeps the invariant. -/
theorem commandEffect (c : Instr) (h : I s) : I (commandEffect c s) := by
  cases c with
  | writeLoop f => exact inv.ownSend .writeLoop f h
  | writeRoom f => exact inv.ownSend .writeRoom f h
  | writeProbe f => exact inv.ownSend .writeProbe f h
  | writeManifoldGroup0 f => exact inv.ownSend .writeManifold f h
  | writeManifoldGroup1 f => exact inv.ownSend .writeManifold f h
  | writeManifoldGroup2 f => exact inv.ownSend .writeManifold f h
  | writeManifoldGroup3 f => exact inv.ownSend .writeManifold f h
  | setModeRun f => exact inv.ownSend .setMode f h
  | setModeStop f => exact inv.ownSend .setMode f h
  | setModeFlush f => exact inv.ownSend .setMode f h
  | clearChannel f => exact inv.ownSend .clear f h
  | clearProbe f => exact inv.ownSend .clear f h
  | clearAll f => exact inv.ownSend .clear f h
  | testChannel f => exact inv.ownSend .testChannel f h
  | save f => exact inv.ownSend .save f h
  | restartRuntime f => exact inv.ownSend .restart f h
  | restartReload f => exact inv.ownSend .restart f h
  | restartFactory f => exact inv.ownSend .restart f h
  | seed f => exact inv.ownSend .seed f h
  | unknownKind kind m => exact inv.ownSendKind kind m h
  | manifoldStatus f => exact inv.ownFetch _ _ f h
  | loopStatus f => exact inv.ownFetch _ _ f h
  | roomStatus f => exact inv.ownFetch _ _ f h
  | probeStatus f => exact inv.ownFetch _ _ f h
  | periodSummary f => exact inv.ownFetch _ _ f h
  | readLoop f => exact inv.ownFetch _ _ f h
  | readRoom f => exact inv.ownFetch _ _ f h
  | readProbe f => exact inv.ownFetch _ _ f h
  | readManifold f => exact inv.ownFetch _ _ f h
  | lastResult f => exact inv.ownFetch _ _ f h
  | unknownFetchKind kind m => exact inv.ownFetchKind kind m h
  | report a f => exact inv.houseTransaction _ _ _ _ h
  | forwardOffer header bytes nackAt m =>
    cases header with
    | none => exact inv.takeMark m h
    | some x => exact inv.houseTransaction x _ _ _ h
  | forwardTimeoutExpiry run =>
    have passed := inv.elapseMs run.after h
    refine inv.takeMark _ ?_
    split
    · exact inv.expireForward passed
    · exact passed
  | pollTimerExpiry a => exact inv.timed (due := fun t => t.seg.pollTimer = 0) a (fun _ h => inv.pollExpiry h) h
  | roomTransactionEnd e turn => exact inv.takeMark _ (inv.endTransaction _ _ h)
  | roomHoldTimeout held => exact inv.congr (t := holdOff held s) (by constructor <;> simp) h
  | toolRequestRaised => exact inv.congr (t := raiseRequest s) (by constructor <;> simp) h
  | toolRequestDropped => exact inv.congr (t := dropRequest s) (by constructor <;> simp) h
  | ageExpiry r a => exact inv.timed a (fun _ h => inv.expireAge r h) h
  | probeCycleComplete q line => exact inv.congr (.setProbes s _) h
  | stuckError q line => exact inv.congr (.setProbes s _) h
  | acceptedEdge q line => exact inv.congr (.setProbes s _) h
  | measurementTick a => exact inv.timed a inv.tick h
  | flushTimerExpiry a => exact inv.timed a inv.markFlushDue h
  | regularBoundary a => exact inv.timed a inv.regularBoundary h
  | join a => exact inv.timed a inv.joinFirst h
  | spacingExpiry a => exact inv.timed a (fun _ h => inv.opportunity h) h
  | closeTimeReached i a => exact inv.timed a (fun _ h => inv.releaseOne i h) h
  | loadCheck i load a => exact inv.timed a (inv.checkLoad i load) h
  | overcurrent i => exact inv.tripChannel i h
  | openingEnds i a => exact inv.timed a (inv.finishOpening i) h
  | closingEnds i a => exact inv.timed a (inv.finishClosing i) h
  | testEnd a => exact inv.timed a inv.finishTest h
  | pumpHoldExpiry a => exact inv.timed a inv.finishHold h
  | saveCompletes a => exact inv.timed a (fun _ h => inv.completeSave h) h
  | powerOn straps => exact inv.powerUp straps h
  | resetInput straps => exact inv.powerUp straps h
  | powerLoss => exact inv.losePower h

/-- Every step keeps the invariant. -/
theorem step {t : State} (taken : step s = .next t) (h : I s) : I t := by
  unfold Machine.step at taken
  split at taken
  · next c rest _ =>
    have pinned : I (pinFollows c (s.setPending rest)) :=
      inv.congr (.pinFollows _ _) (inv.congr (.setPending _ _) h)
    obtain rfl | ⟨-, rfl⟩ := exec_next taken
    · exact inv.congr (.driveLines _) (inv.commandEffect c pinned)
    · exact pinned
  · obtain rfl := Host.Outcome.next.inj taken
    unfold Machine.idleSecond
    split
    · exact inv.congr (.setDraws _ _) (inv.congr (.setPending _ _) (inv.elapseMs _ h))
    · exact h

end StepInvariant

end Sys2Proof.Machine

/-! Loop records: what each operation makes of them (R3, R69, R80, R92, R97 to R105, R174). -/

namespace Sys2Proof.Machine

/-! ## Early close and the ticks -/

/-- A loop made OFF (R4, R80). -/
def Loop.closed (l : Loop) : Loop := { l with cls := .off, onTime := 0 }

@[simp] theorem Loop.closed_cfg (l : Loop) : l.closed.cfg = l.cfg := rfl
@[simp] theorem Loop.closed_k (l : Loop) : l.closed.k = l.k := rfl
@[simp] theorem Loop.closed_cls (l : Loop) : l.closed.cls = .off := rfl
@[simp] theorem Loop.closed_onTime (l : Loop) : l.closed.onTime = 0 := rfl

@[simp] theorem classOff_loops (sel : LoopIx → Bool) (s : State) (i : LoopIx) :
    (classOff sel s).loops.get i = if sel i then (s.loops.get i).closed else s.loops.get i := by
  simp [classOff, Loop.closed]

@[simp] theorem closeLoops_loops (sel : LoopIx → Bool) (s : State) (i : LoopIx) :
    (closeLoops sel s).loops.get i = if sel i then (s.loops.get i).closed else s.loops.get i := by
  simp [closeLoops]

@[simp] theorem demandDrop_loops (rooms : RoomIx → Bool) (s : State) (i : LoopIx) :
    (demandDrop rooms s).loops.get i =
      if s.period.mode = .running ∧ droppedLoop rooms s i then (s.loops.get i).closed
      else s.loops.get i := by
  unfold demandDrop
  by_cases running : s.period.mode = .running <;> simp [running]

@[simp] theorem accumulate_loops (s : State) (i : LoopIx) :
    (accumulate s).loops.get i =
      match tickDrop s i with
      | some d => { s.loops.get i with sigma := (s.loops.get i).sigma + d, n := (s.loops.get i).n + 1 }
      | none => s.loops.get i := by
  simp [accumulate] <;> rfl

@[simp] theorem plainTick_loops (s : State) : (plainTick s).loops = (accumulate s).loops := by
  simp [plainTick]

/-! ## The pass -/

/-- The classes that a pass gives depend on the six planning values alone (R74, R105). -/
theorem planned_congr {t t' : Timing} (h : planningValues t = planningValues t') (v : Variant)
    (policy : Policy) (held : Held) : planned v t policy held = planned v t' policy held := by
  simp only [planningValues, Prod.mk.injEq] at h
  obtain ⟨period, margin, eMin, minPulse, tOpen, tClose⟩ := h
  unfold planned classify pulseOnTime
  simp only [period, margin, eMin, minPulse, tOpen, tClose]

/-- The class and on-time of a pass written into a loop record, with its factor (R92, R100). -/
def Loop.withPass (v : Variant) (t : Timing) (held : Held) (l : Loop) : Loop :=
  { l with
    k := held.k
    cls := (planned v t l.cfg.policy held).1
    onTime := (planned v t l.cfg.policy held).2 }

/-- Outside the full variant a pass holds the factor of the record (R102 to R104). -/
theorem hold_k {v : Variant} (h : v ≠ .full) (s : State) (i : LoopIx) :
    (hold v s i).k = (s.loops.get i).k := by
  simp [hold, h]

@[simp] theorem runPass_loops (v : Variant) (s : State) (i : LoopIx) :
    (runPass v (Bank.ofFn fun j => hold v s j) s).loops.get i =
      (s.loops.get i).withPass v s.period.eff (hold v s i) := by
  cases v with
  | full => simp [runPass, writeFactors, writeClasses, Loop.withPass]
  | forced => simp [runPass, writeClasses, Loop.withPass, hold_k]
  | flush => simp [runPass, writeClasses, Loop.withPass, hold_k]
  | noPass => simp [runPass, writeClasses, Loop.withPass, hold_k]

@[simp] theorem stagePass_loops (v : Variant) (held : Bank Held 16) (s : State) :
    (stagePass v held s).loops = (runPass v held s).loops := by
  unfold stagePass
  dsimp only
  split <;> simp

@[simp] theorem runPass_eff (v : Variant) (held : Bank Held 16) (s : State) :
    (runPass v held s).period.eff = s.period.eff := by
  cases v <;> simp [runPass, writeSteps]

@[simp] theorem runPass_mode (v : Variant) (held : Bank Held 16) (s : State) :
    (runPass v held s).period.mode = s.period.mode := by
  cases v <;> simp [runPass, writeSteps]

@[simp] theorem stagePass_period (v : Variant) (held : Bank Held 16) (s : State) :
    (stagePass v held s).period = (runPass v held s).period := by
  unfold stagePass
  dsimp only
  split <;> simp

@[simp] theorem stageLatch_period (v : Variant) (held : Bank Held 16) (s : State) :
    (stageLatch v held s).period = { s.period with eff := s.params.timing } := by
  unfold stageLatch
  dsimp only
  split <;> simp

/-- After the latch every class is the one that the pass gives with the group 0 values of the table (R74,
R105). -/
theorem stageLatch_loops (v : Variant) (s : State) (i : LoopIx) :
    (stageLatch v (Bank.ofFn fun j => hold v s j)
        (stagePass v (Bank.ofFn fun j => hold v s j) s)).loops.get i =
      (s.loops.get i).withPass v s.params.timing (hold v s i) := by
  unfold stageLatch
  dsimp only
  split
  · next same =>
    simp only [stagePass_period, runPass_eff, State.setPeriod_period, stagePass_params]
      at same
    simp [Loop.withPass, planned_congr same]
  · simp [writeClasses, Loop.withPass]

@[simp] theorem openPeriod_loops (s : State) (i : LoopIx) :
    (openPeriod s).loops.get i = { s.loops.get i with sigma := 0, n := 0 } := by
  simp [openPeriod]

@[simp] theorem newPeriod_loops (s : State) (i : LoopIx) :
    (newPeriod s).loops.get i = { s.loops.get i with sigma := 0, n := 0 } := by
  simp [newPeriod]

/-- A loop record as the new period begins: the class, on-time and factor of the pass, the measurements at
0 (R76, R100). -/
theorem planPeriod_loops (v : Variant) (s : State) (i : LoopIx) :
    (planPeriod v s).loops.get i =
      { (s.loops.get i).withPass v s.params.timing (hold v s i) with sigma := 0, n := 0 } := by
  simp [planPeriod, stageLatch_loops]

/-! ## What a pass reads -/

/-- What a pass reads of a loop is the same in two states that agree in its record but for Σ, n, class and
on-time, in its channel's condition, and in the rooms. -/
theorem takesPart_congr {s t : State} {i : LoopIx} (cfg : (t.loops.get i).cfg = (s.loops.get i).cfg)
    (condition : (t.channels.get i).condition = (s.channels.get i).condition) :
    takesPart t i = takesPart s i := by
  simp [takesPart, cfg, condition]

theorem loopDemand_congr {s t : State} {i : LoopIx} (cfg : (t.loops.get i).cfg = (s.loops.get i).cfg)
    (rooms : t.rooms = s.rooms) : loopDemand t i = loopDemand s i := by
  simp [loopDemand, cfg, rooms]

/-- What a pass without a K update holds of a loop (R102 to R104). -/
def unlearned (s : State) (i : LoopIx) : Held where
  part := takesPart s i
  demand := loopDemand s i
  k := (s.loops.get i).k
  step := 0

theorem hold_of_ne_full {v : Variant} (h : v ≠ .full) (s : State) (i : LoopIx) :
    hold v s i = unlearned s i := by
  simp [hold, h, unlearned]

theorem unlearned_congr {s t : State} {i : LoopIx} (cfg : (t.loops.get i).cfg = (s.loops.get i).cfg)
    (k : (t.loops.get i).k = (s.loops.get i).k)
    (condition : (t.channels.get i).condition = (s.channels.get i).condition)
    (rooms : t.rooms = s.rooms) : unlearned t i = unlearned s i := by
  simp [unlearned, takesPart_congr cfg condition, loopDemand_congr cfg rooms, k]

@[simp] theorem clearStarts_condition (s : State) (i : LoopIx) :
    ((clearStarts s).channels.get i).condition = (s.channels.get i).condition := by simp

@[simp] theorem releaseWhere_condition (sel : LoopIx → Bool) (s : State) (i : LoopIx) :
    ((releaseWhere sel s).channels.get i).condition = (s.channels.get i).condition := by
  rw [releaseWhere_channels]
  split <;> simp

@[simp] theorem closeOut_condition (s : State) (i : LoopIx) :
    ((closeOut s).channels.get i).condition = (s.channels.get i).condition := by
  simp only [closeOut, releaseWhere_condition, clearStarts_channels, updateRecords_channels]

/-! ## Boundaries -/

/-- The variant of a forced boundary into a mode (R65, R79). -/
def forcedVariant (m : Mode) : Variant := if m = .flush then .flush else .forced

theorem forcedVariant_ne_full (m : Mode) : forcedVariant m ≠ .full := by
  unfold forcedVariant
  split <;> simp

/-- A forced boundary before its pass: the old period closed out, and summarised as shortened unless it comes
from STOPPED, the new mode set (R72, R77). -/
def forcedClose (m : Mode) (s : State) : State :=
  setMode m (if s.period.mode = .stopped then closeOut s else recordSummary true (closeOut s))

theorem forcedBoundary_eq (m : Mode) (s : State) :
    forcedBoundary m s = planPeriod (forcedVariant m) (forcedClose m s) := rfl

@[simp] theorem forcedClose_loops (m : Mode) (s : State) : (forcedClose m s).loops = s.loops := by
  unfold forcedClose
  split <;> simp

@[simp] theorem forcedClose_rooms (m : Mode) (s : State) : (forcedClose m s).rooms = s.rooms := by
  unfold forcedClose
  split <;> simp

@[simp] theorem forcedClose_params (m : Mode) (s : State) : (forcedClose m s).params = s.params := by
  unfold forcedClose
  split <;> simp

@[simp] theorem forcedClose_channels (m : Mode) (s : State) :
    (forcedClose m s).channels = (closeOut s).channels := by
  unfold forcedClose
  split <;> simp

/-- A loop record after a forced boundary (R77, R102, R103): K stays, and every class is the variant's. -/
theorem forcedBoundary_loops (m : Mode) (s : State) (i : LoopIx) :
    (forcedBoundary m s).loops.get i =
      { (s.loops.get i).withPass (forcedVariant m) s.params.timing (unlearned s i) with
        sigma := 0, n := 0 } := by
  rw [forcedBoundary_eq, planPeriod_loops, hold_of_ne_full (forcedVariant_ne_full m),
    unlearned_congr (s := s) (by simp) (by simp) (by simp) (by simp)]
  simp

/-! ## Configuration and factor -/

/-- No loop's configuration or factor differs. -/
def SameFactors (s t : State) : Prop :=
  ∀ i, (t.loops.get i).cfg = (s.loops.get i).cfg ∧ (t.loops.get i).k = (s.loops.get i).k

namespace SameFactors

theorem of_loops {s t : State} (h : t.loops = s.loops) : SameFactors s t := fun i => by simp [h]

theorem trans {s t u : State} (a : SameFactors s t) (b : SameFactors t u) : SameFactors s u :=
  fun i => ⟨(b i).1.trans (a i).1, (b i).2.trans (a i).2⟩

theorem demandDrop (rooms : RoomIx → Bool) (s : State) : SameFactors s (demandDrop rooms s) := by
  intro i
  rw [demandDrop_loops]
  split <;> simp

theorem reportDrops (rooms : RoomIx → Bool) (s : State) : SameFactors s (reportDrops rooms s) := by
  have drop := (of_loops (holdDrops_loops (fun r => rooms r && dropWaits s r) s)).trans
    (demandDrop (fun r => rooms r && !dropWaits s r) _)
  unfold Machine.reportDrops
  dsimp only
  split
  · exact drop.trans (of_loops rfl)
  · exact drop

theorem accumulate (s : State) : SameFactors s (accumulate s) := by
  intro i
  rw [accumulate_loops]
  split <;> simp

theorem plainTick (s : State) : SameFactors s (plainTick s) := by
  intro i
  rw [plainTick_loops]
  exact accumulate s i

/-- A pass without a K update. -/
theorem planPeriod {v : Variant} (h : v ≠ .full) (s : State) : SameFactors s (planPeriod v s) := by
  intro i
  rw [planPeriod_loops]
  exact ⟨rfl, hold_k h s i⟩

theorem forcedBoundary (m : Mode) (s : State) : SameFactors s (forcedBoundary m s) :=
  (of_loops (forcedClose_loops m s)).trans (planPeriod (forcedVariant_ne_full m) _)

theorem tick (s : State) : SameFactors s (tick s) := by
  unfold Machine.tick
  dsimp only
  split
  · split
    · have forced := ((accumulate s).trans (of_loops (stopFlush_loops _))).trans (forcedBoundary .running _)
      split
      · exact forced.trans (of_loops (detectOverheat_loops _))
      · exact forced
    · split
      · exact plainTick s
      · exact ((plainTick s).trans (of_loops (stopFlush_loops _))).trans (forcedBoundary .running _)
  · exact plainTick s

theorem takeTicks (n : Nat) (s : State) : SameFactors s (takeTicks n s) := by
  induction n generalizing s with
  | zero => exact of_loops rfl
  | succ n ih =>
    unfold Machine.takeTicks
    split
    · exact (tick s).trans (ih _)
    · exact of_loops rfl

theorem stopManifold (s : State) : SameFactors s (stopManifold s) := by
  intro i
  unfold Machine.stopManifold
  dsimp only
  split <;> simp

end SameFactors

end Sys2Proof.Machine

/-! Every step keeps the tables sound: factors (R92), rooms (R42), the supply request (R132) and the image of
a save in progress (R172). -/

namespace Sys2Proof.Machine

/-! ## Tables that pass the structural test -/

/-- Tables as a load or the factory gives them: admissible, and clamped (R169). -/
def Tables.Sound (T : Tables) : Prop := ∃ U : Tables, U.admissible = true ∧ T = U.clamped

theorem Tables.factory_sound : Tables.factory.Sound := ⟨Tables.factory, by decide +kernel, by decide +kernel⟩

theorem Image.load_sound {x : Image} {T : Tables} (h : x.load = some T) : T.Sound := by
  unfold Image.load at h
  split at h
  · contradiction
  split at h
  swap
  · contradiction
  unfold ImageBody.tables at h
  simp only [Option.bind_eq_bind, Option.bind_eq_some_iff] at h
  obtain ⟨_, _, _, _, _, _, _, _, h⟩ := h
  split at h
  · next admissible => exact ⟨_, admissible, (Option.some.inj h).symm⟩
  · contradiction

/-- A loop's factor and bounds in range (R92). -/
def LoopConfig.Bounds (c : LoopConfig) (k : Nat) : Prop :=
  128 ≤ c.kmin ∧ c.kmin ≤ k ∧ k ≤ c.kmax ∧ c.kmax ≤ 4096

theorem factorsBounded_iff (s : State) :
    FactorsBounded s ↔ ∀ i, (s.loops.get i).cfg.Bounds (s.loops.get i).k := Iff.rfl

/-- A clamped configuration bounds any factor once it is clamped too (R3, R92). -/
theorem LoopConfig.clamped_bounds {c : LoopConfig} (h : c.clamped.kmin ≤ c.clamped.kmax) (k : Nat) :
    c.clamped.Bounds (c.clamped.bound k) := by
  simp only [LoopConfig.clamped, clampNat] at h
  simp only [Bounds, bound, LoopConfig.clamped, clampNat]
  omega

theorem LoopConfig.admissible_iff (inUse : RoomIx → Bool) (c : LoopConfig) :
    c.admissible inUse = true ↔
      (∀ r, c.room = some r → inUse r = true) ∧ c.clamped.kmin ≤ c.clamped.kmax := by
  unfold LoopConfig.admissible
  rw [Bool.and_eq_true, Option.all_eq_true_iff_get, decide_eq_true_iff]
  constructor
  · rintro ⟨room, bounds⟩
    exact ⟨fun r e => by simpa [e] using room (by simp [e]), bounds⟩
  · rintro ⟨room, bounds⟩
    exact ⟨fun some => room _ (Option.some_get some).symm, bounds⟩

@[simp] theorem LoopConfig.clamped_room (c : LoopConfig) : c.clamped.room = c.room := rfl
@[simp] theorem LoopConfig.clamped_enabled (c : LoopConfig) : c.clamped.enabled = c.enabled := rfl
@[simp] theorem RoomConfig.clamped_address (c : RoomConfig) : c.clamped.address = c.address := rfl

@[simp] theorem RoomConfig.clamped_inUse (c : RoomConfig) : c.clamped.inUse = c.inUse := rfl

theorem Tables.admissible_iff (T : Tables) :
    T.admissible = true ↔ addressesSound T.rooms = true
      ∧ (∀ i, (T.loops.get i).1.admissible (fun r => (T.rooms.get r).inUse) = true)
      ∧ T.params.g1.clamped.supplyBase ≤ T.params.g1.clamped.supplyMax := by
  simp [Tables.admissible, Group1.admissible, and_assoc]

theorem addressesSound_iff (b : Bank RoomConfig 12) :
    addressesSound b = true ↔ (∀ r, validAddress (b.get r).address = true)
      ∧ ∀ r q, r ≠ q → (b.get r).address ≠ 0 → (b.get r).address ≠ (b.get q).address := by
  simp only [addressesSound, List.all_eq_true, Bool.and_eq_true, mem_allRooms, true_implies,
    Bool.or_eq_true, decide_eq_true_iff, ← forall_and]
  refine forall_congr' fun r => and_congr_right fun _ => forall_congr' fun q => ?_
  constructor
  · rintro ((h | h) | h) ne used
    · exact absurd h.symm ne
    · exact absurd h used
    · exact Ne.symm h
  · intro h
    by_cases e : q = r
    · exact .inl (.inl e)
    by_cases z : (b.get r).address = 0
    · exact .inl (.inr z)
    · exact .inr (Ne.symm (h (Ne.symm e) z))

namespace Tables.Sound

variable {T : Tables}

theorem bounds (h : T.Sound) (i : LoopIx) : (T.loops.get i).1.Bounds (T.loops.get i).2 := by
  obtain ⟨U, sound, rfl⟩ := h
  obtain ⟨-, loops, -⟩ := U.admissible_iff.mp sound
  simp only [Tables.clamped, Bank.get_imap]
  exact LoopConfig.clamped_bounds ((LoopConfig.admissible_iff _ _).mp (loops i)).2 _

theorem addresses (h : T.Sound) : addressesSound T.rooms = true := by
  obtain ⟨U, sound, rfl⟩ := h
  obtain ⟨rooms, -, -⟩ := U.admissible_iff.mp sound
  rw [addressesSound_iff] at rooms ⊢
  simpa [Tables.clamped] using rooms

theorem roomInUse (h : T.Sound) {i : LoopIx} {r : RoomIx} (named : (T.loops.get i).1.room = some r) :
    (T.rooms.get r).inUse = true := by
  obtain ⟨U, sound, rfl⟩ := h
  obtain ⟨-, loops, -⟩ := U.admissible_iff.mp sound
  simp only [Tables.clamped, Bank.get_imap, LoopConfig.clamped_room] at named ⊢
  exact ((LoopConfig.admissible_iff _ _).mp (loops i)).1 r named

theorem base_le_max (h : T.Sound) : T.params.g1.supplyBase ≤ T.params.g1.supplyMax := by
  obtain ⟨U, sound, rfl⟩ := h
  exact (U.admissible_iff.mp sound).2.2

end Tables.Sound

/-! ## Where the tables of a reset come from -/

theorem installTables_loops (T : Tables) (s : State) (i : LoopIx) :
    (installTables T s).loops.get i =
      { s.loops.get i with cfg := (T.loops.get i).1, k := (T.loops.get i).2 } := by
  simp [installTables]

theorem installTables_rooms (T : Tables) (s : State) (r : RoomIx) :
    (installTables T s).rooms.get r = { s.rooms.get r with cfg := T.rooms.get r } := by
  simp [installTables]

theorem installTables_probes (T : Tables) (s : State) (q : ProbeIx) :
    (installTables T s).probes.get q = { s.probes.get q with cfg := T.probes.get q } := by
  simp [installTables]

@[simp] theorem installTables_params (T : Tables) (s : State) : (installTables T s).params = T.params := by
  simp [installTables]

/-- The tables that a load installs (R169). -/
def loadedTables (s : State) : Tables := s.store.image.load.getD Tables.factory

theorem loadedTables_sound (s : State) : (loadedTables s).Sound := by
  unfold loadedTables
  cases h : s.store.image.load with
  | none => exact Tables.factory_sound
  | some T => exact Image.load_sound h

/-- A load installs its tables, and says in the store whether it failed (R169). -/
theorem loadImage_eq (s : State) :
    loadImage s = (installTables (loadedTables s) s).setStore
      { s.store with defaulted := s.store.image.load.isNone } := by
  unfold loadImage loadedTables
  cases s.store.image.load <;> rfl

/-- The state holds these tables. -/
structure Holds (T : Tables) (s : State) : Prop where
  loop : ∀ i, ((s.loops.get i).cfg, (s.loops.get i).k) = T.loops.get i
  room : ∀ r, (s.rooms.get r).cfg = T.rooms.get r
  probe : ∀ q, (s.probes.get q).cfg = T.probes.get q
  params : s.params = T.params

theorem installTables_holds (T : Tables) (s : State) : Holds T (installTables T s) where
  loop i := by rw [installTables_loops]
  room r := by rw [installTables_rooms]
  probe q := by rw [installTables_probes]
  params := installTables_params T s

theorem tablesOf_holds (s : State) : Holds (tablesOf s) s where
  loop i := by simp [tablesOf]
  room r := by simp [tablesOf]
  probe q := by simp [tablesOf]
  params := rfl

theorem loadImage_holds (s : State) : Holds (loadedTables s) (loadImage s) := by
  rw [loadImage_eq]
  obtain ⟨loop, room, probe, params⟩ := installTables_holds (loadedTables s) s
  exact ⟨loop, room, probe, params⟩

/-- The tables that a restart scope leaves installed (R174). -/
def scopeTables (s : State) : Scope → Tables
  | .runtime => tablesOf s
  | .reload => loadedTables s
  | .factory => Tables.factory

theorem restartTables_holds (scope : Scope) (s : State) :
    Holds (scopeTables s scope) (restartTables scope s) := by
  cases scope with
  | runtime => exact tablesOf_holds s
  | reload => exact loadImage_holds s
  | factory => exact installTables_holds _ s

namespace Holds

variable {T : Tables} {s t : State}

theorem congr (h : Holds T s) (factors : SameFactors s t) (rooms : ∀ r, (t.rooms.get r).cfg = (s.rooms.get r).cfg)
    (probes : ∀ q, (t.probes.get q).cfg = (s.probes.get q).cfg) (params : t.params = s.params) :
    Holds T t where
  loop i := by rw [(factors i).1, (factors i).2, h.loop]
  room r := (rooms r).trans (h.room r)
  probe q := (probes q).trans (h.probe q)
  params := params.trans h.params

theorem resetBlocks (h : Holds T s) : Holds T (resetBlocks s) := by
  apply h.congr
  · intro i
    simp [Machine.resetBlocks, Loop.restarted]
  · intro r
    simp [Machine.resetBlocks, Room.initial]
  · intro q
    simp [Machine.resetBlocks, Probe.initial]
  · simp [Machine.resetBlocks]

theorem autorun (h : Holds T s) : Holds T (autorun s) := by
  unfold Machine.autorun
  split
  · exact h.congr (.forcedBoundary _ _) (by simp) (by simp) (by simp)
  · exact h

theorem bounds (h : Holds T s) (bounds : ∀ i, (T.loops.get i).1.Bounds (T.loops.get i).2) :
    FactorsBounded s := by
  rw [factorsBounded_iff]
  intro i
  have := bounds i
  rwa [← h.loop i] at this

/-- The rooms of sound tables are sound where the tables are held (R42). -/
theorem roomsSound (h : Holds T s) (addresses : addressesSound T.rooms = true)
    (inUse : ∀ i r, (T.loops.get i).1.room = some r → (T.rooms.get r).inUse = true) : RoomsSound s := by
  obtain ⟨valid, distinct⟩ := (addressesSound_iff _).mp addresses
  refine ⟨fun r => ?_, fun r q => ?_, fun i r named => ?_⟩
  · rw [h.room]
    exact valid r
  · rw [h.room, h.room]
    exact distinct r q
  · rw [h.room]
    exact inUse i r (by rwa [← h.loop i])

end Holds

/-- A power-on leaves the tables of the image installed, or the factory values (R169, R174). -/
theorem powerUp_holds (straps : BitVec 2) (s : State) : Holds (loadedTables s) (powerUp straps s) := by
  have loaded : Holds (loadedTables s) (resetBlocks (loadImage (cutSave s))) :=
    (loadImage_holds (cutSave s)).resetBlocks
  exact (loaded.congr (.of_loops (by simp)) (by simp) (by simp) (by simp)).autorun

/-- A restart leaves the tables of its scope installed (R174). -/
theorem restart_holds (scope : Scope) (s : State) : Holds (scopeTables s scope) (restart scope s) := by
  have installed := (restartTables_holds scope s).resetBlocks
  exact (installed.congr (.of_loops (by simp)) (by simp) (by simp) (by simp)).autorun

end Sys2Proof.Machine

/-! Every step keeps every factor within its loop's bounds (R92). -/

namespace Sys2Proof.Machine

namespace SameFactors

theorem regularAges (s : State) : SameFactors s (expireAges s) := reportDrops _ _

theorem setRun (s : State) : SameFactors s (setRun s).2 := by
  unfold Machine.setRun
  split
  · split
    · exact (of_loops (endTest_loops s)).trans (forcedBoundary _ _)
    · exact of_loops rfl
  · exact of_loops rfl
  · split
    · exact (of_loops (stopFlush_loops s)).trans (forcedBoundary _ _)
    · exact of_loops rfl
  · exact of_loops rfl

theorem setFlush (s : State) : SameFactors s (setFlush s).2 := by
  unfold Machine.setFlush
  split
  · exact ((of_loops (endTest_loops s)).trans (forcedBoundary .flush _)).trans (of_loops (startFlush_loops _))
  · exact (forcedBoundary .flush s).trans (of_loops (startFlush_loops _))
  · exact of_loops (startFlush_loops s)
  · exact of_loops rfl

theorem disableLoop (i : LoopIx) (s : State) : SameFactors s (disableLoop i s) := by
  intro j
  unfold Machine.disableLoop
  dsimp only
  rw [closeLoops_loops]
  split <;> split <;> simp

theorem closePeriod (s : State) : SameFactors s (closePeriod s) := of_loops (closePeriod_loops s)

end SameFactors

theorem LoopConfig.Bounds.newFactor {c : LoopConfig} {k : Nat} (h : c.Bounds k) (step : Int) :
    c.Bounds (newFactor c k step) := by
  unfold LoopConfig.Bounds Machine.newFactor clampInt at *
  omega

namespace FactorsBounded

variable {s t : State}

theorem congr (h : FactorsBounded s) (same : SameFactors s t) : FactorsBounded t := by
  intro i
  obtain ⟨cfg, k⟩ := same i
  rw [cfg, k]
  exact h i

/-- A pass keeps every factor within its bounds, and the full one clamps it to them (R92). -/
theorem planPeriod (h : FactorsBounded s) (v : Variant) : FactorsBounded (planPeriod v s) := by
  rw [factorsBounded_iff]
  intro i
  rw [planPeriod_loops]
  show (s.loops.get i).cfg.Bounds (hold v s i).k
  unfold hold factorOf
  dsimp only
  split
  · dsimp only
    split
    · exact LoopConfig.Bounds.newFactor (h i) _
    · exact h i
  · exact h i

theorem boundaryAfterTick (h : FactorsBounded s) (ending : Bool) :
    FactorsBounded (boundaryAfterTick ending s) := by
  have closed : FactorsBounded (closePeriod s) := h.congr (.closePeriod s)
  unfold Machine.boundaryAfterTick
  split
  · split
    · have full : FactorsBounded (Machine.planPeriod .full (setMode .running (endLockout (Machine.closePeriod s)))) :=
        (closed.congr (.of_loops (by simp))).planPeriod .full
      exact full.congr (.of_loops (by simp))
    · exact closed.planPeriod _
  · split
    · exact (closed.congr (.of_loops (by simp))).planPeriod _
    · exact closed.planPeriod _
  · exact (closed.planPeriod .full).congr (.of_loops (by simp))
  · exact (closed.planPeriod .full).congr (.of_loops (by simp))

theorem regularBoundary (h : FactorsBounded s) : FactorsBounded (regularBoundary s) := by
  have ticked := h.congr (.takeTicks (ticksOwed s) s)
  unfold Machine.regularBoundary
  dsimp only
  split
  · have aged := (ticked.congr (.regularAges _)).congr (.plainTick _)
    exact (aged.boundaryAfterTick _).congr (.demandDrop _ _)
  · exact ticked

theorem writeLoop (h : FactorsBounded s) (i : LoopIx) {c : LoopConfig} (unity : Bool)
    (bounds : c.clamped.kmin ≤ c.clamped.kmax) : FactorsBounded (writeLoopRecord i c.clamped unity s) := by
  have written : FactorsBounded (s.setLoops (s.loops.set i { s.loops.get i with
      cfg := c.clamped, k := c.clamped.bound (if unity then 1024 else (s.loops.get i).k) })) := by
    rw [factorsBounded_iff]
    intro j
    rw [State.setLoops_loops, Bank.get_set]
    split
    · exact LoopConfig.clamped_bounds bounds _
    · exact h j
  unfold writeLoopRecord
  dsimp only
  split
  · exact written.congr (.disableLoop i _)
  · exact written

/-- A seeded factor is clamped to its loop's bounds (R106). -/
theorem seed (h : FactorsBounded s) : FactorsBounded (s.setLoops (seededLoops s)) := by
  rw [factorsBounded_iff]
  intro i
  rw [State.setLoops_loops, seededLoops, Bank.get_imap]
  have bounds := h i
  show (s.loops.get i).cfg.Bounds (seededFactor _ _ (s.loops.get i))
  unfold seededFactor
  split
  · exact bounds
  · simp only [LoopConfig.Bounds, LoopConfig.bound, clampNat]
    omega

end FactorsBounded

/-- The change leaves the tables, the loop records, the store and the supply bias alone: it is one of the
channels, the starts and the pump request. -/
structure TablesKept (s t : State) : Prop where
  params : t.params = s.params
  loops : t.loops = s.loops
  rooms : t.rooms = s.rooms
  store : t.store = s.store
  bias : t.supply.bias = s.supply.bias

namespace TablesKept

@[simp] theorem pumpMove_bias (before after hold : Nat) (p : Supply) :
    (pumpMove before after hold p).bias = p.bias := by
  unfold pumpMove
  split
  · rfl
  split
  · rfl
  split
  · split
    · split <;> rfl
    · rfl
    · rfl
  · rfl

theorem putChannels (cs : Bank Channel 16) (s : State) : TablesKept s (putChannels cs s) :=
  ⟨by simp, by simp, by simp, by simp, by simp [Machine.putChannels]⟩

theorem opportunity (s : State) : TablesKept s (opportunity s) := by constructor <;> simp

theorem queueTest (i : LoopIx) (d : Nat) (s : State) : TablesKept s (queueTest i d s) := by
  constructor <;> simp [Machine.queueTest, setQueue]

theorem joinFirst (s : State) : TablesKept s (joinFirst s) := by
  unfold Machine.joinFirst
  split <;> constructor <;> simp

theorem releaseOne (i : LoopIx) (s : State) : TablesKept s (releaseOne i s) := by
  constructor <;> simp [Machine.releaseOne]

theorem faultChannel (i : LoopIx) (c : Condition) (s : State) : TablesKept s (faultChannel i c s) := by
  constructor <;> simp [Machine.faultChannel, dropLoops]

theorem checkLoad (i : LoopIx) (load : Bool) (s : State) : TablesKept s (checkLoad i load s) := by
  unfold Machine.checkLoad
  dsimp only
  split
  · constructor <;> rfl
  · exact faultChannel i _ s

theorem tripChannel (i : LoopIx) (s : State) : TablesKept s (tripChannel i s) := by
  unfold Machine.tripChannel
  split
  · exact faultChannel i _ s
  · constructor <;> rfl

theorem finishTest (s : State) : TablesKept s (finishTest s) := by
  unfold Machine.finishTest
  split <;> constructor <;> simp [Machine.releaseOne]

theorem finishHold (s : State) : TablesKept s (finishHold s) := by constructor <;> rfl

theorem clear (sel : LoopIx → Bool) (s : State) :
    TablesKept s (s.setChannels (s.channels.imap fun i c => if sel i then c.cleared else c)) := by
  constructor <;> rfl

theorem markFlushDue (s : State) : TablesKept s (markFlushDue s) := by constructor <;> rfl

end TablesKept

theorem factorsBounded_stepInvariant : StepInvariant FactorsBounded where
  congr same h := h.congr (.of_loops same.loops)
  elapseMs n h := h.congr (.of_loops (elapseMs_loops n _))
  reportDrops rooms h := h.congr (.reportDrops rooms _)
  writeLoop i c unity sound h := h.writeLoop i unity ((LoopConfig.admissible_iff _ _).mp sound).2
  writeRoom r c _ h := by
    refine FactorsBounded.congr h (SameFactors.trans (.of_loops ?_) (.reportDrops _ _))
    rw [State.setRooms_loops]
    split <;> simp
  writeGroup1 p h := h.congr (.of_loops (by unfold writeGroup1; dsimp only; split <;> (try split) <;> rfl))
  seed h := h.seed
  stop h := h.congr (.stopManifold _)
  run h := h.congr (.setRun _)
  flush h := h.congr (.setFlush _)
  clear sel h := h.congr (.of_loops (TablesKept.clear sel _).loops)
  queueTest i d _ _ h := h.congr (.of_loops (TablesKept.queueTest i d _).loops)
  beginSave _ h := h.congr (.of_loops (beginSave_loops _))
  restart {s} scope _ h := by
    refine (restart_holds scope s).bounds fun i => ?_
    cases scope with
    | runtime => simpa [scopeTables, tablesOf, LoopConfig.Bounds] using h i
    | reload => exact (loadedTables_sound s).bounds i
    | factory => exact Tables.factory_sound.bounds i
  tick _ h := h.congr (.tick _)
  regularBoundary _ h := h.regularBoundary
  markFlushDue _ h := h.congr (.of_loops (TablesKept.markFlushDue _).loops)
  joinFirst _ h := h.congr (.of_loops (TablesKept.joinFirst _).loops)
  opportunity h := h.congr (.of_loops (TablesKept.opportunity _).loops)
  releaseOne i h := h.congr (.of_loops (TablesKept.releaseOne i _).loops)
  checkLoad i load _ h := h.congr (.of_loops (TablesKept.checkLoad i load _).loops)
  tripChannel i h := h.congr (.of_loops (TablesKept.tripChannel i _).loops)
  finishOpening i _ h := h.congr (.of_loops (TablesKept.putChannels _ _).loops)
  finishClosing i _ h := h.congr (.of_loops (TablesKept.putChannels _ _).loops)
  finishTest _ h := h.congr (.of_loops (TablesKept.finishTest _).loops)
  finishHold _ h := h.congr (.of_loops (TablesKept.finishHold _).loops)
  completeSave h := h.congr (.of_loops (by simp))
  powerUp straps _ := (powerUp_holds straps _).bounds (loadedTables_sound _).bounds
  losePower _ := by
    rw [factorsBounded_iff]
    intro i
    simp [losePower, State.reset, Loop.factory, LoopConfig.Bounds]

end Sys2Proof.Machine

/-! Every step keeps the rooms sound (R42) and the supply request bounded (R132). -/

namespace Sys2Proof.Machine

/-! ## Configurations through a boundary -/

/-- No loop's configuration differs. -/
def SameConfigs (s t : State) : Prop := ∀ i, (t.loops.get i).cfg = (s.loops.get i).cfg

theorem SameFactors.configs {s t : State} (h : SameFactors s t) : SameConfigs s t := fun i => (h i).1

namespace SameConfigs

theorem of_loops {s t : State} (h : t.loops = s.loops) : SameConfigs s t := fun i => by rw [h]

theorem trans {s t u : State} (a : SameConfigs s t) (b : SameConfigs t u) : SameConfigs s u :=
  fun i => (b i).trans (a i)

theorem planPeriod (v : Variant) (s : State) : SameConfigs s (planPeriod v s) := by
  intro i
  rw [planPeriod_loops]
  rfl

theorem boundaryAfterTick (ending : Bool) (s : State) : SameConfigs s (boundaryAfterTick ending s) := by
  have closed : SameConfigs s (closePeriod s) := .of_loops (closePeriod_loops s)
  unfold Machine.boundaryAfterTick
  split
  · split
    · have opened : SameConfigs s (setMode .running (endLockout (closePeriod s))) :=
        closed.trans (.of_loops (by simp))
      exact (opened.trans (.planPeriod .full _)).trans (.of_loops (passReport_loops _))
    · exact closed.trans (.planPeriod _ _)
  · split
    · have opened : SameConfigs s (setMode .running (stopFlush (closePeriod s))) :=
        closed.trans (.of_loops (by simp))
      exact opened.trans (.planPeriod _ _)
    · exact closed.trans (.planPeriod _ _)
  · exact (closed.trans (.planPeriod .full _)).trans (.of_loops (passReport_loops _))
  · exact (closed.trans (.planPeriod .full _)).trans (.of_loops (passReport_loops _))

theorem regularBoundary (s : State) : SameConfigs s (regularBoundary s) := by
  have ticked := (SameFactors.takeTicks (ticksOwed s) s).configs
  unfold Machine.regularBoundary
  dsimp only
  split
  · have aged := (ticked.trans (SameFactors.regularAges _).configs).trans (SameFactors.plainTick _).configs
    exact (aged.trans (.boundaryAfterTick _ _)).trans (SameFactors.demandDrop _ _).configs
  · exact ticked

end SameConfigs

/-! ## Rooms -/

theorem changeRooms_rooms (f : RoomIx → Room → Room) (s : State) :
    (changeRooms f s).rooms = s.rooms.imap f := by
  simp [changeRooms]

theorem expireAges_rooms (s : State) :
    (expireAges s).rooms = s.rooms.imap fun _ => Room.aged s.params.g2.holdTime := changeRooms_rooms _ s

theorem regularBoundary_roomConfigs (s : State) (r : RoomIx) :
    ((regularBoundary s).rooms.get r).cfg = (s.rooms.get r).cfg := by
  unfold regularBoundary boundaryWithDrops
  dsimp only
  split
  · simp [expireAges_rooms]
  · simp

namespace RoomsSound

variable {s t : State}

theorem congr (h : RoomsSound s) (loops : SameConfigs s t)
    (rooms : ∀ r, (t.rooms.get r).cfg = (s.rooms.get r).cfg) : RoomsSound t := by
  obtain ⟨valid, distinct, inUse⟩ := h
  refine ⟨fun r => ?_, fun r q => ?_, fun i r => ?_⟩
  · rw [rooms]
    exact valid r
  · rw [rooms, rooms]
    exact distinct r q
  · rw [loops, rooms]
    exact inUse i r

theorem of_kept (h : RoomsSound s) (kept : TablesKept s t) : RoomsSound t :=
  h.congr (.of_loops kept.loops) fun r => by rw [kept.rooms]

theorem writeLoop (h : RoomsSound s) (i : LoopIx) {c : LoopConfig} (unity : Bool)
    (inUse : ∀ r, c.room = some r → (s.rooms.get r).cfg.inUse = true) :
    RoomsSound (writeLoopRecord i c.clamped unity s) := by
  have written : RoomsSound (s.setLoops (s.loops.set i { s.loops.get i with
      cfg := c.clamped, k := c.clamped.bound (if unity then 1024 else (s.loops.get i).k) })) := by
    obtain ⟨valid, distinct, named⟩ := h
    refine ⟨valid, distinct, fun j r => ?_⟩
    rw [State.setLoops_loops, Bank.get_set]
    split
    · exact inUse r
    · exact named j r
  unfold writeLoopRecord
  dsimp only
  split
  · exact written.congr (SameFactors.disableLoop i _).configs (by simp)
  · exact written

theorem roomAdmissible_iff {r : RoomIx} {c : RoomConfig} {s : State} : roomAdmissible r c s = true ↔
    validAddress c.address = true
      ∧ (c.address ≠ 0 → ∀ q, q ≠ r → (s.rooms.get q).cfg.address ≠ c.address)
      ∧ (c.address = 0 → ∀ i, (s.loops.get i).cfg.room ≠ some r) := by
  simp only [roomAdmissible, loopOfRoom, Bool.and_eq_true, Bool.or_eq_true, decide_eq_true_iff,
    List.all_eq_true, mem_allRooms, mem_allLoops, true_implies, Bool.not_eq_true', decide_eq_false_iff_not,
    and_assoc]
  refine and_congr_right fun _ => and_congr ?_ ?_
  · by_cases z : c.address = 0 <;> simp [z, Classical.or_iff_not_imp_left]
  · by_cases z : c.address = 0#7 <;> simp [z]

@[simp] theorem writtenRoom_cfg (c : RoomConfig) (v : Room) : (writtenRoom c v).cfg = c := by
  unfold writtenRoom
  split <;> rfl

theorem writeRoom_rooms (r : RoomIx) (c : RoomConfig) (s : State) :
    (writeRoomRecord r c s).rooms = s.rooms.set r (writtenRoom c (s.rooms.get r)) := by
  unfold writeRoomRecord changeRoom
  rw [changeRooms_rooms]
  apply Bank.ext_get
  intro q
  rw [Bank.get_imap, Bank.get_set]
  split
  · next e => subst e; split <;> simp
  · split <;> simp

theorem writeRoom (h : RoomsSound s) (r : RoomIx) {c : RoomConfig} (sound : roomAdmissible r c s = true) :
    RoomsSound (writeRoomRecord r c.clamped s) := by
  obtain ⟨valid, distinct, named⟩ := h
  obtain ⟨validNew, free, unnamed⟩ := roomAdmissible_iff.mp sound
  have loops : SameConfigs s (writeRoomRecord r c.clamped s) := by
    refine SameConfigs.trans (.of_loops ?_) (SameFactors.reportDrops _ _).configs
    rw [State.setRooms_loops]
    split <;> simp
  have cfg (q : RoomIx) : ((writeRoomRecord r c.clamped s).rooms.get q).cfg
      = if q = r then c.clamped else (s.rooms.get q).cfg := by
    rw [writeRoom_rooms, Bank.get_set]
    split <;> simp
  refine ⟨fun q => ?_, fun p q ne => ?_, fun i q => ?_⟩
  · rw [cfg]
    split
    · exact validNew
    · exact valid q
  · rw [cfg, cfg]
    split
    · next e =>
      subst e
      rw [if_neg (Ne.symm ne)]
      exact fun used => (free used q (Ne.symm ne)).symm
    · split
      · next e => exact fun used same => free (same ▸ used) p (e ▸ ne) same
      · exact distinct p q ne
  · rw [loops, cfg]
    intro room
    split
    · next e =>
      subst e
      have used : c.address ≠ 0 := fun z => unnamed z i room
      exact decide_eq_true used
    · exact named i q room

end RoomsSound

theorem roomsSound_stepInvariant : StepInvariant RoomsSound where
  congr same h := h.congr (.of_loops same.loops) same.rooms
  elapseMs n h := h.congr (.of_loops (elapseMs_loops n _)) fun r => by
    simp only [elapseMs, elapseSeconds, State.setHouse_rooms, State.setMsPhase_rooms, State.setStore_rooms,
      State.setSupply_rooms, State.setArb_rooms, State.setSeg_rooms, State.setPeriod_rooms,
      State.setTest_rooms, State.setRooms_rooms, Bank.get_imap, Room.elapse]
    split <;> rfl
  reportDrops rooms h := h.congr (SameFactors.reportDrops rooms _).configs (by simp)
  writeLoop i c unity sound h := h.writeLoop i unity ((LoopConfig.admissible_iff _ _).mp sound).1
  writeRoom r c sound h := h.writeRoom r sound
  writeGroup1 p h := h.congr
    (.of_loops (by unfold writeGroup1; dsimp only; split <;> (try split) <;> rfl))
    (fun r => by unfold writeGroup1; dsimp only; split <;> (try split) <;> rfl)
  seed h := h.congr (fun i => by simp [seededLoops]) (by simp)
  stop h := h.congr (SameFactors.stopManifold _).configs (by simp)
  run {s} h := h.congr (SameFactors.setRun _).configs
    (fun r => by unfold setRun; split <;> (try split) <;> simp)
  flush h := h.congr (SameFactors.setFlush _).configs (fun r => by unfold setFlush; split <;> simp)
  clear sel h := h.of_kept (.clear sel _)
  queueTest i d _ _ h := h.of_kept (.queueTest i d _)
  beginSave _ h := h.congr (.of_loops (beginSave_loops _)) (by simp)
  restart {s} scope _ h := by
    refine (restart_holds scope s).roomsSound ?_ fun i r => ?_
    all_goals cases scope with
      | runtime => ?_
      | reload => ?_
      | factory => ?_
    · rw [addressesSound_iff]
      simpa [scopeTables, tablesOf] using ⟨h.1, h.2.1⟩
    · exact (loadedTables_sound s).addresses
    · exact Tables.factory_sound.addresses
    · simpa [scopeTables, tablesOf] using h.2.2 i r
    · exact (loadedTables_sound s).roomInUse
    · exact Tables.factory_sound.roomInUse
  tick _ h := h.congr (SameFactors.tick _).configs (by simp)
  regularBoundary _ h := h.congr (SameConfigs.regularBoundary _) (regularBoundary_roomConfigs _)
  markFlushDue _ h := h.of_kept (.markFlushDue _)
  joinFirst _ h := h.of_kept (.joinFirst _)
  opportunity h := h.of_kept (.opportunity _)
  releaseOne i h := h.of_kept (.releaseOne i _)
  checkLoad i load _ h := h.of_kept (.checkLoad i load _)
  tripChannel i h := h.of_kept (.tripChannel i _)
  finishOpening i _ h := h.of_kept (.putChannels _ _)
  finishClosing i _ h := h.of_kept (.putChannels _ _)
  finishTest _ h := h.of_kept (.finishTest _)
  finishHold _ h := h.of_kept (.finishHold _)
  completeSave h := h.congr (.of_loops (by simp)) (by simp)
  powerUp straps _ := (powerUp_holds straps _).roomsSound (loadedTables_sound _).addresses
    fun _ _ => (loadedTables_sound _).roomInUse
  losePower _ := by
    refine ⟨fun r => ?_, fun r q _ used => ?_, fun i r named => ?_⟩
    · simp [losePower, State.reset, Room.initial, RoomConfig.factory, validAddress]
    · simp [losePower, State.reset, Room.initial, RoomConfig.factory] at used
    · simp [losePower, State.reset, Loop.factory] at named

end Sys2Proof.Machine

/-! Every step keeps the supply request bounded (R132) and the image of a save in progress failing (R172). -/

namespace Sys2Proof.Machine

/-! ## The supply request -/

theorem supplyRequestBounded_iff (s : State) :
    SupplyRequestBounded s ↔ (s.supply.bias : Int) ≤ s.params.g1.supplyMax - s.params.g1.supplyBase := by
  unfold SupplyRequestBounded supplyRequest
  omega

theorem updateBias_bounded {s : State} (h : SupplyRequestBounded s) : SupplyRequestBounded (updateBias s) := by
  rw [supplyRequestBounded_iff] at h ⊢
  simp only [updateBias, State.setSupply_supply, State.setSupply_params, biasRoom]
  split
  · omega
  · split <;> omega

@[simp] theorem endTest_supply (s : State) : (endTest s).supply = s.supply := by
  unfold endTest
  split <;> simp [setQueue]

@[simp] theorem endTestOn_supply (i : LoopIx) (s : State) : (endTestOn i s).supply = s.supply := by
  unfold endTestOn
  split
  · rfl
  all_goals split <;> simp

@[simp] theorem closeLoops_supply (sel : LoopIx → Bool) (s : State) : (closeLoops sel s).supply = s.supply := by
  simp [closeLoops, dropLoops]

@[simp] theorem disableLoop_supply (i : LoopIx) (s : State) : (disableLoop i s).supply = s.supply := by
  unfold disableLoop
  dsimp only
  split <;> simp

/-- The supply after a pass: the bias recomputed where the new mode is RUNNING, all else as it was (R131). -/
theorem planPeriod_supply (v : Variant) (s : State) :
    (planPeriod v s).supply = (stagePass v (Bank.ofFn fun i => hold v s i) s).supply := by
  simp [planPeriod, newPeriod, carryOver, openPeriod]

namespace SupplyRequestBounded

variable {s t : State}

theorem congr (h : SupplyRequestBounded s) (g1 : t.params.g1 = s.params.g1)
    (bias : t.supply.bias = s.supply.bias) : SupplyRequestBounded t := by
  rw [supplyRequestBounded_iff] at h ⊢
  rwa [g1, bias]

theorem of_kept (h : SupplyRequestBounded s) (kept : TablesKept s t) : SupplyRequestBounded t :=
  h.congr (by rw [kept.params]) kept.bias

theorem planPeriod (h : SupplyRequestBounded s) (v : Variant) : SupplyRequestBounded (planPeriod v s) := by
  have passed : SupplyRequestBounded (stagePass v (Bank.ofFn fun i => hold v s i) s) := by
    unfold stagePass
    dsimp only
    split
    · exact updateBias_bounded (h.congr (by simp) (by simp))
    · exact h.congr (by simp) (by simp)
  exact passed.congr (by simp) (by rw [planPeriod_supply])

theorem forcedBoundary (h : SupplyRequestBounded s) (m : Mode) :
    SupplyRequestBounded (forcedBoundary m s) := by
  have closed : SupplyRequestBounded (forcedClose m s) :=
    h.congr (by simp) (by unfold forcedClose; split <;> simp [closeOut])
  exact closed.planPeriod _

theorem detectOverheat (h : SupplyRequestBounded s) : SupplyRequestBounded (detectOverheat s) :=
  h.congr (by simp) (by simp [Machine.detectOverheat])

theorem plainTick (h : SupplyRequestBounded s) : SupplyRequestBounded (plainTick s) := by
  have added : SupplyRequestBounded (accumulate s) := h.congr (by simp) (by simp)
  unfold Machine.plainTick supplyCheck
  split
  · split
    · exact added.detectOverheat
    · exact added
  · split
    · exact added.detectOverheat
    · exact added
  · exact added
  · exact added

theorem tick (h : SupplyRequestBounded s) : SupplyRequestBounded (tick s) := by
  unfold Machine.tick
  dsimp only
  split
  · split
    · have forced : SupplyRequestBounded (Machine.forcedBoundary .running (stopFlush (accumulate s))) :=
        forcedBoundary (h.congr (by simp) (by simp)) _
      split
      · exact forced.detectOverheat
      · exact forced
    · split
      · exact h.plainTick
      · exact forcedBoundary (h.plainTick.congr (by simp) (by simp)) _
  · exact h.plainTick

theorem takeTicks (h : SupplyRequestBounded s) (n : Nat) : SupplyRequestBounded (takeTicks n s) := by
  induction n generalizing s with
  | zero => exact h
  | succ n ih =>
    unfold Machine.takeTicks
    split
    · exact ih h.tick
    · exact h

theorem demandDrop (h : SupplyRequestBounded s) (rooms : RoomIx → Bool) :
    SupplyRequestBounded (demandDrop rooms s) :=
  h.congr (by simp) (by unfold Machine.demandDrop; split <;> simp [closeLoops, dropLoops])

theorem reportDrops (h : SupplyRequestBounded s) (rooms : RoomIx → Bool) :
    SupplyRequestBounded (reportDrops rooms s) := by
  have dropped : SupplyRequestBounded (Machine.demandDrop (fun r => rooms r && !dropWaits s r)
      (holdDrops (fun r => rooms r && dropWaits s r) s)) :=
    demandDrop (h.congr (by simp) (by simp)) _
  unfold Machine.reportDrops
  dsimp only
  split
  · exact dropped.congr rfl rfl
  · exact dropped

theorem boundaryAfterTick (h : SupplyRequestBounded s) (ending : Bool) :
    SupplyRequestBounded (boundaryAfterTick ending s) := by
  have closed : SupplyRequestBounded (closePeriod s) := h.congr (by simp) (by simp [closePeriod, closeOut])
  unfold Machine.boundaryAfterTick
  split
  · split
    · have full : SupplyRequestBounded
          (Machine.planPeriod .full (setMode .running (endLockout (closePeriod s)))) :=
        planPeriod (closed.congr (by simp) (by simp [endLockout])) _
      exact full.congr (by simp) (by simp)
    · exact closed.planPeriod _
  · split
    · exact planPeriod (closed.congr (by simp) (by simp)) _
    · exact closed.planPeriod _
  · exact (closed.planPeriod .full).congr (by simp) (by simp)
  · exact (closed.planPeriod .full).congr (by simp) (by simp)

theorem regularBoundary (h : SupplyRequestBounded s) : SupplyRequestBounded (regularBoundary s) := by
  unfold Machine.regularBoundary
  dsimp only
  split
  · have aged : SupplyRequestBounded (expireAges (Machine.takeTicks (ticksOwed s) s)) :=
      reportDrops ((h.takeTicks (ticksOwed s)).congr (by simp) (by simp)) _
    exact demandDrop (boundaryAfterTick aged.plainTick _) _
  · exact h.takeTicks _

theorem setRun (h : SupplyRequestBounded s) : SupplyRequestBounded (setRun s).2 := by
  unfold Machine.setRun
  split
  · split
    · exact forcedBoundary (h.congr (by simp) (by simp)) _
    · exact h
  · exact h
  · split
    · exact forcedBoundary (h.congr (by simp) (by simp)) _
    · exact h
  · exact h

theorem setFlush (h : SupplyRequestBounded s) : SupplyRequestBounded (setFlush s).2 := by
  unfold Machine.setFlush
  split
  · have ended : SupplyRequestBounded (endTest s) :=
      h.congr (by simp) (by simp)
    exact (ended.forcedBoundary .flush).congr (by simp) (by simp)
  · exact (h.forcedBoundary .flush).congr (by simp) (by simp)
  · exact h.congr (by simp) (by simp)
  · exact h

theorem stopManifold (h : SupplyRequestBounded s) : SupplyRequestBounded (stopManifold s) := by
  apply h.congr
  · simp
  · unfold Machine.stopManifold
    dsimp only
    split <;> simp [endLockout]

theorem writeLoop (h : SupplyRequestBounded s) (i : LoopIx) (c : LoopConfig) (unity : Bool) :
    SupplyRequestBounded (writeLoopRecord i c unity s) := by
  apply h.congr
  · unfold writeLoopRecord
    dsimp only
    split <;> simp
  · unfold writeLoopRecord
    dsimp only
    split <;> simp

/-- A write of group 1 brings the bias to the new room for it (R132, R158). -/
theorem writeGroup1 (h : SupplyRequestBounded s) (p : List Byte) : SupplyRequestBounded (writeGroup1 p s).2 := by
  unfold Machine.writeGroup1
  dsimp only
  split
  · next admissible =>
    have order : (group1Payload p).clamped.supplyBase ≤ (group1Payload p).clamped.supplyMax :=
      of_decide_eq_true admissible
    rw [supplyRequestBounded_iff] at h ⊢
    split
    · simp only [State.setSupply_supply, State.setSupply_params, State.setParams_params,
        State.setParams_supply, biasRoom]
      omega
    · next same =>
      simp only [State.setParams_supply, State.setParams_params]
      omega
  · exact h

/-- After a reset the bias is 0 or what a boundary makes of it (R139, R132). -/
theorem autorun (h : SupplyRequestBounded s) : SupplyRequestBounded (autorun s) := by
  unfold Machine.autorun
  split
  · exact h.forcedBoundary _
  · exact h

theorem resetBlocks (order : s.params.g1.supplyBase ≤ s.params.g1.supplyMax) :
    SupplyRequestBounded (resetBlocks s) := by
  rw [supplyRequestBounded_iff]
  simp [Machine.resetBlocks]
  omega

theorem powerUp (straps : BitVec 2) (s : State) : SupplyRequestBounded (powerUp straps s) := by
  have order := (loadedTables_sound (cutSave s)).base_le_max
  rw [← (loadImage_holds (cutSave s)).params] at order
  exact autorun ((resetBlocks order).congr (by simp) (by simp))

theorem restart (h : SupplyRequestBounded s) (scope : Scope) : SupplyRequestBounded (restart scope s) := by
  have order : (restartTables scope s).params.g1.supplyBase ≤ (restartTables scope s).params.g1.supplyMax := by
    rw [(restartTables_holds scope s).params]
    cases scope with
    | runtime =>
      rw [supplyRequestBounded_iff] at h
      show s.params.g1.supplyBase ≤ s.params.g1.supplyMax
      omega
    | reload => exact (loadedTables_sound s).base_le_max
    | factory => exact Tables.factory_sound.base_le_max
  exact autorun ((resetBlocks order).congr (by simp) (by simp))

end SupplyRequestBounded

theorem supplyRequestBounded_stepInvariant : StepInvariant SupplyRequestBounded where
  congr same h := h.congr same.g1 same.bias
  elapseMs n h := h.congr (by simp) (by simp [elapseMs, elapseSeconds])
  reportDrops rooms h := h.reportDrops rooms
  writeLoop i c unity _ h := h.writeLoop i _ unity
  writeRoom r c _ h := by
    refine SupplyRequestBounded.reportDrops (SupplyRequestBounded.congr h ?_ ?_) _
    all_goals split <;> simp
  writeGroup1 p h := h.writeGroup1 p
  seed h := h.congr rfl rfl
  stop h := h.stopManifold
  run h := h.setRun
  flush h := h.setFlush
  clear sel h := h.of_kept (.clear sel _)
  queueTest i d _ _ h := h.of_kept (.queueTest i d _)
  beginSave _ h := h.congr (by simp) (by simp)
  restart scope _ h := h.restart scope
  tick _ h := h.tick
  regularBoundary _ h := h.regularBoundary
  markFlushDue _ h := h.of_kept (.markFlushDue _)
  joinFirst _ h := h.of_kept (.joinFirst _)
  opportunity h := h.of_kept (.opportunity _)
  releaseOne i h := h.of_kept (.releaseOne i _)
  checkLoad i load _ h := h.of_kept (.checkLoad i load _)
  tripChannel i h := h.of_kept (.tripChannel i _)
  finishOpening i _ h := h.of_kept (.putChannels _ _)
  finishClosing i _ h := h.of_kept (.putChannels _ _)
  finishTest _ h := h.of_kept (.finishTest _)
  finishHold _ h := h.of_kept (.finishHold _)
  completeSave h := h.congr (by simp) (by simp)
  powerUp straps _ := .powerUp straps _
  losePower _ := by
    rw [supplyRequestBounded_iff]
    simp [losePower, State.reset, Params.factory]

/-! ## The image of a save in progress -/

/-- An image whose check word is invalid loads nothing (R169, R171). -/
theorem Image.invalidated_load (b : ImageBody) (x : Image) : (x.invalidated b).load = none := by
  cases x <;> rfl

namespace SavingImageFails

variable {s t : State}

theorem congr (h : SavingImageFails s) (snapshot : t.store.snapshot = s.store.snapshot)
    (image : t.store.image = s.store.image) : SavingImageFails t := by
  unfold SavingImageFails
  rw [snapshot, image]
  exact h

theorem of_store (h : SavingImageFails s) (store : t.store = s.store) : SavingImageFails t :=
  h.congr (by rw [store]) (by rw [store])

theorem of_no_snapshot (h : t.store.snapshot = none) : SavingImageFails t := by
  intro some
  simp [h] at some

theorem beginSave (s : State) : SavingImageFails (beginSave s) := fun _ => Image.invalidated_load _ _

theorem passReport (h : SavingImageFails s) : SavingImageFails (passReport s) := by
  unfold Machine.passReport
  dsimp only
  split
  · exact h.congr rfl rfl
  · split
    all_goals
      split
      · exact beginSave _
      · exact h.congr rfl rfl

theorem boundaryAfterTick (h : SavingImageFails s) (ending : Bool) :
    SavingImageFails (boundaryAfterTick ending s) := by
  unfold Machine.boundaryAfterTick
  split
  · split
    · exact passReport (h.of_store (by simp))
    · exact h.of_store (by simp)
  · split
    · exact h.of_store (by simp)
    · exact h.of_store (by simp)
  · exact passReport (h.of_store (by simp))
  · exact passReport (h.of_store (by simp))

theorem regularBoundary (h : SavingImageFails s) : SavingImageFails (regularBoundary s) := by
  unfold Machine.regularBoundary
  dsimp only
  split
  · have ticked : SavingImageFails (plainTick (expireAges (takeTicks (ticksOwed s) s))) :=
      h.of_store (by simp)
    exact (ticked.boundaryAfterTick _).of_store (demandDrop_store _ _)
  · exact h.of_store (by simp)

end SavingImageFails

theorem savingImageFails_stepInvariant : StepInvariant SavingImageFails where
  congr same h := h.congr same.snapshot same.image
  elapseMs n h := h.congr (by simp [elapseMs, elapseSeconds]) (by simp [elapseMs, elapseSeconds])
  reportDrops rooms h := h.of_store (by simp)
  writeLoop i c unity _ h := h.of_store (by unfold writeLoopRecord; dsimp only; split <;> simp)
  writeRoom r c _ h := h.of_store (by unfold writeRoomRecord; split <;> simp)
  writeGroup1 p h := h.of_store (by unfold writeGroup1; dsimp only; split <;> (try split) <;> rfl)
  seed h := h.of_store rfl
  stop h := h.of_store (by simp)
  run h := h.of_store (by unfold setRun; split <;> (try split) <;> simp)
  flush h := h.of_store (by unfold setFlush; split <;> simp)
  clear sel h := h.of_store (TablesKept.clear sel _).store
  queueTest i d _ _ h := h.of_store (TablesKept.queueTest i d _).store
  beginSave _ _ := .beginSave _
  restart scope _ _ := .of_no_snapshot (by simp [restart, resetBlocks])
  tick _ h := h.of_store (by simp)
  regularBoundary _ h := h.regularBoundary
  markFlushDue _ h := h.of_store (TablesKept.markFlushDue _).store
  joinFirst _ h := h.of_store (TablesKept.joinFirst _).store
  opportunity h := h.of_store (TablesKept.opportunity _).store
  releaseOne i h := h.of_store (TablesKept.releaseOne i _).store
  checkLoad i load _ h := h.of_store (TablesKept.checkLoad i load _).store
  tripChannel i h := h.of_store (TablesKept.tripChannel i _).store
  finishOpening i _ h := h.of_store (TablesKept.putChannels _ _).store
  finishClosing i _ h := h.of_store (TablesKept.putChannels _ _).store
  finishTest _ h := h.of_store (TablesKept.finishTest _).store
  finishHold _ h := h.of_store (TablesKept.finishHold _).store
  completeSave {s} h := by
    unfold completeSave
    split
    · exact h
    · exact .of_no_snapshot rfl
  powerUp straps _ := .of_no_snapshot (by simp [powerUp, resetBlocks])
  losePower _ := .of_no_snapshot rfl

/-- Settles O55: each of the four invariants is kept by every operation, and so by every step. -/
theorem stepsKeepTablesSound : Obligations.StepsKeepTablesSound := fun _ _ taken =>
  ⟨factorsBounded_stepInvariant.step taken, roomsSound_stepInvariant.step taken,
    supplyRequestBounded_stepInvariant.step taken, savingImageFails_stepInvariant.step taken⟩

end Sys2Proof.Machine

/-! Channels: coherent with their estimates (R8, R15), and no more energised than the holding limit (R115). -/

namespace Sys2Proof.Machine

/-! ## One channel -/

/-- A channel is energised exactly while its estimate is OPENING or OPEN; released it has neither close time
nor load check (R8, R15). -/
def Channel.Coherent (c : Channel) : Prop :=
  c.energised = c.valve.driven ∧ (c.energised = false → c.closeTime = none ∧ c.loadCheck = none)

theorem channelsCoherent_iff (s : State) : ChannelsCoherent s ↔ ∀ i, (s.channels.get i).Coherent := Iff.rfl

namespace Channel.Coherent

variable {c : Channel}

theorem release (h : c.Coherent) (t : Nat) : (c.release t).Coherent := by
  unfold Channel.release
  split
  · refine ⟨?_, fun _ => ⟨rfl, rfl⟩⟩
    cases c.valve <;> rfl
  · exact h

theorem energise (t : Nat) (close : Option Nat) (c : Channel) : (c.energise t close).Coherent := by
  refine ⟨?_, nofun⟩
  unfold Channel.energise
  cases c.valve <;> rfl

theorem elapse (h : c.Coherent) (k d : Nat) : (c.elapse k d).Coherent := by
  obtain ⟨driven, released⟩ := h
  refine ⟨driven.trans ?_, fun e => ?_⟩
  · unfold Channel.elapse
    cases c.valve <;> rfl
  · obtain ⟨close, load⟩ := released e
    exact ⟨close, by simp [Channel.elapse, load]⟩

theorem setCondition (h : c.Coherent) (x : Condition) : Coherent { c with condition := x } := h

theorem setSeconds (h : c.Coherent) (n : Nat) : Coherent { c with energisedSeconds := n } := h

end Channel.Coherent

namespace ChannelsCoherent

variable {s t : State}

theorem congr (h : ChannelsCoherent s) (same : t.channels = s.channels) : ChannelsCoherent t := by
  rw [channelsCoherent_iff, same]
  exact h

theorem setChannel (h : ChannelsCoherent s) {i : LoopIx} {c : Channel} (new : c.Coherent)
    (written : t.channels = s.channels.set i c) : ChannelsCoherent t := by
  rw [channelsCoherent_iff, written]
  intro j
  rw [Bank.get_set]
  split
  · exact new
  · exact h j

theorem releaseWhere (h : ChannelsCoherent s) (sel : LoopIx → Bool) :
    ChannelsCoherent (releaseWhere sel s) := by
  rw [channelsCoherent_iff]
  intro i
  rw [releaseWhere_channels]
  split
  · exact Channel.Coherent.release (h i) _
  · exact h i

theorem grantHead (h : ChannelsCoherent s) : ChannelsCoherent (grantHead s) := by
  unfold Machine.grantHead
  split
  · exact h
  · exact h.setChannel (.energise _ _ _) rfl
  · dsimp only
    split <;> exact h.setChannel (.energise _ _ _) rfl

theorem grantsUpTo (h : ChannelsCoherent s) (n : Nat) : ChannelsCoherent (grantsUpTo n s) := by
  induction n generalizing s with
  | zero => exact h
  | succ n ih =>
    unfold Machine.grantsUpTo
    split
    · exact ih h.grantHead
    · exact h

theorem opportunity (h : ChannelsCoherent s) : ChannelsCoherent (opportunity s) := h.grantsUpTo _

theorem releaseAndOffer (h : ChannelsCoherent s) (sel : LoopIx → Bool) :
    ChannelsCoherent (releaseAndOffer sel s) := by
  unfold Machine.releaseAndOffer
  split
  · exact (h.releaseWhere sel).opportunity
  · exact h

theorem closeLoops (h : ChannelsCoherent s) (sel : LoopIx → Bool) : ChannelsCoherent (closeLoops sel s) :=
  releaseAndOffer (h.congr (by simp)) sel

theorem endTest (h : ChannelsCoherent s) : ChannelsCoherent (endTest s) := by
  unfold Machine.endTest
  split
  · exact h
  · exact h.congr (by simp)
  · exact (h.releaseWhere _).congr rfl

theorem endTestOn (h : ChannelsCoherent s) (i : LoopIx) : ChannelsCoherent (endTestOn i s) := by
  unfold Machine.endTestOn
  split
  · exact h
  all_goals
    split
    · exact h.endTest
    · exact h

theorem demandDrop (h : ChannelsCoherent s) (rooms : RoomIx → Bool) : ChannelsCoherent (demandDrop rooms s) := by
  unfold Machine.demandDrop
  split
  · exact closeLoops (h.congr (by simp)) _
  · exact h

theorem reportDrops (h : ChannelsCoherent s) (rooms : RoomIx → Bool) :
    ChannelsCoherent (reportDrops rooms s) := by
  have dropped : ChannelsCoherent (Machine.demandDrop (fun r => rooms r && !dropWaits s r)
      (holdDrops (fun r => rooms r && dropWaits s r) s)) := demandDrop (h.congr (by simp)) _
  unfold Machine.reportDrops
  dsimp only
  split
  · exact dropped.congr rfl
  · exact dropped

theorem disableLoop (h : ChannelsCoherent s) (i : LoopIx) : ChannelsCoherent (disableLoop i s) := by
  unfold Machine.disableLoop
  refine closeLoops (endTestOn ?_ i) _
  split
  · exact h.congr (by simp)
  · exact h

theorem faultChannel (h : ChannelsCoherent s) (i : LoopIx) (c : Condition) :
    ChannelsCoherent (faultChannel i c s) := by
  unfold Machine.faultChannel
  refine releaseAndOffer ?_ _
  refine h.setChannel ?_ (dropLoops_channels _ _)
  exact Channel.Coherent.setCondition (h i) c

theorem closeOut (h : ChannelsCoherent s) : ChannelsCoherent (closeOut s) :=
  releaseWhere (h.congr (by simp)) _

theorem newPeriod (h : ChannelsCoherent s) : ChannelsCoherent (newPeriod s) := by
  refine opportunity (congr (s := openPeriod s) ?_ (by simp))
  rw [channelsCoherent_iff]
  intro i
  simp only [openPeriod, State.setPeriod_channels, State.setChannels_channels, State.setLoops_channels,
    Bank.get_imap]
  exact Channel.Coherent.setSeconds (h i) 0

theorem planPeriod (h : ChannelsCoherent s) (v : Variant) : ChannelsCoherent (planPeriod v s) := by
  unfold Machine.planPeriod carryOver
  refine newPeriod (congr (releaseWhere (h.congr ?_) _) (buildPlan_channels _))
  simp

theorem forcedBoundary (h : ChannelsCoherent s) (m : Mode) : ChannelsCoherent (forcedBoundary m s) :=
  planPeriod (s := forcedClose m s) (h.closeOut.congr (by simp)) _

theorem detectOverheat (h : ChannelsCoherent s) : ChannelsCoherent (detectOverheat s) :=
  congr (releaseWhere (s := clearStarts (stopFlush (setMode .overheat s))) (h.congr (by simp)) _) rfl

theorem plainTick (h : ChannelsCoherent s) : ChannelsCoherent (plainTick s) := by
  have added : ChannelsCoherent (accumulate s) := h.congr (by simp)
  unfold Machine.plainTick supplyCheck
  split
  · split
    · exact added.detectOverheat
    · exact added
  · split
    · exact added.detectOverheat
    · exact added
  · exact added
  · exact added

theorem tick (h : ChannelsCoherent s) : ChannelsCoherent (tick s) := by
  unfold Machine.tick
  dsimp only
  split
  · split
    · have forced : ChannelsCoherent (Machine.forcedBoundary .running (stopFlush (accumulate s))) :=
        forcedBoundary (h.congr (by simp)) _
      split
      · exact forced.detectOverheat
      · exact forced
    · split
      · exact h.plainTick
      · exact forcedBoundary (h.plainTick.congr (by simp)) _
  · exact h.plainTick

theorem takeTicks (h : ChannelsCoherent s) (n : Nat) : ChannelsCoherent (takeTicks n s) := by
  induction n generalizing s with
  | zero => exact h
  | succ n ih =>
    unfold Machine.takeTicks
    split
    · exact ih h.tick
    · exact h

theorem boundaryAfterTick (h : ChannelsCoherent s) (ending : Bool) :
    ChannelsCoherent (boundaryAfterTick ending s) := by
  have closed : ChannelsCoherent (closePeriod s) := h.closeOut.congr (by simp [closePeriod])
  unfold Machine.boundaryAfterTick
  split
  · split
    · have full : ChannelsCoherent (Machine.planPeriod .full (setMode .running (endLockout (closePeriod s)))) :=
        planPeriod (closed.congr (by simp)) _
      exact full.congr (by simp)
    · exact closed.planPeriod _
  · split
    · exact planPeriod (closed.congr (by simp)) _
    · exact closed.planPeriod _
  · exact (closed.planPeriod .full).congr (by simp)
  · exact (closed.planPeriod .full).congr (by simp)

theorem regularBoundary (h : ChannelsCoherent s) : ChannelsCoherent (regularBoundary s) := by
  unfold Machine.regularBoundary
  dsimp only
  split
  · have aged : ChannelsCoherent (expireAges (Machine.takeTicks (ticksOwed s) s)) :=
      reportDrops ((h.takeTicks (ticksOwed s)).congr (by simp)) _
    exact demandDrop (boundaryAfterTick aged.plainTick _) _
  · exact h.takeTicks _

/-- After a reset every channel is released and its estimate CLOSING (R21). -/
theorem resetBlocks (s : State) : ChannelsCoherent (resetBlocks s) := by
  rw [channelsCoherent_iff]
  intro i
  simp [Machine.resetBlocks, Channel.Coherent, Channel.afterReset, Valve.driven]

theorem autorun (h : ChannelsCoherent s) : ChannelsCoherent (autorun s) := by
  unfold Machine.autorun
  split
  · exact h.forcedBoundary _
  · exact h

end ChannelsCoherent

theorem channelsCoherent_stepInvariant : StepInvariant ChannelsCoherent where
  congr same h := h.congr same.channels
  elapseMs n h := by
    rw [channelsCoherent_iff]
    intro i
    simp only [elapseMs, elapseSeconds, State.setHouse_channels, State.setMsPhase_channels,
      State.setStore_channels, State.setSupply_channels, State.setArb_channels, State.setSeg_channels,
      State.setPeriod_channels, State.setTest_channels, State.setRooms_channels, State.setChannels_channels,
      Bank.get_imap]
    exact Channel.Coherent.elapse (h i) _ _
  reportDrops rooms h := h.reportDrops rooms
  writeLoop i c unity _ h := by
    unfold writeLoopRecord
    dsimp only
    split
    · apply ChannelsCoherent.disableLoop
      exact h
    · exact h
  writeRoom r c _ h := .reportDrops (.congr h (by split <;> simp)) _
  writeGroup1 p h := .congr h (by unfold writeGroup1; dsimp only; split <;> (try split) <;> rfl)
  seed h := h
  stop {s} h := by
    have released : ChannelsCoherent (releaseWhere (fun _ => true) (clearStarts (s.setTest .idle))) := by
      apply ChannelsCoherent.releaseWhere
      exact h
    unfold stopManifold
    dsimp only
    split <;> exact released
  run h := by
    unfold setRun
    split
    · split
      · exact h.endTest.forcedBoundary _
      · exact h
    · exact h
    · split
      · exact .forcedBoundary (.congr h (by simp)) _
      · exact h
    · exact h
  flush h := by
    unfold setFlush
    split
    · exact h.endTest.forcedBoundary _
    · exact h.forcedBoundary _
    · exact h
    · exact h
  clear sel h := by
    rw [channelsCoherent_iff]
    intro i
    rw [State.setChannels_channels, Bank.get_imap]
    split <;> exact h i
  queueTest i d _ _ h := .opportunity (.congr h rfl)
  beginSave _ h := h
  restart {s} scope _ _ := .autorun (.congr (.resetBlocks (restartTables scope s)) (by simp))
  tick _ h := h.tick
  regularBoundary _ h := h.regularBoundary
  markFlushDue _ h := h
  joinFirst _ h := by
    unfold joinFirst
    split
    · exact h
    · exact .opportunity (.congr h rfl)
  opportunity h := h.opportunity
  releaseOne i h := h.releaseAndOffer _
  checkLoad {s} i load due h := by
    have energised : (s.channels.get i).energised = true := by
      unfold loadCheckDue at due
      exact (Bool.and_eq_true _ _ ▸ due).1
    unfold checkLoad
    dsimp only
    split
    · refine h.setChannel ?_ rfl
      exact ⟨(h i).1, fun e => absurd (energised.symm.trans e) nofun⟩
    · exact h.faultChannel i _
  tripChannel i h := by
    unfold tripChannel
    split
    · exact h.faultChannel i _
    · exact h
  finishOpening {s} i due h := by
    have valve : (s.channels.get i).valve = .opening 0 := of_decide_eq_true due
    refine h.setChannel ?_ rfl
    refine ⟨?_, (h i).2⟩
    rw [(h i).1, valve]
    rfl
  finishClosing {s} i due h := by
    have valve : (s.channels.get i).valve = .closing 0 := of_decide_eq_true due
    refine h.setChannel ?_ rfl
    refine ⟨?_, (h i).2⟩
    rw [(h i).1, valve]
    rfl
  finishTest _ h := by
    unfold finishTest
    split
    · exact .congr (.releaseAndOffer h _) rfl
    · exact h
    · exact h
  finishHold _ h := h
  completeSave h := .congr h (by simp)
  powerUp {s} straps _ := .autorun (.congr (.resetBlocks (loadImage (cutSave s))) (by simp))
  losePower _ := by
    rw [channelsCoherent_iff]
    intro i
    simp [losePower, Channel.Coherent, Channel.afterReset, Valve.driven]

end Sys2Proof.Machine

/-! The holding limit (R115), and what grants and releases leave of the period. -/

namespace Sys2Proof.Machine

/-! ## The period through a grant -/

/-- The second period engine differs from the first in the current-period records at most. -/
def PeriodEngine.RecordsOnly (p q : PeriodEngine) : Prop := q = { p with records := q.records }

namespace PeriodEngine.RecordsOnly

variable {p q r : PeriodEngine}

theorem refl (p : PeriodEngine) : p.RecordsOnly p := rfl

theorem of_eq (h : q = p) : p.RecordsOnly q := h ▸ refl p

theorem trans (a : p.RecordsOnly q) (b : q.RecordsOnly r) : p.RecordsOnly r := by
  unfold RecordsOnly at *
  rw [a] at b
  exact b

theorem mode (h : p.RecordsOnly q) : q.mode = p.mode := by rw [h]
theorem eff (h : p.RecordsOnly q) : q.eff = p.eff := by rw [h]
theorem time (h : p.RecordsOnly q) : q.time = p.time := by rw [h]
theorem flushTimer (h : p.RecordsOnly q) : q.flushTimer = p.flushTimer := by rw [h]
theorem flushDue (h : p.RecordsOnly q) : q.flushDue = p.flushDue := by rw [h]
theorem flushRanOut (h : p.RecordsOnly q) : q.flushRanOut = p.flushRanOut := by rw [h]
theorem summary (h : p.RecordsOnly q) : q.summary = p.summary := by rw [h]
theorem lastTick (h : p.RecordsOnly q) : q.lastTick = p.lastTick := by rw [h]
theorem drops (h : p.RecordsOnly q) : q.drops = p.drops := by rw [h]

end PeriodEngine.RecordsOnly

open PeriodEngine (RecordsOnly)

theorem grantHead_period (s : State) : s.period.RecordsOnly (grantHead s).period := by
  unfold grantHead
  split
  · rfl
  · rfl
  · dsimp only
    split <;> rfl

theorem grantsUpTo_period (n : Nat) (s : State) : s.period.RecordsOnly (grantsUpTo n s).period := by
  induction n generalizing s with
  | zero => rfl
  | succ n ih =>
    unfold grantsUpTo
    split
    · exact (grantHead_period s).trans (ih _)
    · rfl

theorem opportunity_period (s : State) : s.period.RecordsOnly (opportunity s).period :=
  grantsUpTo_period _ s

@[simp] theorem opportunity_mode (s : State) : (opportunity s).period.mode = s.period.mode :=
  (opportunity_period s).mode
@[simp] theorem opportunity_eff (s : State) : (opportunity s).period.eff = s.period.eff :=
  (opportunity_period s).eff
@[simp] theorem opportunity_time (s : State) : (opportunity s).period.time = s.period.time :=
  (opportunity_period s).time

theorem releaseAndOffer_period (sel : LoopIx → Bool) (s : State) :
    s.period.RecordsOnly (releaseAndOffer sel s).period := by
  unfold releaseAndOffer
  split
  · exact RecordsOnly.trans (.of_eq (releaseWhere_period sel s)) (opportunity_period _)
  · rfl

theorem closeLoops_period (sel : LoopIx → Bool) (s : State) :
    s.period.RecordsOnly (closeLoops sel s).period :=
  RecordsOnly.trans (.of_eq (by simp)) (releaseAndOffer_period sel (classOff sel (dropLoops sel s)))

theorem updateRecords_period (f : LoopIx → PeriodRecord → PeriodRecord) (s : State) :
    s.period.RecordsOnly (updateRecords f s).period := rfl

theorem markClosed_period (sel : LoopIx → Bool) (s : State) :
    s.period.RecordsOnly (markClosed sel s).period := rfl

theorem demandDrop_period (rooms : RoomIx → Bool) (s : State) :
    s.period.RecordsOnly (demandDrop rooms s).period := by
  unfold demandDrop
  split
  · exact (markClosed_period _ s).trans (closeLoops_period _ _)
  · rfl

theorem closeOut_period (s : State) : s.period.RecordsOnly (closeOut s).period := by
  unfold closeOut
  dsimp only
  rw [releaseWhere_period, clearStarts_period]
  exact updateRecords_period _ s

/-! ## Counting energised channels -/

theorem countP_allLoops_eq_card (p : LoopIx → Bool) :
    allLoops.countP p = (Finset.univ.filter fun i => p i = true).card := by
  rw [List.countP_eq_length_filter, ← List.toFinset_card_of_nodup (nodup_allLoops.filter _)]
  congr 1
  ext i
  simp

/-- Fewer channels are energised where every energised channel was energised before. -/
theorem energisedCount_le {s t : State}
    (h : ∀ i, (t.channels.get i).energised = true → (s.channels.get i).energised = true) :
    energisedCount t ≤ energisedCount s :=
  List.countP_mono_left fun i _ => h i

/-- A grant energises one channel at most (R118). -/
theorem grantHead_count (s : State) : energisedCount (grantHead s) ≤ energisedCount s + 1 := by
  have one (i : LoopIx) {t : State} (same : ∀ j, j ≠ i → t.channels.get j = s.channels.get j) :
      energisedCount t ≤ energisedCount s + 1 := by
    unfold energisedCount
    rw [countP_allLoops_eq_card, countP_allLoops_eq_card]
    refine le_trans (Finset.card_le_card (t := insert i _) fun j => ?_) (Finset.card_insert_le i _)
    simp only [Finset.mem_filter, Finset.mem_univ, true_and, Finset.mem_insert]
    intro e
    by_cases ij : j = i
    · exact .inl ij
    · exact .inr (by rwa [same j ij] at e)
  unfold grantHead
  split
  · exact Nat.le_succ _
  · next i q _ => exact one i fun j ne => by simp [Bank.get_set_ne _ _ ne]
  · next i q _ =>
    dsimp only
    split <;> exact one i fun j ne => by simp [Bank.get_set_ne _ _ ne]

/-- No more loops stay carried than the holding limit allows (R75): the rank of each among the carried ones
is below it. -/
theorem countP_staysCarried_le (s : State) :
    allLoops.countP (staysCarried s) ≤ s.period.eff.limit := by
  rw [countP_allLoops_eq_card, ← Finset.card_range s.period.eff.limit]
  let rank (i : LoopIx) : Nat := allLoops.countP fun j => carries s j && decide (j < i)
  have stays (i : LoopIx) : staysCarried s i = true ↔ carries s i = true ∧ rank i < s.period.eff.limit := by
    simp [staysCarried, rank]
  have grows {i j : LoopIx} (c : carries s i = true) (lt : i < j) : rank i < rank j := by
    simp only [rank, countP_allLoops_eq_card]
    apply Finset.card_lt_card
    rw [Finset.ssubset_iff_of_subset]
    · exact ⟨i, by simp [c, lt], by simp⟩
    · intro x
      simp only [Bool.and_eq_true, decide_eq_true_eq, Finset.mem_filter, Finset.mem_univ, true_and]
      exact fun h => ⟨h.1, h.2.trans lt⟩
  apply Finset.card_le_card_of_injOn rank
  · intro i
    simp only [Finset.coe_filter, Finset.mem_univ, true_and, Set.mem_ofPred_eq, stays, Finset.coe_range,
      Set.mem_Iio]
    exact fun h => h.2
  · intro i hi j hj same
    simp only [Finset.coe_filter, Finset.mem_univ, true_and, Set.mem_ofPred_eq, stays] at hi hj
    rcases lt_trichotomy i j with lt | eq | lt
    · exact absurd same (grows hi.1 lt).ne
    · exact eq
    · exact absurd same.symm (grows hj.1 lt).ne

/-! ## The limit kept -/

namespace HoldingLimitKept

variable {s t : State}

theorem of_le (h : HoldingLimitKept s)
    (energised : ∀ i, (t.channels.get i).energised = true → (s.channels.get i).energised = true)
    (eff : t.period.eff = s.period.eff) : HoldingLimitKept t := by
  unfold HoldingLimitKept
  rw [eff]
  exact (energisedCount_le energised).trans h

theorem congr (h : HoldingLimitKept s) (channels : t.channels = s.channels)
    (eff : t.period.eff = s.period.eff) : HoldingLimitKept t :=
  h.of_le (by simp [channels]) eff

theorem of_released (h : ∀ i, (t.channels.get i).energised = false) : HoldingLimitKept t := by
  have : energisedCount t = 0 := (countP_allLoops_zero _).mpr h
  simp [HoldingLimitKept, this]

theorem grantsUpTo (h : HoldingLimitKept s) (n : Nat) : HoldingLimitKept (grantsUpTo n s) := by
  induction n generalizing s with
  | zero => exact h
  | succ n ih =>
    unfold Machine.grantsUpTo
    split
    · next ready =>
      obtain ⟨-, room, -⟩ := (grantReady_iff s).mp ready
      refine ih ?_
      unfold HoldingLimitKept
      rw [grantHead_eff]
      exact (grantHead_count s).trans room
    · exact h

theorem opportunity (h : HoldingLimitKept s) : HoldingLimitKept (opportunity s) := h.grantsUpTo _

theorem releaseWhere (h : HoldingLimitKept s) (sel : LoopIx → Bool) :
    HoldingLimitKept (releaseWhere sel s) := by
  refine h.of_le (fun i => ?_) (by rw [releaseWhere_period])
  rw [releaseWhere_channels]
  split <;> simp

theorem releaseAndOffer (h : HoldingLimitKept s) (sel : LoopIx → Bool) :
    HoldingLimitKept (releaseAndOffer sel s) := by
  unfold Machine.releaseAndOffer
  split
  · exact (h.releaseWhere sel).opportunity
  · exact h

theorem closeLoops (h : HoldingLimitKept s) (sel : LoopIx → Bool) : HoldingLimitKept (closeLoops sel s) :=
  releaseAndOffer (h.congr (by simp) (by simp)) sel

theorem endTest (h : HoldingLimitKept s) : HoldingLimitKept (endTest s) := by
  unfold Machine.endTest
  split
  · exact h
  · exact h.congr (by simp) (by simp)
  · exact (h.releaseWhere _).congr rfl rfl

theorem endTestOn (h : HoldingLimitKept s) (i : LoopIx) : HoldingLimitKept (endTestOn i s) := by
  unfold Machine.endTestOn
  split
  · exact h
  all_goals
    split
    · exact h.endTest
    · exact h

theorem demandDrop (h : HoldingLimitKept s) (rooms : RoomIx → Bool) : HoldingLimitKept (demandDrop rooms s) := by
  unfold Machine.demandDrop
  split
  · refine closeLoops (s := markClosed (droppedLoop rooms s) s) ?_ _
    exact h
  · exact h

theorem reportDrops (h : HoldingLimitKept s) (rooms : RoomIx → Bool) :
    HoldingLimitKept (reportDrops rooms s) := by
  have held : HoldingLimitKept (holdDrops (fun r => rooms r && dropWaits s r) s) := h
  have dropped := held.demandDrop (fun r => rooms r && !dropWaits s r)
  unfold Machine.reportDrops
  dsimp only
  split
  · exact dropped.congr rfl rfl
  · exact dropped

theorem disableLoop (h : HoldingLimitKept s) (i : LoopIx) : HoldingLimitKept (disableLoop i s) := by
  unfold Machine.disableLoop
  refine closeLoops (endTestOn ?_ i) _
  split
  · exact h.congr (by simp) rfl
  · exact h

theorem faultChannel (h : HoldingLimitKept s) (i : LoopIx) (c : Condition) :
    HoldingLimitKept (faultChannel i c s) := by
  unfold Machine.faultChannel
  refine releaseAndOffer (h.of_le (fun j => ?_) (by simp)) _
  simp only [dropLoops_channels, State.setChannels_channels, Bank.get_set]
  split
  · next e => subst e; exact id
  · exact id

/-- Continuous carry-over leaves no more channels energised than the new holding limit (R75). -/
theorem carryOver (s : State) : HoldingLimitKept (carryOver s) := by
  have stays (i : LoopIx) (e : ((Machine.carryOver s).channels.get i).energised = true) :
      staysCarried s i = true := by
    unfold Machine.carryOver at e
    rw [releaseWhere_channels] at e
    by_contra no
    rw [Bool.not_eq_true] at no
    rw [no] at e
    simp at e
  have eff : (Machine.carryOver s).period.eff = s.period.eff := by simp [Machine.carryOver]
  unfold HoldingLimitKept
  rw [eff]
  exact (List.countP_mono_left fun i _ => stays i).trans (countP_staysCarried_le s)

theorem openPeriod (h : HoldingLimitKept s) : HoldingLimitKept (openPeriod s) := by
  refine h.of_le (fun i => ?_) (by simp [Machine.openPeriod])
  simp [Machine.openPeriod]

/-- Whatever it starts from, a new period begins with no more energised than its limit (R75, R115). -/
theorem planPeriod (v : Variant) (s : State) : HoldingLimitKept (planPeriod v s) := by
  unfold Machine.planPeriod newPeriod
  dsimp only
  generalize stageLatch v _ _ = u
  have planned : HoldingLimitKept (buildPlan (Machine.carryOver u)) := (carryOver u).congr (by simp) (by simp)
  have joined : HoldingLimitKept (joinDue (Machine.openPeriod (buildPlan (Machine.carryOver u)))) :=
    planned.openPeriod.congr (by simp) (by simp)
  exact joined.opportunity

theorem forcedBoundary (m : Mode) (s : State) : HoldingLimitKept (forcedBoundary m s) :=
  planPeriod _ (forcedClose m s)

theorem detectOverheat (s : State) : HoldingLimitKept (detectOverheat s) := by
  refine of_released fun i => ?_
  simp [Machine.detectOverheat]

theorem plainTick (h : HoldingLimitKept s) : HoldingLimitKept (plainTick s) := by
  have added : HoldingLimitKept (accumulate s) := h.congr (by simp) (by simp [accumulate])
  unfold Machine.plainTick supplyCheck
  split
  · split
    · exact detectOverheat _
    · exact added
  · split
    · exact detectOverheat _
    · exact added
  · exact added
  · exact added

theorem tick (h : HoldingLimitKept s) : HoldingLimitKept (tick s) := by
  unfold Machine.tick
  dsimp only
  split
  · split
    · split
      · exact detectOverheat _
      · exact forcedBoundary _ _
    · split
      · exact h.plainTick
      · exact forcedBoundary _ _
  · exact h.plainTick

theorem takeTicks (h : HoldingLimitKept s) (n : Nat) : HoldingLimitKept (takeTicks n s) := by
  induction n generalizing s with
  | zero => exact h
  | succ n ih =>
    unfold Machine.takeTicks
    split
    · exact ih h.tick
    · exact h

theorem boundaryAfterTick (ending : Bool) (s : State) : HoldingLimitKept (boundaryAfterTick ending s) := by
  unfold Machine.boundaryAfterTick
  split
  · split
    · exact (planPeriod _ _).congr (passReport_channels _) (by rw [passReport_period])
    · exact planPeriod _ _
  · split <;> exact planPeriod _ _
  · exact (planPeriod _ _).congr (passReport_channels _) (by rw [passReport_period])
  · exact (planPeriod _ _).congr (passReport_channels _) (by rw [passReport_period])

theorem regularBoundary (h : HoldingLimitKept s) : HoldingLimitKept (regularBoundary s) := by
  unfold Machine.regularBoundary
  dsimp only
  split
  · exact demandDrop (boundaryAfterTick _ _) _
  · exact h.takeTicks _

theorem autorun (h : HoldingLimitKept s) : HoldingLimitKept (autorun s) := by
  unfold Machine.autorun
  split
  · exact forcedBoundary _ _
  · exact h

theorem resetBlocks (s : State) : HoldingLimitKept (resetBlocks s) :=
  of_released fun i => by simp [Machine.resetBlocks, Channel.afterReset]

end HoldingLimitKept

theorem holdingLimitKept_stepInvariant : StepInvariant HoldingLimitKept where
  congr same h := h.congr same.channels (by rw [same.period])
  elapseMs n h := h.of_le
    (fun i => by simp [elapseMs, elapseSeconds, Channel.elapse])
    (by simp [elapseMs, elapseSeconds, PeriodEngine.elapse])
  reportDrops rooms h := h.reportDrops rooms
  writeLoop i c unity _ h := by
    unfold writeLoopRecord
    dsimp only
    split
    · apply HoldingLimitKept.disableLoop
      exact h
    · exact h
  writeRoom r c _ h := .reportDrops (.congr h (by split <;> simp) (by split <;> simp)) _
  writeGroup1 p h := .congr h (by unfold writeGroup1; dsimp only; split <;> (try split) <;> rfl)
    (by unfold writeGroup1; dsimp only; split <;> (try split) <;> rfl)
  seed h := h
  stop h := by
    refine .of_released fun i => ?_
    unfold stopManifold
    dsimp only
    split <;> simp
  run h := by
    unfold setRun
    split
    · split
      · exact .forcedBoundary _ _
      · exact h
    · exact h
    · split
      · exact .forcedBoundary _ _
      · exact h
    · exact h
  flush h := by
    unfold setFlush
    split
    · exact .forcedBoundary _ (endTest _)
    · exact .forcedBoundary _ _
    · exact h
    · exact h
  clear sel h := h.of_le (fun i => by
    rw [State.setChannels_channels, Bank.get_imap]
    split <;> exact id) rfl
  queueTest i d _ _ h := by
    apply HoldingLimitKept.opportunity
    exact h
  beginSave _ h := h
  restart {s} scope _ _ :=
    .autorun (.congr (.resetBlocks (restartTables scope s)) (by simp) (by simp))
  tick _ h := h.tick
  regularBoundary _ h := h.regularBoundary
  markFlushDue _ h := h
  joinFirst _ h := by
    unfold joinFirst
    split
    · exact h
    · apply HoldingLimitKept.opportunity
      exact h
  opportunity h := h.opportunity
  releaseOne i h := h.releaseAndOffer _
  checkLoad i load _ h := by
    unfold checkLoad
    dsimp only
    split
    · refine h.of_le (fun j => ?_) rfl
      rw [State.setChannels_channels, Bank.get_set]
      split
      · next e => subst e; exact id
      · exact id
    · exact h.faultChannel i _
  tripChannel i h := by
    unfold tripChannel
    split
    · exact h.faultChannel i _
    · exact h
  finishOpening i _ h := h.of_le (fun j => by
    rw [finishOpening, putChannel_channels, Bank.get_set]
    split
    · next e => subst e; exact id
    · exact id) rfl
  finishClosing i _ h := h.of_le (fun j => by
    rw [finishClosing, putChannel_channels, Bank.get_set]
    split
    · next e => subst e; exact id
    · exact id) rfl
  finishTest _ h := by
    unfold finishTest
    split
    · exact .congr (.releaseAndOffer h _) rfl rfl
    · exact h
    · exact h
  finishHold _ h := h
  completeSave h := .congr h (by simp) (by simp)
  powerUp {s} straps _ :=
    .autorun (.congr (.resetBlocks (loadImage (cutSave s))) (by simp) (by simp))
  losePower _ := .of_released fun i => by simp [losePower, Channel.afterReset]

end Sys2Proof.Machine

/-! The clocks of the period engine (R64, R68, R69, R79). -/

namespace Sys2Proof.Machine

open PeriodEngine (RecordsOnly)

/-! ## The period engine through a boundary -/

/-- The period engine after stages 4 to 8 (R73 to R76): the group 0 values of the table in effect, the
clock and the ticks at 0, no report waiting. The pass can write the summary, and the records are new. -/
theorem planPeriod_period (v : Variant) (s : State) :
    RecordsOnly { (runPass v (Bank.ofFn fun i => hold v s i) s).period with
        eff := s.params.timing, time := 0, lastTick := 0, drops := [] }
      (planPeriod v s).period := by
  unfold planPeriod newPeriod
  dsimp only
  refine RecordsOnly.trans ?_ (opportunity_period _)
  rw [joinDue_period]
  unfold openPeriod RecordsOnly
  simp

theorem runPass_period (v : Variant) (held : Bank Held 16) (s : State) :
    (runPass v held s).period = { s.period with summary := (runPass v held s).period.summary } := by
  cases v <;> simp [runPass, writeSteps]

section
variable (v : Variant) (s : State)

@[simp] theorem planPeriod_mode : (planPeriod v s).period.mode = s.period.mode := by
  rw [(planPeriod_period v s).mode, runPass_period]
@[simp] theorem planPeriod_eff : (planPeriod v s).period.eff = s.params.timing :=
  (planPeriod_period v s).eff
@[simp] theorem planPeriod_time : (planPeriod v s).period.time = 0 := (planPeriod_period v s).time
@[simp] theorem planPeriod_lastTick : (planPeriod v s).period.lastTick = 0 := (planPeriod_period v s).lastTick
@[simp] theorem planPeriod_drops : (planPeriod v s).period.drops = [] := (planPeriod_period v s).drops
@[simp] theorem planPeriod_flushTimer : (planPeriod v s).period.flushTimer = s.period.flushTimer := by
  rw [(planPeriod_period v s).flushTimer, runPass_period]
@[simp] theorem planPeriod_flushDue : (planPeriod v s).period.flushDue = s.period.flushDue := by
  rw [(planPeriod_period v s).flushDue, runPass_period]
@[simp] theorem planPeriod_flushRanOut : (planPeriod v s).period.flushRanOut = s.period.flushRanOut := by
  rw [(planPeriod_period v s).flushRanOut, runPass_period]
theorem planPeriod_summary : (planPeriod v s).period.summary =
    (runPass v (Bank.ofFn fun i => hold v s i) s).period.summary :=
  (planPeriod_period v s).summary

end

/-- The period engine of a closed period (R72): the summary recorded. -/
theorem closePeriod_period (s : State) :
    RecordsOnly { s.period with summary := (closePeriod s).period.summary } (closePeriod s).period := by
  have h := closeOut_period s
  unfold closePeriod recordSummary
  unfold RecordsOnly at h ⊢
  rw [State.setPeriod_period, h]

section
variable (s : State)

@[simp] theorem closePeriod_mode : (closePeriod s).period.mode = s.period.mode := (closePeriod_period s).mode
@[simp] theorem closePeriod_eff : (closePeriod s).period.eff = s.period.eff := (closePeriod_period s).eff
@[simp] theorem closePeriod_flushTimer : (closePeriod s).period.flushTimer = s.period.flushTimer :=
  (closePeriod_period s).flushTimer
@[simp] theorem closePeriod_flushDue : (closePeriod s).period.flushDue = s.period.flushDue :=
  (closePeriod_period s).flushDue
@[simp] theorem closePeriod_flushRanOut : (closePeriod s).period.flushRanOut = s.period.flushRanOut :=
  (closePeriod_period s).flushRanOut

end

/-- The period engine that a forced boundary closes out, the new mode set (R77). -/
theorem forcedClose_period (m : Mode) (s : State) :
    RecordsOnly { s.period with mode := m, summary := (forcedClose m s).period.summary }
      (forcedClose m s).period := by
  have h := closeOut_period s
  unfold forcedClose setMode
  unfold RecordsOnly at h ⊢
  rw [State.setPeriod_period]
  split
  · rw [h]
  · rw [recordSummary, State.setPeriod_period, h]

section
variable (m : Mode) (s : State)

@[simp] theorem forcedBoundary_mode : (forcedBoundary m s).period.mode = m := by
  rw [forcedBoundary_eq, planPeriod_mode, (forcedClose_period m s).mode]
@[simp] theorem forcedBoundary_eff : (forcedBoundary m s).period.eff = s.params.timing := by
  rw [forcedBoundary_eq, planPeriod_eff, forcedClose_params]
@[simp] theorem forcedBoundary_time : (forcedBoundary m s).period.time = 0 := by
  rw [forcedBoundary_eq, planPeriod_time]
@[simp] theorem forcedBoundary_lastTick : (forcedBoundary m s).period.lastTick = 0 := by
  rw [forcedBoundary_eq, planPeriod_lastTick]
@[simp] theorem forcedBoundary_drops : (forcedBoundary m s).period.drops = [] := by
  rw [forcedBoundary_eq, planPeriod_drops]
@[simp] theorem forcedBoundary_flushTimer : (forcedBoundary m s).period.flushTimer = s.period.flushTimer := by
  rw [forcedBoundary_eq, planPeriod_flushTimer, (forcedClose_period m s).flushTimer]
@[simp] theorem forcedBoundary_flushDue : (forcedBoundary m s).period.flushDue = s.period.flushDue := by
  rw [forcedBoundary_eq, planPeriod_flushDue, (forcedClose_period m s).flushDue]
@[simp] theorem forcedBoundary_flushRanOut :
    (forcedBoundary m s).period.flushRanOut = s.period.flushRanOut := by
  rw [forcedBoundary_eq, planPeriod_flushRanOut, (forcedClose_period m s).flushRanOut]

end

/-! ## The clocks of one period engine -/

/-- The clauses of the clocks that a period engine alone decides (R64, R68, R69, R78, R79). -/
structure PeriodEngine.Clocked (p : PeriodEngine) : Prop where
  within : p.time ≤ p.eff.period
  stopped : p.mode = .stopped → p.time = 0
  ticked : p.lastTick % 10 = 0
  tick_le : p.lastTick ≤ p.time
  waits : p.drops ≠ [] → p.mode ≠ .stopped ∧ p.eff.period ≤ p.time
  timer : p.flushTimer.isSome = true ↔ p.mode = .flush
  due : p.flushDue = true → p.flushTimer = some 0
  ranOut : ∀ x, p.flushRanOut = some x → p.flushTimer = some 0 ∧ x ≤ p.time

theorem clocksSound_iff (s : State) : ClocksSound s ↔ s.msPhase < 1000 ∧ s.period.Clocked := by
  constructor
  · rintro ⟨ms, within, stopped, ticked, tick_le, waits, timer, due, ranOut⟩
    exact ⟨ms, within, stopped, ticked, tick_le, waits, timer, due, ranOut⟩
  · rintro ⟨ms, within, stopped, ticked, tick_le, waits, timer, due, ranOut⟩
    exact ⟨ms, within, stopped, ticked, tick_le, waits, timer, due, ranOut⟩

/-- The clauses of the flush timer alone (R79). -/
structure PeriodEngine.FlushSound (p : PeriodEngine) : Prop where
  timer : p.flushTimer.isSome = true ↔ p.mode = .flush
  due : p.flushDue = true → p.flushTimer = some 0
  ranOut : ∀ x, p.flushRanOut = some x → p.flushTimer = some 0

namespace PeriodEngine.FlushSound

variable {p : PeriodEngine}

/-- Outside FLUSH the flush timer is stopped and no end of a flush is noted. -/
theorem noFlush (h : p.FlushSound) (mode : p.mode ≠ .flush) :
    p.flushTimer = none ∧ p.flushDue = false ∧ p.flushRanOut = none := by
  have timer : p.flushTimer = none := by
    rw [← Option.not_isSome_iff_eq_none, h.timer]
    exact mode
  refine ⟨timer, ?_, ?_⟩
  · rw [← Bool.not_eq_true]
    intro due
    simp [h.due due] at timer
  · rw [Option.eq_none_iff_forall_ne_some]
    intro x hx
    simp [h.ranOut x hx] at timer

/-- A flush whose timer has not run out has no end noted. -/
theorem flushRuns (h : p.FlushSound) (timer : p.flushTimer ≠ some 0) :
    p.flushDue = false ∧ p.flushRanOut = none := by
  constructor
  · rw [← Bool.not_eq_true]
    exact fun due => timer (h.due due)
  · rw [Option.eq_none_iff_forall_ne_some]
    exact fun x hx => timer (h.ranOut x hx)

end PeriodEngine.FlushSound

theorem PeriodEngine.Clocked.flushSound {p : PeriodEngine} (h : p.Clocked) : p.FlushSound where
  timer := h.timer
  due := h.due
  ranOut x hx := (h.ranOut x hx).1

namespace PeriodEngine.Clocked

variable {p q : PeriodEngine}

theorem recordsOnly (h : p.Clocked) (r : p.RecordsOnly q) : q.Clocked := by
  rw [r]
  exact { h with }

/-- A period that begins (R76) leaves only the flush timer to be asked about. -/
theorem of_begun (time : p.time = 0) (lastTick : p.lastTick = 0) (drops : p.drops = [])
    (timer : p.flushTimer.isSome = true ↔ p.mode = .flush)
    (due : p.flushDue = true → p.flushTimer = some 0) (ranOut : p.flushRanOut = none) : p.Clocked where
  within := by omega
  stopped _ := time
  ticked := by omega
  tick_le := by omega
  waits no := absurd drops no
  timer := timer
  due := due
  ranOut x hx := by rw [ranOut] at hx; cases hx

theorem elapse (h : p.Clocked) (k : Nat) : (p.elapse k).Clocked := by
  have step (n : Nat) : p.time + periodSeconds n p ≤ p.eff.period := by
    have := h.within
    unfold periodSeconds
    split <;> omega
  have mono {x : Nat} (le : x ≤ k) : periodSeconds x p ≤ periodSeconds k p := by
    unfold periodSeconds
    split <;> omega
  constructor
  case within => exact step k
  case stopped =>
    intro (mode : p.mode = .stopped)
    simp [PeriodEngine.elapse, periodSeconds, mode, Mode.runs, h.stopped mode]
  case ticked => exact h.ticked
  case tick_le => exact h.tick_le.trans (Nat.le_add_right _ _)
  case waits =>
    intro some
    obtain ⟨mode, past⟩ := h.waits some
    exact ⟨mode, past.trans (Nat.le_add_right _ _)⟩
  case timer => simpa [PeriodEngine.elapse] using h.timer
  case due =>
    intro due
    simp [PeriodEngine.elapse, h.due due]
  case ranOut =>
    intro x (hx : p.ranOut k = some x)
    have early : p.flushRanOut = some x →
        p.flushTimer.map (· - k) = some 0 ∧ x ≤ p.time + periodSeconds k p := by
      intro e
      obtain ⟨timer, le⟩ := h.ranOut x e
      exact ⟨by simp [timer], by omega⟩
    unfold PeriodEngine.ranOut at hx
    split at hx
    · next y timer =>
      split at hx
      · next within =>
        obtain ⟨rfl⟩ := hx
        have := mono within.2
        simp only [PeriodEngine.elapse, timer, Option.map_some, Option.some.injEq]
        omega
      · exact early hx
    · exact early hx

end PeriodEngine.Clocked

namespace ClocksSound

variable {s t : State}

theorem congr (h : ClocksSound s) (ms : t.msPhase = s.msPhase) (r : s.period.RecordsOnly t.period) :
    ClocksSound t := by
  rw [clocksSound_iff] at h ⊢
  rw [ms]
  exact ⟨h.1, h.2.recordsOnly r⟩

/-- A report waits only while a boundary is due in RUNNING (R78, log 34). -/
theorem holdDrops (h : ClocksSound s) (rooms : RoomIx → Bool) :
    ClocksSound (holdDrops (fun r => rooms r && dropWaits s r) s) := by
  rw [clocksSound_iff] at h ⊢
  obtain ⟨ms, clocked⟩ := h
  refine ⟨ms, { clocked with waits := fun some => ?_ }⟩
  by_cases old : s.period.drops = []
  · by_contra no
    apply some
    have due (r : RoomIx) : dropWaits s r = false := by
      rw [← Bool.not_eq_true]
      intro waits
      simp only [dropWaits, boundaryDue, Bool.and_eq_true, decide_eq_true_eq] at waits
      refine no ⟨by simp [Machine.holdDrops, waits.1.1], ?_⟩
      simpa [Machine.holdDrops] using waits.1.2.2
    simp [Machine.holdDrops, old, due]
  · exact clocked.waits old

theorem reportDrops (h : ClocksSound s) (rooms : RoomIx → Bool) : ClocksSound (reportDrops rooms s) := by
  have dropped := (h.holdDrops rooms).congr (t := Machine.demandDrop (fun r => rooms r && !dropWaits s r)
    (Machine.holdDrops (fun r => rooms r && dropWaits s r) s)) (by simp) (demandDrop_period _ _)
  unfold Machine.reportDrops
  dsimp only
  split
  · exact dropped.congr rfl rfl
  · exact dropped

theorem expireAges (h : ClocksSound s) : ClocksSound (expireAges s) := by
  apply reportDrops
  exact h

/-- Stages 4 to 8 leave only the flush timer to be asked about. -/
theorem planPeriod (v : Variant) (ms : s.msPhase < 1000)
    (timer : s.period.flushTimer.isSome = true ↔ s.period.mode = .flush)
    (due : s.period.flushDue = true → s.period.flushTimer = some 0)
    (ranOut : s.period.flushRanOut = none) : ClocksSound (planPeriod v s) := by
  rw [clocksSound_iff]
  exact ⟨by simpa using ms, .of_begun (by simp) (by simp) (by simp) (by simpa) (by simpa) (by simpa)⟩

/-- A forced boundary into RUNNING, the flush timer stopped (R77, R79). -/
theorem forcedRun (ms : s.msPhase < 1000) (timer : s.period.flushTimer = none)
    (due : s.period.flushDue = false) (ranOut : s.period.flushRanOut = none) :
    ClocksSound (forcedBoundary .running s) := by
  rw [clocksSound_iff]
  exact ⟨by simpa using ms,
    .of_begun (by simp) (by simp) (by simp) (by simp [timer]) (by simp [due]) (by simpa)⟩

/-- A forced boundary into FLUSH, the flush timer started (R65, R77). -/
theorem forcedFlush (ms : s.msPhase < 1000) : ClocksSound (startFlush (forcedBoundary .flush s)) := by
  rw [clocksSound_iff]
  exact ⟨by simpa using ms, .of_begun (by simp [startFlush]) (by simp [startFlush]) (by simp [startFlush])
    (by simp [startFlush]) (by simp [startFlush]) (by simp [startFlush])⟩

/-! ### Ticks -/

/-- A tick that is taken is one that the period time has reached. -/
def TickReached (s : State) : Prop := s.period.lastTick + 10 ≤ s.period.time

theorem accumulate (h : ClocksSound s) (reached : TickReached s) : ClocksSound (accumulate s) := by
  rw [clocksSound_iff] at h ⊢
  obtain ⟨ms, clocked⟩ := h
  refine ⟨by simpa using ms, ?_⟩
  have := clocked.ticked
  exact { clocked with
    ticked := by simp only [Machine.accumulate, State.setPeriod_period]; omega
    tick_le := reached }

theorem detectOverheat (h : ClocksSound s) (mode : s.period.mode.heats = true) :
    ClocksSound (detectOverheat s) := by
  rw [clocksSound_iff] at h ⊢
  obtain ⟨ms, clocked⟩ := h
  have runs : s.period.mode ≠ .stopped := by intro e; simp [e, Mode.heats] at mode
  refine ⟨by simpa using ms, ?_⟩
  have period : (Machine.detectOverheat s).period = { s.period with
      mode := .overheat, flushTimer := none, flushDue := false, flushRanOut := none } := by
    simp [Machine.detectOverheat, Machine.stopFlush, setMode]
  rw [period]
  exact { clocked with
    stopped := nofun
    waits := fun drops => ⟨nofun, (clocked.waits drops).2⟩
    timer := by simp
    due := nofun
    ranOut := nofun }

/-- The mode, the flush timer and P through an accumulation (R69). -/
theorem accumulate_period (s : State) :
    (Machine.accumulate s).period = { s.period with lastTick := s.period.lastTick + 10 } := by
  simp [Machine.accumulate]

theorem plainTick (h : ClocksSound s) (reached : TickReached s) : ClocksSound (plainTick s) := by
  have added := h.accumulate reached
  unfold Machine.plainTick supplyCheck
  split
  · next mode =>
    split
    · exact added.detectOverheat (by rw [mode]; rfl)
    · exact added
  · next mode =>
    split
    · exact added.detectOverheat (by rw [mode]; rfl)
    · exact added
  · exact added.congr rfl rfl
  · exact added

/-- The end of a flush: RUNNING by a forced boundary (R79). -/
theorem endFlush (h : ClocksSound s) : ClocksSound (Machine.forcedBoundary .running (Machine.stopFlush s)) :=
  forcedRun (by simpa using ((clocksSound_iff s).mp h).1) (by simp [Machine.stopFlush])
    (by simp [Machine.stopFlush]) (by simp [Machine.stopFlush])

theorem tick (h : ClocksSound s) (reached : TickReached s) : ClocksSound (tick s) := by
  unfold Machine.tick
  dsimp only
  split
  · split
    · split
      · exact (h.accumulate reached).endFlush.detectOverheat (by simp [Mode.heats])
      · exact (h.accumulate reached).endFlush
    · split
      · exact h.plainTick reached
      · exact (h.plainTick reached).endFlush
  · exact h.plainTick reached

theorem tickReached_of_due (due : tickDue s = true) : TickReached s := by
  unfold TickReached
  simp only [tickDue, ticksOwed] at due
  split at due
  · rw [decide_eq_true_eq] at due
    omega
  · simp at due

theorem takeTicks (h : ClocksSound s) (n : Nat) : ClocksSound (takeTicks n s) := by
  induction n generalizing s with
  | zero => exact h
  | succ n ih =>
    unfold Machine.takeTicks
    split
    · next due => exact ih (h.tick (tickReached_of_due due))
    · exact h

/-! ### The regular boundary -/

theorem boundaryAfterTick (ms : s.msPhase < 1000) (flush : s.period.FlushSound) (ending : Bool)
    (goesOn : s.period.mode = .flush → ending = false →
      s.period.flushDue = false ∧ s.period.flushRanOut = none) :
    ClocksSound (boundaryAfterTick ending s) := by
  unfold Machine.boundaryAfterTick
  have outside (v : Variant) (m : s.period.mode ≠ .flush) : ClocksSound (Machine.planPeriod v (closePeriod s)) := by
    obtain ⟨timer, due, ranOut⟩ := flush.noFlush m
    exact planPeriod v (by simpa) (by simp [timer, m]) (by simp [due]) (by simpa)
  split
  · next mode =>
    split
    · obtain ⟨timer, due, ranOut⟩ := flush.noFlush (by simp [mode])
      refine (planPeriod .full (s := setMode .running (endLockout (closePeriod s))) ?_ ?_ ?_ ?_).congr
        (by simp) (.of_eq (by simp))
      all_goals simp_all [setMode]
    · exact outside _ (by simp [mode])
  · next mode =>
    split
    · refine planPeriod _ ?_ ?_ ?_ ?_
      all_goals simp [setMode, Machine.stopFlush, ms]
    · next no =>
      obtain ⟨due, ranOut⟩ := goesOn mode (by simpa using no)
      exact planPeriod _ (by simpa) (by simpa using flush.timer) (by simp [due]) (by simpa)
  · next mode => exact (outside .full (by simp [mode])).congr (by simp) (.of_eq (by simp))
  · next mode => exact (outside .full (by simp [mode])).congr (by simp) (.of_eq (by simp))

theorem plainTick_flush (s : State) (mode : (Machine.plainTick s).period.mode = .flush) :
    (Machine.plainTick s).period = { s.period with lastTick := s.period.lastTick + 10 } := by
  rw [← accumulate_period]
  unfold Machine.plainTick supplyCheck at mode ⊢
  revert mode
  split
  · split
    · simp [Machine.detectOverheat, setMode, Machine.stopFlush]
    · simp
  · split
    · simp [Machine.detectOverheat, setMode, Machine.stopFlush]
    · simp
  · simp [exitCheck]
  · simp

theorem plainTick_flushSound (h : s.period.FlushSound) : (Machine.plainTick s).period.FlushSound := by
  have added : (Machine.accumulate s).period.FlushSound := by
    rw [accumulate_period]
    exact { h with }
  have out : (Machine.detectOverheat (Machine.accumulate s)).period.FlushSound :=
    { timer := by simp [Machine.detectOverheat, setMode, Machine.stopFlush]
      due := by simp [Machine.detectOverheat, setMode, Machine.stopFlush]
      ranOut := by simp [Machine.detectOverheat, setMode, Machine.stopFlush] }
  unfold Machine.plainTick supplyCheck
  split
  · split
    · exact out
    · exact added
  · split
    · exact out
    · exact added
  · exact added
  · exact added

theorem boundary (h : ClocksSound s) : ClocksSound (boundary s) := by
  obtain ⟨ms, clocked⟩ := (clocksSound_iff s).mp h
  refine boundaryAfterTick (by simpa) (plainTick_flushSound clocked.flushSound) _ fun mode goesOn => ?_
  have period := plainTick_flush s mode
  rw [period] at mode ⊢
  apply clocked.flushSound.flushRuns
  intro timer
  have late : s.period.flushRanOut.all (fun x => decide (x ≤ s.period.eff.period)) = true := by
    cases ran : s.period.flushRanOut with
    | none => rfl
    | some x =>
      have := (clocked.ranOut x ran).2
      have := clocked.within
      simp only [Option.all_some, decide_eq_true_eq]
      omega
  simp only [flushEnds, timer, late] at goesOn
  simp at goesOn
  exact goesOn mode

theorem regularBoundary (h : ClocksSound s) : ClocksSound (regularBoundary s) := by
  have ticked := h.takeTicks (ticksOwed s)
  unfold Machine.regularBoundary
  dsimp only
  split
  · exact ticked.expireAges.boundary.congr (by simp [boundaryWithDrops]) (demandDrop_period _ _)
  · exact ticked

theorem setRun (h : ClocksSound s) : ClocksSound (setRun s).2 := by
  obtain ⟨ms, clocked⟩ := (clocksSound_iff s).mp h
  unfold Machine.setRun
  split
  · next mode =>
    obtain ⟨timer, due, ranOut⟩ := clocked.flushSound.noFlush (by simp [mode])
    split
    · exact forcedRun (by simpa) (by simpa) (by simpa) (by simpa)
    · exact h
  · exact h
  · split
    · exact h.endFlush
    · exact h
  · exact h

theorem setFlush (h : ClocksSound s) : ClocksSound (setFlush s).2 := by
  obtain ⟨ms, clocked⟩ := (clocksSound_iff s).mp h
  unfold Machine.setFlush
  split
  · exact forcedFlush (by simpa)
  · exact forcedFlush ms
  · next mode =>
    rw [clocksSound_iff]
    exact ⟨ms, { clocked with
      timer := by simp [startFlush, mode]
      due := by simp [startFlush]
      ranOut := by simp [startFlush] }⟩
  · exact h

theorem markFlushDue (h : ClocksSound s) (expired : flushExpired s = true) : ClocksSound (markFlushDue s) := by
  rw [clocksSound_iff] at h ⊢
  simp only [flushExpired, Bool.and_eq_true, decide_eq_true_eq] at expired
  exact ⟨h.1, { h.2 with due := fun _ => expired.1.2 }⟩

theorem of_stopped (ms : s.msPhase < 1000) (mode : s.period.mode = .stopped) (time : s.period.time = 0)
    (lastTick : s.period.lastTick = 0) (drops : s.period.drops = []) (timer : s.period.flushTimer = none)
    (due : s.period.flushDue = false) (ranOut : s.period.flushRanOut = none) : ClocksSound s := by
  rw [clocksSound_iff]
  exact ⟨ms, .of_begun time lastTick drops (by simp [timer, mode]) (by simp [due]) ranOut⟩

theorem resetBlocks (ms : s.msPhase < 1000) : ClocksSound (resetBlocks s) :=
  of_stopped (by simpa) rfl rfl rfl rfl rfl rfl rfl

theorem autorun (h : ClocksSound s) (mode : s.period.mode = .stopped) : ClocksSound (autorun s) := by
  unfold Machine.autorun
  split
  · obtain ⟨ms, clocked⟩ := (clocksSound_iff s).mp h
    obtain ⟨timer, due, ranOut⟩ := clocked.flushSound.noFlush (by simp [mode])
    exact forcedRun ms timer due ranOut
  · exact h

end ClocksSound

/-- What a fault of a channel leaves of the period engine. -/
theorem faultChannel_period (i : LoopIx) (c : Condition) (s : State) :
    s.period.RecordsOnly (faultChannel i c s).period := by
  unfold faultChannel
  exact RecordsOnly.trans (.of_eq (by simp)) (releaseAndOffer_period _ _)

theorem disableLoop_period (i : LoopIx) (s : State) : s.period.RecordsOnly (disableLoop i s).period := by
  unfold disableLoop
  refine RecordsOnly.trans ?_ (closeLoops_period _ _)
  rw [endTestOn_period]
  split
  · exact markClosed_period _ s
  · rfl

theorem restartTables_msPhase (scope : Scope) (s : State) :
    (restartTables scope s).msPhase = s.msPhase := by
  cases scope <;> simp [restartTables]

theorem clocksSound_stepInvariant : StepInvariant ClocksSound where
  congr same h := h.congr same.msPhase (.of_eq same.period)
  elapseMs n h := by
    rw [clocksSound_iff] at h ⊢
    exact ⟨Nat.mod_lt _ (by omega), h.2.elapse _⟩
  reportDrops rooms h := h.reportDrops rooms
  writeLoop {s} i c unity _ h := by
    unfold writeLoopRecord
    dsimp only
    split
    · exact h.congr (by simp) (disableLoop_period i _)
    · exact h.congr rfl rfl
  writeRoom {s} r c _ h := by
    apply ClocksSound.reportDrops
    exact h.congr (by split <;> simp) (.of_eq (by split <;> simp))
  writeGroup1 p h := h.congr (by unfold writeGroup1; dsimp only; split <;> (try split) <;> rfl)
    (.of_eq (by unfold writeGroup1; dsimp only; split <;> (try split) <;> rfl))
  seed h := h
  stop {s} h := by
    have ms := ((clocksSound_iff s).mp h).1
    refine .of_stopped ?_ rfl rfl rfl rfl rfl rfl rfl
    unfold stopManifold
    dsimp only
    split <;> simpa
  run h := h.setRun
  flush h := h.setFlush
  clear sel h := h
  queueTest i d _ _ h := h.congr (by simp [queueTest]) (opportunity_period _)
  beginSave _ h := h
  restart {s} scope _ h := by
    have ms : (restartTables scope s).msPhase < 1000 := by
      simpa [restartTables_msPhase] using ((clocksSound_iff s).mp h).1
    exact .autorun (.congr (.resetBlocks ms) (by simp) (.of_eq (by simp))) (by simp [resetBlocks])
  tick due h := h.tick (ClocksSound.tickReached_of_due due)
  regularBoundary _ h := h.regularBoundary
  markFlushDue expired h := h.markFlushDue expired
  joinFirst _ h := by
    unfold joinFirst
    split
    · exact h
    · exact h.congr (by simp) (opportunity_period _)
  opportunity h := h.congr (by simp) (opportunity_period _)
  releaseOne i h := h.congr (by simp [releaseOne]) (releaseAndOffer_period _ _)
  checkLoad i load _ h := by
    unfold checkLoad
    dsimp only
    split
    · exact h
    · exact h.congr (by simp) (faultChannel_period _ _ _)
  tripChannel i h := by
    unfold tripChannel
    split
    · exact h.congr (by simp) (faultChannel_period _ _ _)
    · exact h
  finishOpening i _ h := h
  finishClosing i _ h := h
  finishTest _ h := by
    unfold finishTest
    split
    · exact h.congr (by simp [releaseOne]) (releaseAndOffer_period _ _)
    · exact h
    · exact h
  finishHold _ h := h
  completeSave h := h.congr (by simp) (.of_eq (by simp))
  powerUp {s} straps _ :=
    .autorun (.of_stopped (by simp) (by simp [resetBlocks]) (by simp [resetBlocks]) (by simp [resetBlocks])
      (by simp [resetBlocks]) (by simp [resetBlocks]) (by simp [resetBlocks]) (by simp [resetBlocks]))
      (by simp [resetBlocks])
  losePower _ := .of_stopped (by simp [losePower, State.reset]) rfl rfl rfl rfl rfl rfl rfl

/-- Settles O56: the holding limit, the coherence of the channels and the clocks are each an invariant of
every step. -/
theorem stepsKeepHoldingLimit : Obligations.StepsKeepHoldingLimit :=
  fun _ _ stepped =>
    ⟨holdingLimitKept_stepInvariant.step stepped, channelsCoherent_stepInvariant.step stepped,
      clocksSound_stepInvariant.step stepped⟩

end Sys2Proof.Machine

/-! The pump request on the flow count, and the lockout complete (R128, R134). -/

namespace Sys2Proof.Machine

open PeriodEngine (RecordsOnly)

/-- Nothing is energised and nothing waits to start (R134). -/
def Idle (s : State) : Prop :=
  (∀ i, (s.channels.get i).energised = false) ∧ s.arb.queue = [] ∧ s.arb.plan = []

/-- The mode, the pump request machine and the flow of every valve are alike in two states. -/
structure PumpSame (s t : State) : Prop where
  mode : t.period.mode = s.period.mode
  pump : t.supply.pump = s.supply.pump
  holdTimer : t.supply.holdTimer = s.supply.holdTimer
  latch : t.supply.latch = s.supply.latch
  flows : ∀ i, (t.channels.get i).valve.flows = (s.channels.get i).valve.flows

/-- The pump request machine is alike, and a manifold that is idle stays idle. -/
structure PumpKept (s t : State) : Prop extends PumpSame s t where
  idle : Idle s → Idle t

theorem PumpSame.trans {s t u : State} (a : PumpSame s t) (b : PumpSame t u) : PumpSame s u where
  mode := b.mode.trans a.mode
  pump := b.pump.trans a.pump
  holdTimer := b.holdTimer.trans a.holdTimer
  latch := b.latch.trans a.latch
  flows i := (b.flows i).trans (a.flows i)

theorem PumpSame.of_eq {s t : State} (mode : t.period.mode = s.period.mode) (supply : t.supply = s.supply)
    (channels : t.channels = s.channels) : PumpSame s t where
  mode := mode
  pump := by rw [supply]
  holdTimer := by rw [supply]
  latch := by rw [supply]
  flows i := by rw [channels]

namespace PumpKept

variable {s t u : State}

theorem trans (a : PumpKept s t) (b : PumpKept t u) : PumpKept s u where
  toPumpSame := a.toPumpSame.trans b.toPumpSame
  idle h := b.idle (a.idle h)

theorem of_eq (mode : t.period.mode = s.period.mode) (supply : t.supply = s.supply)
    (channels : t.channels = s.channels) (arb : t.arb = s.arb) : PumpKept s t where
  toPumpSame := .of_eq mode supply channels
  idle h := by
    unfold Idle at h ⊢
    rwa [channels, arb]

theorem refl (s : State) : PumpKept s s := of_eq rfl rfl rfl rfl

theorem releaseWhere (sel : LoopIx → Bool) (s : State) : PumpKept s (releaseWhere sel s) where
  mode := by rw [releaseWhere_period]
  pump := by rw [releaseWhere_supply]
  holdTimer := by rw [releaseWhere_supply]
  latch := by rw [releaseWhere_supply]
  flows i := by
    rw [releaseWhere_channels]
    split <;> simp
  idle h := by
    obtain ⟨released, starts⟩ := h
    refine ⟨fun i => ?_, by rwa [releaseWhere_arb]⟩
    rw [releaseWhere_channels]
    split
    · simp
    · exact released i

theorem grantHead_flows (s : State) (i : LoopIx) :
    ((grantHead s).channels.get i).valve.flows = (s.channels.get i).valve.flows := by
  have one (j : LoopIx) (close : Option Nat) :
      (((s.channels.set j ((s.channels.get j).energise s.period.eff.tOpen close)).get i).valve.flows) =
        (s.channels.get i).valve.flows := by
    rw [Bank.get_set]
    split
    · next e => rw [e, Channel.energise_valve_flows]
    · rfl
  unfold grantHead
  split
  · rfl
  · exact one _ _
  · dsimp only
    split <;> exact one _ _

theorem opportunity (s : State) : PumpKept s (opportunity s) where
  mode := opportunity_mode s
  pump := by rw [opportunity_supply]
  holdTimer := by rw [opportunity_supply]
  latch := by rw [opportunity_supply]
  flows := by
    have upTo (n : Nat) (t : State) (i : LoopIx) :
        ((grantsUpTo n t).channels.get i).valve.flows = (t.channels.get i).valve.flows := by
      induction n generalizing t with
      | zero => rfl
      | succ n ih =>
        unfold grantsUpTo
        split
        · rw [ih, grantHead_flows]
        · rfl
    exact upTo _ s
  idle h := by rwa [opportunity_of_empty h.2.1]

theorem releaseAndOffer (sel : LoopIx → Bool) (s : State) : PumpKept s (releaseAndOffer sel s) := by
  unfold Machine.releaseAndOffer
  split
  · exact (releaseWhere sel s).trans (opportunity _)
  · exact refl s

theorem dropLoops (sel : LoopIx → Bool) (s : State) : PumpKept s (dropLoops sel s) where
  toPumpSame := .of_eq rfl rfl rfl
  idle h := ⟨h.1, by simp [Machine.dropLoops, h.2.1], by simp [Machine.dropLoops, h.2.2]⟩

theorem clearStarts (s : State) : PumpKept s (clearStarts s) where
  toPumpSame := .of_eq rfl rfl rfl
  idle h := ⟨h.1, rfl, rfl⟩

theorem closeLoops (sel : LoopIx → Bool) (s : State) : PumpKept s (closeLoops sel s) :=
  ((dropLoops sel s).trans (of_eq (t := classOff sel (Machine.dropLoops sel s)) rfl rfl rfl rfl)).trans
    (releaseAndOffer sel _)

theorem endTest (s : State) : PumpKept s (endTest s) := by
  unfold Machine.endTest
  split
  · exact refl s
  · exact {
      toPumpSame := .of_eq rfl rfl rfl
      idle := fun h => ⟨h.1, by simp [setQueue, h.2.1], h.2.2⟩ }
  · exact (releaseWhere _ s).trans (of_eq rfl rfl rfl rfl)

theorem endTestOn (i : LoopIx) (s : State) : PumpKept s (endTestOn i s) := by
  unfold Machine.endTestOn
  split
  · exact refl s
  all_goals
    split
    · exact endTest s
    · exact refl s

theorem demandDrop (rooms : RoomIx → Bool) (s : State) : PumpKept s (demandDrop rooms s) := by
  unfold Machine.demandDrop
  split
  · have marked : PumpKept s (markClosed (droppedLoop rooms s) s) := of_eq rfl rfl rfl rfl
    exact marked.trans (closeLoops _ _)
  · exact refl s

theorem reportDrops (rooms : RoomIx → Bool) (s : State) : PumpKept s (reportDrops rooms s) := by
  have held : PumpKept s (holdDrops (fun r => rooms r && dropWaits s r) s) := of_eq rfl rfl rfl rfl
  have dropped := held.trans (demandDrop (fun r => rooms r && !dropWaits s r) _)
  unfold Machine.reportDrops
  dsimp only
  split
  · exact dropped.trans (of_eq rfl rfl rfl rfl)
  · exact dropped

theorem changeRooms (f : RoomIx → Room → Room) (s : State) : PumpKept s (changeRooms f s) := by
  have changed : PumpKept s (s.setRooms (s.rooms.imap f)) := of_eq rfl rfl rfl rfl
  exact changed.trans (reportDrops _ _)

theorem disableLoop (i : LoopIx) (s : State) : PumpKept s (disableLoop i s) := by
  unfold Machine.disableLoop
  refine trans ?_ ((endTestOn i _).trans (closeLoops _ _))
  split
  · exact of_eq rfl rfl rfl rfl
  · exact refl s

theorem faultChannel (i : LoopIx) (c : Condition) (s : State) : PumpKept s (faultChannel i c s) := by
  have same (j : LoopIx) :
      ((s.channels.set i { s.channels.get i with condition := c }).get j).valve = (s.channels.get j).valve
        ∧ ((s.channels.set i { s.channels.get i with condition := c }).get j).energised =
          (s.channels.get j).energised := by
    rw [Bank.get_set]
    split
    · next e => subst e; exact ⟨rfl, rfl⟩
    · exact ⟨rfl, rfl⟩
  have written : PumpKept s (s.setChannels (s.channels.set i { s.channels.get i with condition := c })) := {
    mode := rfl
    pump := rfl
    holdTimer := rfl
    latch := rfl
    flows := fun j => by rw [State.setChannels_channels, (same j).1]
    idle := fun h => ⟨fun j => by rw [State.setChannels_channels, (same j).2]; exact h.1 j, h.2⟩ }
  exact written.trans ((dropLoops _ _).trans (releaseAndOffer _ _))

theorem closeOut (s : State) : PumpKept s (closeOut s) := by
  have marked (f : LoopIx → PeriodRecord → PeriodRecord) : PumpKept s (updateRecords f s) :=
    of_eq rfl rfl rfl rfl
  exact (marked _).trans ((clearStarts _).trans (releaseWhere _ _))

theorem accumulate (s : State) : PumpKept s (accumulate s) :=
  of_eq rfl rfl rfl rfl

end PumpKept

/-! ## The new period -/

/-- Stages 4 to 8 leave the pump request machine and every valve's flow alone. -/
theorem PumpSame.planPeriod (v : Variant) (s : State) : PumpSame s (planPeriod v s) := by
  have passed : PumpSame s (stagePass v (Bank.ofFn fun i => hold v s i) s) := by
    unfold stagePass
    dsimp only
    split
    · exact {
        mode := by simp
        pump := by simp [updateBias]
        holdTimer := by simp [updateBias]
        latch := by simp [updateBias]
        flows := by simp }
    · exact .of_eq (by simp) (by simp) (by simp)
  have latched : PumpSame s (stageLatch v (Bank.ofFn fun i => hold v s i)
      (stagePass v (Bank.ofFn fun i => hold v s i) s)) := passed.trans (.of_eq (by simp) (by simp) (by simp))
  unfold Machine.planPeriod newPeriod
  dsimp only
  generalize stageLatch v _ _ = u at latched
  have carried : PumpSame s (carryOver u) := latched.trans (PumpKept.releaseWhere _ u).toPumpSame
  have opened : PumpSame s (joinDue (openPeriod (buildPlan (carryOver u)))) := carried.trans {
    mode := rfl
    pump := rfl
    holdTimer := rfl
    latch := rfl
    flows := fun i => by simp [openPeriod, carryOver] }
  exact opened.trans (PumpKept.opportunity _).toPumpSame

theorem planOrder_of_off {s : State} (off : ∀ i, (s.loops.get i).cls = .off) : planOrder s = [] := by
  have none (c : LoopClass) (on : c ≠ .off) : allLoops.filter (needsStart s c) = [] := by
    simp [needsStart, off, on.symm]
  simp [planOrder, none]

/-- With no pass every loop is OFF, and so nothing is planned (R104, R76). -/
theorem Idle.planPeriod {s : State} (h : Idle s) : Idle (planPeriod .noPass s) := by
  have off := fun i => congrArg Loop.cls (stageLatch_loops .noPass s i)
  unfold Machine.planPeriod newPeriod
  dsimp only
  have latched : Idle (stageLatch .noPass (Bank.ofFn fun i => hold .noPass s i)
      (stagePass .noPass (Bank.ofFn fun i => hold .noPass s i) s)) := by
    unfold Idle at h ⊢
    simpa using h
  generalize stageLatch .noPass _ _ = u at latched off
  have carried : Idle (carryOver u) := (PumpKept.releaseWhere _ u).idle latched
  have order : planOrder (carryOver u) = [] := planOrder_of_off fun i => by simpa [Loop.withPass, planned] using off i
  obtain ⟨released, -, -⟩ := carried
  have opened : Idle (joinDue (openPeriod (buildPlan (carryOver u)))) :=
    ⟨fun i => by simpa [openPeriod] using released i,
      by simp [joinDue, buildPlan, setPlan, order, withJoinTimes, latched.2.1],
      by simp [joinDue, buildPlan, setPlan, order, withJoinTimes]⟩
  exact (PumpKept.opportunity _).idle opened

/-! ## The pump request machine -/

@[simp] theorem pumpMove_latch (before after hold : Nat) (p : Supply) :
    (pumpMove before after hold p).latch = p.latch := by
  unfold pumpMove
  split
  · rfl
  · split
    · rfl
    · split
      · split
        · split <;> rfl
        all_goals rfl
      · rfl

theorem pumpMove_of_latch {before after hold : Nat} {p : Supply} (on : p.latch = true) :
    pumpMove before after hold p = p := by
  rw [pumpMove, if_pos on]

/-- Without the latch the pump request that is ON exactly while water flows stays so (R128). -/
theorem pumpMove_on {before after hold : Nat} {p : Supply} (off : p.latch = false)
    (flows : p.pump = .on ↔ 0 < before) :
    (pumpMove before after hold p).pump = .on ↔ 0 < after := by
  unfold pumpMove
  rw [off, if_neg (by simp)]
  split
  · next rises => simp [rises.2]
  · split
    · next falls =>
      rw [flows.mpr falls.1]
      dsimp only
      split <;> simp [falls.2]
    · rw [flows]
      omega

/-- The hold timer runs exactly in HOLD (R128). -/
theorem pumpMove_holdTimer {before after hold : Nat} {p : Supply}
    (held : p.holdTimer.isSome = true ↔ p.pump = .hold) :
    (pumpMove before after hold p).holdTimer.isSome = true ↔
      (pumpMove before after hold p).pump = .hold := by
  unfold pumpMove
  split
  · exact held
  · split
    · simp
    · split
      · split
        · split <;> simp
        all_goals exact held
      · exact held

/-! ## The pump follows the flow -/

namespace PumpFollowsFlow

variable {s t : State}

theorem of_same (h : PumpFollowsFlow s) (same : PumpSame s t)
    (idle : s.supply.latch = true → Idle s → Idle t) : PumpFollowsFlow t := by
  obtain ⟨latched, locked, flows, held⟩ := h
  have flow := flowCount_congr same.flows
  refine ⟨by rwa [same.latch, same.mode], fun on => ?_, fun off => ?_, by rwa [same.holdTimer, same.pump]⟩
  · rw [same.latch] at on
    obtain ⟨released, queue, plan, pump⟩ := locked on
    obtain ⟨released', queue', plan'⟩ := idle on ⟨released, queue, plan⟩
    exact ⟨released', queue', plan', same.pump.trans pump⟩
  · rw [same.pump, flow]
    exact flows (same.latch ▸ off)

theorem kept (h : PumpFollowsFlow s) (k : PumpKept s t) : PumpFollowsFlow t :=
  h.of_same k.toPumpSame fun _ => k.idle

theorem latch_off (h : PumpFollowsFlow s) (mode : s.period.mode ≠ .overheat) : s.supply.latch = false := by
  rw [← Bool.not_eq_true, h.1]
  exact mode

/-- Outside OVERHEAT only the pump request machine and the flow of the valves are asked about. -/
theorem unlatched (h : PumpFollowsFlow s) (mode : s.period.mode ≠ .overheat) (same : PumpSame s t) :
    PumpFollowsFlow t :=
  h.of_same same fun on => absurd on (by simp [h.latch_off mode])

/-- The mode changed between modes other than OVERHEAT. -/
theorem setMode (h : PumpFollowsFlow s) (m : Mode) (old : s.period.mode ≠ .overheat) (new : m ≠ .overheat) :
    PumpFollowsFlow (setMode m s) := by
  have off := h.latch_off old
  obtain ⟨-, locked, flows, held⟩ := h
  exact ⟨by simp [Machine.setMode, off, new], locked, flows, held⟩

theorem forcedBoundary (h : PumpFollowsFlow s) (m : Mode) (old : s.period.mode ≠ .overheat)
    (new : m ≠ .overheat) : PumpFollowsFlow (forcedBoundary m s) := by
  have closed := h.kept (.closeOut s)
  have mode : (closeOut s).period.mode ≠ .overheat := by rwa [(closeOut_period s).mode]
  have entered : PumpFollowsFlow (forcedClose m s) := by
    unfold forcedClose
    split
    · exact closed.setMode m mode new
    · exact (closed.kept (.of_eq (t := recordSummary true (closeOut s)) rfl rfl rfl rfl)).setMode m mode new
  rw [forcedBoundary_eq]
  exact entered.unlatched (by rwa [(forcedClose_period m s).mode]) (.planPeriod _ _)

/-- The lockout is complete from whatever state it is taken in (R134). -/
theorem detectOverheat (s : State) : PumpFollowsFlow (detectOverheat s) := by
  refine ⟨?_, fun _ => ⟨fun i => ?_, ?_, ?_, rfl⟩, nofun, ?_⟩
  · simp [Machine.detectOverheat, Machine.setMode, stopFlush]
  · simp [Machine.detectOverheat]
  · simp [Machine.detectOverheat, clearStarts]
  · simp [Machine.detectOverheat, clearStarts]
  · simp [Machine.detectOverheat]

theorem plainTick (h : PumpFollowsFlow s) : PumpFollowsFlow (plainTick s) := by
  have added := h.kept (.accumulate s)
  unfold Machine.plainTick supplyCheck
  split
  · split
    · exact detectOverheat _
    · exact added
  · split
    · exact detectOverheat _
    · exact added
  · exact added
  · exact added

theorem stopFlush (s : State) : PumpKept s (stopFlush s) := .of_eq rfl rfl rfl rfl

theorem tick (h : PumpFollowsFlow s) : PumpFollowsFlow (tick s) := by
  unfold Machine.tick
  dsimp only
  split
  · next ends =>
    simp only [flushEnds, Bool.and_eq_true, decide_eq_true_eq] at ends
    split
    · split
      · exact detectOverheat _
      · have stopped := (h.kept (.accumulate s)).kept (stopFlush _)
        exact stopped.forcedBoundary .running (by simp [Machine.stopFlush, accumulate, ends.1.1]) (by simp)
    · split
      · exact h.plainTick
      · next mode =>
        exact (h.plainTick.kept (stopFlush _)).forcedBoundary .running (by simpa [Machine.stopFlush]) (by simp)
  · exact h.plainTick

theorem takeTicks (h : PumpFollowsFlow s) (n : Nat) : PumpFollowsFlow (takeTicks n s) := by
  induction n generalizing s with
  | zero => exact h
  | succ n ih =>
    unfold Machine.takeTicks
    split
    · exact ih h.tick
    · exact h

/-- The lockout ends: the pump request is taken from the flow count (R135). -/
theorem endLockout (s : State) (m : Mode) (new : m ≠ .overheat) :
    PumpFollowsFlow (Machine.setMode m (endLockout s)) := by
  refine ⟨by simp [Machine.setMode, Machine.endLockout, new], nofun, fun _ => ?_, ?_⟩
  · simp only [Machine.setMode, Machine.endLockout, State.setPeriod_supply, State.setSupply_supply,
      State.setPeriod_channels, State.setSupply_channels]
    split <;> simp_all
  · simp only [Machine.setMode, Machine.endLockout, State.setPeriod_supply, State.setSupply_supply]
    split <;> simp

theorem boundaryAfterTick (h : PumpFollowsFlow s) (ending : Bool) :
    PumpFollowsFlow (boundaryAfterTick ending s) := by
  have closed : PumpFollowsFlow (closePeriod s) :=
    (h.kept (.closeOut s)).kept (.of_eq (t := closePeriod s) rfl rfl rfl rfl)
  have report {t : State} (k : PumpFollowsFlow t) : PumpFollowsFlow (passReport t) :=
    k.kept (.of_eq (by simp) (by simp) (by simp) (by simp))
  unfold Machine.boundaryAfterTick
  split
  · split
    · refine report ((endLockout (closePeriod s) .running (by simp)).unlatched ?_ (.planPeriod _ _))
      simp [Machine.setMode]
    · exact closed.of_same (.planPeriod _ _) fun _ => Idle.planPeriod
  · next mode =>
    have old : (closePeriod s).period.mode ≠ .overheat := by simp [mode]
    split
    · have running := (closed.kept (stopFlush _)).setMode .running (by simp [Machine.stopFlush, mode]) (by simp)
      exact running.unlatched (by simp [Machine.setMode]) (.planPeriod _ _)
    · exact closed.unlatched old (.planPeriod _ _)
  · next mode => exact report (closed.unlatched (by simp [mode]) (.planPeriod _ _))
  · next mode => exact report (closed.unlatched (by simp [mode]) (.planPeriod _ _))

theorem regularBoundary (h : PumpFollowsFlow s) : PumpFollowsFlow (regularBoundary s) := by
  have ticked := h.takeTicks (ticksOwed s)
  unfold Machine.regularBoundary
  dsimp only
  split
  · have aged : PumpFollowsFlow (expireAges (Machine.takeTicks (ticksOwed s) s)) :=
      ticked.kept (.changeRooms _ _)
    exact (boundaryAfterTick aged.plainTick _).kept (.demandDrop _ _)
  · exact ticked

theorem setRun (h : PumpFollowsFlow s) : PumpFollowsFlow (setRun s).2 := by
  unfold Machine.setRun
  split
  · next mode =>
    split
    · exact (h.kept (.endTest s)).forcedBoundary _ (by simp [mode]) (by simp)
    · exact h
  · exact h
  · next mode =>
    split
    · exact (h.kept (stopFlush s)).forcedBoundary _ (by simp [Machine.stopFlush, mode]) (by simp)
    · exact h
  · exact h

theorem setFlush (h : PumpFollowsFlow s) : PumpFollowsFlow (setFlush s).2 := by
  have started {u : State} (k : PumpFollowsFlow u) : PumpFollowsFlow (startFlush u) :=
    k.kept (.of_eq rfl rfl rfl rfl)
  unfold Machine.setFlush
  split
  · next mode => exact started ((h.kept (.endTest s)).forcedBoundary _ (by simp [mode]) (by simp))
  · next mode => exact started (h.forcedBoundary _ (by simp [mode]) (by simp))
  · exact started h
  · exact h

theorem stopManifold (h : PumpFollowsFlow s) : PumpFollowsFlow (stopManifold s) := by
  have cleared : PumpFollowsFlow (Machine.releaseWhere (fun _ => true) (Machine.clearStarts (s.setTest .idle))) :=
    (h.kept (.of_eq (t := s.setTest .idle) rfl rfl rfl rfl)).kept
      ((PumpKept.clearStarts _).trans (.releaseWhere _ _))
  have ended : PumpFollowsFlow (Machine.setMode .stopped (if s.period.mode = .overheat
      then Machine.endLockout (Machine.releaseWhere (fun _ => true) (Machine.clearStarts (s.setTest .idle)))
      else Machine.releaseWhere (fun _ => true) (Machine.clearStarts (s.setTest .idle)))) := by
    split
    · exact endLockout _ _ (by simp)
    · next mode => exact cleared.setMode _ (by simpa) (by simp)
  exact ended.kept (.of_eq rfl rfl rfl rfl)

/-- A change of one channel's estimate reaches the pump request machine (R15, R127). -/
theorem putChannels (h : PumpFollowsFlow s) {cs : Bank Channel 16}
    (released : ∀ i, (s.channels.get i).energised = false → (cs.get i).energised = false) :
    PumpFollowsFlow (putChannels cs s) := by
  obtain ⟨latched, locked, flows, held⟩ := h
  cases on : s.supply.latch with
  | true =>
    have same : Machine.putChannels cs s = s.setChannels cs := by
      rw [Machine.putChannels, pumpMove_of_latch on]
      rfl
    obtain ⟨off, starts⟩ := locked on
    rw [same]
    exact ⟨latched, fun _ => ⟨fun i => released i (off i), starts⟩, fun no => by simp [on] at no, held⟩
  | false =>
    refine ⟨?_, fun no => ?_, fun _ => pumpMove_on on (flows on), pumpMove_holdTimer held⟩
    · rwa [Machine.putChannels, State.setSupply_supply, pumpMove_latch]
    · rw [Machine.putChannels, State.setSupply_supply, pumpMove_latch, on] at no
      cases no

/-- Time leaves every valve's flow and the running of the hold timer alone (R16, R128). -/
theorem elapseMs (h : PumpFollowsFlow s) (n : Nat) : PumpFollowsFlow (elapseMs n s) := by
  obtain ⟨latched, locked, flows, held⟩ := h
  have flow : flowCount (Machine.elapseMs n s).channels = flowCount s.channels := by
    refine flowCount_congr fun i => ?_
    simp only [Machine.elapseMs, elapseSeconds, State.setHouse_channels, State.setMsPhase_channels,
      State.setStore_channels, State.setSupply_channels, State.setArb_channels, State.setSeg_channels,
      State.setPeriod_channels, State.setTest_channels, State.setRooms_channels, State.setChannels_channels,
      Bank.get_imap, Channel.elapse]
    cases (s.channels.get i).valve <;> rfl
  refine ⟨latched, fun on => ?_, fun off => ?_, ?_⟩
  · obtain ⟨released, starts⟩ := locked on
    exact ⟨fun i => by simpa [Machine.elapseMs, elapseSeconds, Channel.elapse] using released i, starts⟩
  · rw [flow]
    exact flows off
  · simpa [Machine.elapseMs, elapseSeconds] using held

/-- A state in STOPPED whose pump request is ON exactly while water flows, no hold running. -/
theorem of_stopped (mode : s.period.mode = .stopped) (latch : s.supply.latch = false)
    (pump : s.supply.pump = .on ↔ 0 < flowCount s.channels) (hold : s.supply.pump ≠ .hold)
    (timer : s.supply.holdTimer = none) : PumpFollowsFlow s :=
  ⟨by simp [mode, latch], fun on => by simp [latch] at on, fun _ => pump, by simp [timer, hold]⟩

/-- After a reset every valve is CLOSING and the pump request ON (R21, R139). -/
theorem resetBlocks (s : State) : PumpFollowsFlow (resetBlocks s) := by
  have flow : 0 < flowCount (Machine.resetBlocks s).channels :=
    (flowCount_pos _).mpr ⟨0, by simp [Machine.resetBlocks, Channel.afterReset, Valve.flows]⟩
  exact of_stopped rfl rfl (iff_of_true rfl flow) (by simp [Machine.resetBlocks]) rfl

theorem autorun (h : PumpFollowsFlow s) (mode : s.period.mode = .stopped) : PumpFollowsFlow (autorun s) := by
  unfold Machine.autorun
  split
  · exact h.forcedBoundary _ (by simp [mode]) (by simp)
  · exact h

end PumpFollowsFlow

theorem pumpFollowsFlow_stepInvariant : StepInvariant PumpFollowsFlow where
  congr same h := h.kept {
    mode := by rw [same.period]
    pump := same.pump
    holdTimer := same.holdTimer
    latch := same.latch
    flows := fun i => by rw [same.channels]
    idle := fun idle => by
      unfold Idle at idle ⊢
      rwa [same.channels, same.arb] }
  elapseMs n h := h.elapseMs n
  reportDrops rooms h := h.kept (.reportDrops rooms _)
  writeLoop i c unity _ h := by
    unfold writeLoopRecord
    dsimp only
    split
    · refine PumpFollowsFlow.kept ?_ (.disableLoop i _)
      exact h
    · exact h
  writeRoom {s} r c _ h := by
    unfold writeRoomRecord changeRoom
    refine PumpFollowsFlow.kept (s := if (s.rooms.get r).cfg.address ≠ c.clamped.address then stalePoll r s else s)
      ?_ (.changeRooms _ _)
    split
    · exact h.kept (.of_eq (by simp) (by simp) (by simp) (by simp))
    · exact h
  writeGroup1 p h := by
    unfold writeGroup1
    dsimp only
    split
    · split
      · exact h
      · exact h
    · exact h
  seed h := h
  stop h := h.stopManifold
  run h := h.setRun
  flush h := h.setFlush
  clear {s} sel h := by
    have same (i : LoopIx) : ((s.channels.imap fun i c => if sel i then c.cleared else c).get i).valve =
          (s.channels.get i).valve
        ∧ ((s.channels.imap fun i c => if sel i then c.cleared else c).get i).energised =
          (s.channels.get i).energised := by
      rw [Bank.get_imap]
      split <;> exact ⟨rfl, rfl⟩
    exact h.kept {
      mode := rfl
      pump := rfl
      holdTimer := rfl
      latch := rfl
      flows := fun i => by rw [State.setChannels_channels, (same i).1]
      idle := fun idle => ⟨fun i => by rw [State.setChannels_channels, (same i).2]; exact idle.1 i, idle.2⟩ }
  queueTest i d mode _ h := by
    unfold queueTest
    refine PumpFollowsFlow.kept ?_ (.opportunity _)
    exact h.unlatched (by simp [mode]) (.of_eq rfl rfl rfl)
  beginSave _ h := h
  restart {s} scope _ _ := .autorun (.kept (.resetBlocks (restartTables scope s))
    (.of_eq (by simp) (by simp) (by simp) (by simp))) (by simp [resetBlocks])
  tick _ h := h.tick
  regularBoundary _ h := h.regularBoundary
  markFlushDue _ h := h
  joinFirst {s} reached h := by
    have mode : s.period.mode ≠ .overheat := by
      intro mode
      simp [joinReached, mode, Mode.heats] at reached
    unfold joinFirst
    split
    · exact h
    · next e rest _ =>
      have joined := h.unlatched (t := s.setArb { s.arb with plan := rest, queue := s.arb.queue ++ [.loop e.loop] })
        mode (.of_eq rfl rfl rfl)
      exact joined.kept (.opportunity _)
  opportunity h := h.kept (.opportunity _)
  releaseOne i h := h.kept (.releaseAndOffer _ _)
  checkLoad {s} i load _ h := by
    unfold checkLoad
    dsimp only
    split
    · refine h.kept {
        mode := rfl
        pump := rfl
        holdTimer := rfl
        latch := rfl
        flows := fun j => ?_
        idle := fun idle => ⟨fun j => ?_, idle.2⟩ }
      · rw [State.setChannels_channels, Bank.get_set]
        split
        · next e => rw [e]
        · rfl
      · rw [State.setChannels_channels, Bank.get_set]
        split
        · exact idle.1 i
        · exact idle.1 j
    · exact h.kept (.faultChannel i _ s)
  tripChannel {s} i h := by
    unfold tripChannel
    split
    · exact h.kept (.faultChannel i _ s)
    · exact h
  finishOpening i _ h := h.putChannels fun j off => by
    rw [Bank.get_set]
    split
    · next e => subst e; exact off
    · exact off
  finishClosing i _ h := h.putChannels fun j off => by
    rw [Bank.get_set]
    split
    · next e => subst e; exact off
    · exact off
  finishTest {s} _ h := by
    unfold finishTest
    split
    · exact h.kept ((PumpKept.releaseAndOffer _ s).trans (.of_eq rfl rfl rfl rfl))
    · exact h
    · exact h
  finishHold {s} ended h := by
    simp only [holdOver, Bool.and_eq_true, decide_eq_true_eq] at ended
    obtain ⟨latched, locked, flows, -⟩ := h
    refine ⟨latched, fun on => ?_, fun off => ?_, by simp [finishHold]⟩
    · obtain ⟨released, queue, plan, -⟩ := locked on
      exact ⟨released, queue, plan, rfl⟩
    · rw [show (finishHold s).channels = s.channels from rfl, ← flows off, ended.1]
      simp [finishHold]
  completeSave h := h.kept (.of_eq (by simp) (by simp) (by simp) (by simp))
  powerUp {s} straps _ := .autorun (.kept (.resetBlocks (loadImage (cutSave s)))
    (.of_eq (by simp) (by simp) (by simp) (by simp))) (by simp [resetBlocks])
  losePower {s} _ := by
    have flow : flowCount (losePower s).channels = 0 :=
      (flowCount_zero _).mpr fun i => by simp [losePower, Valve.flows]
    exact .of_stopped rfl rfl (iff_of_false (by simp [losePower]) (by omega)) (by simp [losePower]) rfl

/-- Settles O57: the pump request follows the flow through every step, and a lockout stays complete. -/
theorem stepsKeepPumpOnFlow : Obligations.StepsKeepPumpOnFlow :=
  fun _ _ stepped => pumpFollowsFlow_stepInvariant.step stepped

end Sys2Proof.Machine

/-! The start plan: its order (R109), and how its entries join (R110). -/

namespace Sys2Proof.Machine

/-! ## The order of the plan -/

/-- PULSE loops stand by falling on-time, equal ones by number (R109). -/
def ByOnTime (on : LoopIx → Nat) (i j : LoopIx) : Prop := on j < on i ∨ on j = on i ∧ i < j

theorem insertByOnTime_perm (on : LoopIx → Nat) (i : LoopIx) (l : List LoopIx) :
    (insertByOnTime on i l).Perm (i :: l) := by
  induction l with
  | nil => exact .refl _
  | cons j rest ih =>
    unfold insertByOnTime
    split
    · exact .refl _
    · exact (ih.cons j).trans (.swap i j rest)

theorem mem_insertByOnTime {on : LoopIx → Nat} {i j : LoopIx} {l : List LoopIx} :
    j ∈ insertByOnTime on i l ↔ j = i ∨ j ∈ l := by
  rw [(insertByOnTime_perm on i l).mem_iff, List.mem_cons]

/-- A loop inserted behind all lower ones keeps the order. -/
theorem insertByOnTime_sorted {on : LoopIx → Nat} {i : LoopIx} {l : List LoopIx}
    (sorted : l.Pairwise (ByOnTime on)) (lower : ∀ j ∈ l, j < i) :
    (insertByOnTime on i l).Pairwise (ByOnTime on) := by
  induction l with
  | nil => exact List.pairwise_singleton _ _
  | cons j rest ih =>
    obtain ⟨first, sorted⟩ := List.pairwise_cons.mp sorted
    have tail := ih sorted fun k hk => lower k (List.mem_cons_of_mem _ hk)
    unfold insertByOnTime
    split
    · next less =>
      refine List.pairwise_cons.mpr ⟨fun k hk => .inl ?_, List.pairwise_cons.mpr ⟨first, sorted⟩⟩
      rcases List.mem_cons.mp hk with rfl | hk
      · exact less
      · have le : on k ≤ on j := (first k hk).elim Nat.le_of_lt fun h => h.1.le
        exact le.trans_lt less
    · next more =>
      refine List.pairwise_cons.mpr ⟨fun k hk => ?_, tail⟩
      rcases mem_insertByOnTime.mp hk with rfl | hk
      · exact (Nat.lt_or_eq_of_le (not_lt.mp more)).imp id fun e => ⟨e, lower j List.mem_cons_self⟩
      · exact first k hk

theorem foldl_insertByOnTime {on : LoopIx → Nat} (xs : List LoopIx) :
    ∀ acc : List LoopIx, xs.Pairwise (· < ·) → acc.Pairwise (ByOnTime on) →
      (∀ a ∈ acc, ∀ x ∈ xs, a < x) →
      (xs.foldl (fun acc i => insertByOnTime on i acc) acc).Pairwise (ByOnTime on)
        ∧ (xs.foldl (fun acc i => insertByOnTime on i acc) acc).Perm (xs ++ acc) := by
  induction xs with
  | nil => exact fun acc _ sorted _ => ⟨sorted, .refl _⟩
  | cons x xs ih =>
    intro acc rising sorted lower
    obtain ⟨above, rising⟩ := List.pairwise_cons.mp rising
    obtain ⟨sorted', perm⟩ := ih (insertByOnTime on x acc) rising
      (insertByOnTime_sorted sorted fun a ha => lower a ha x List.mem_cons_self) (by
        intro a ha y hy
        rcases mem_insertByOnTime.mp ha with rfl | ha
        · exact above y hy
        · exact lower a ha y (List.mem_cons_of_mem _ hy))
    refine ⟨sorted', perm.trans ?_⟩
    exact ((insertByOnTime_perm on x acc).append_left xs).trans List.perm_middle

theorem allLoops_rising : allLoops.Pairwise (· < ·) := List.pairwise_lt_finRange 16

section
variable (s : State)

/-- The PULSE loops of the plan in their order. -/
def pulseOrder : List LoopIx :=
  (allLoops.filter (needsStart s .pulse)).foldl
    (fun acc i => insertByOnTime (fun j => (s.loops.get j).onTime) i acc) []

theorem planOrder_eq : planOrder s = allLoops.filter (needsStart s .continuous) ++ pulseOrder s := rfl

theorem pulseOrder_sorted : (pulseOrder s).Pairwise (ByOnTime fun j => (s.loops.get j).onTime) :=
  (foldl_insertByOnTime _ [] (allLoops_rising.filter _) .nil nofun).1

theorem pulseOrder_perm : (pulseOrder s).Perm (allLoops.filter (needsStart s .pulse)) := by
  simpa [pulseOrder] using (foldl_insertByOnTime (on := fun j => (s.loops.get j).onTime) _ []
    (allLoops_rising.filter (needsStart s .pulse)) .nil nofun).2

theorem mem_pulseOrder (i : LoopIx) : i ∈ pulseOrder s ↔ needsStart s .pulse i = true := by
  rw [(pulseOrder_perm s).mem_iff]
  simp

theorem needsStart_iff (c : LoopClass) (i : LoopIx) :
    needsStart s c i = true ↔ takesPart s i = true ∧ (s.channels.get i).energised = false
      ∧ (s.loops.get i).cls = c := by
  simp [needsStart, and_assoc]

theorem mem_planOrder (i : LoopIx) :
    i ∈ planOrder s ↔ takesPart s i = true ∧ (s.channels.get i).energised = false
      ∧ (s.loops.get i).cls ≠ .off := by
  rw [planOrder_eq, List.mem_append, mem_pulseOrder, needsStart_iff, List.mem_filter, needsStart_iff]
  cases (s.loops.get i).cls <;> simp

theorem planOrder_nodup : (planOrder s).Nodup := by
  rw [planOrder_eq, List.nodup_append]
  refine ⟨nodup_allLoops.filter _, (pulseOrder_perm s).nodup_iff.mpr (nodup_allLoops.filter _), ?_⟩
  intro i hi j hj same
  rw [List.mem_filter, needsStart_iff] at hi
  rw [mem_pulseOrder, needsStart_iff] at hj
  rw [same, hj.2.2] at hi
  exact absurd hi.2.2.2 (by simp)

/-- The plan stands in the order of R109. -/
theorem planOrder_sorted : (planOrder s).Pairwise (StartsBefore s) := by
  rw [planOrder_eq, List.pairwise_append]
  refine ⟨?_, ?_, ?_⟩
  · refine (allLoops_rising.filter _).imp_of_mem fun hi hj lt => ?_
    rw [List.mem_filter, needsStart_iff] at hi hj
    exact .inl ⟨hi.2.2.2, .inr ⟨hj.2.2.2, lt⟩⟩
  · refine (pulseOrder_sorted s).imp_of_mem fun hi hj before => ?_
    rw [mem_pulseOrder, needsStart_iff] at hi hj
    exact .inr ⟨hi.2.2, hj.2.2, before⟩
  · intro i hi j hj
    rw [List.mem_filter, needsStart_iff] at hi
    rw [mem_pulseOrder, needsStart_iff] at hj
    exact .inl ⟨hi.2.2.2, .inl hj.2.2⟩

end

@[simp] theorem withJoinTimes_loops (spacing : Nat) (order : List LoopIx) :
    (withJoinTimes spacing order).map PlanEntry.loop = order := by
  simp only [withJoinTimes, List.map_map, Function.comp_def, List.zipIdx_map_fst]

end Sys2Proof.Machine

/-! Queue, plan and channel test sound (R112, R118, R20, R66). -/

namespace Sys2Proof.Machine

/-- The loops of a queue's loop entries. -/
def queueLoops (q : List QueueEntry) : List LoopIx :=
  q.filterMap fun e =>
    match e with
    | .loop i => some i
    | .test _ => none

/-- The loops of a queue's test entries. -/
def queueTests (q : List QueueEntry) : List LoopIx :=
  q.filterMap fun e =>
    match e with
    | .loop _ => none
    | .test i => some i

/-- The test entries that a channel test keeps in the queue (R20). -/
def ChannelTest.entries : ChannelTest → List LoopIx
  | .queued i _ => [i]
  | .idle => []
  | .active _ _ _ => []

section
variable (q r : List QueueEntry) (i : LoopIx)

@[simp] theorem queueLoops_nil : queueLoops [] = [] := rfl
@[simp] theorem queueLoops_loop : queueLoops (.loop i :: q) = i :: queueLoops q := rfl
@[simp] theorem queueLoops_test : queueLoops (.test i :: q) = queueLoops q := rfl
@[simp] theorem queueLoops_append : queueLoops (q ++ r) = queueLoops q ++ queueLoops r :=
  List.filterMap_append
@[simp] theorem queueTests_nil : queueTests [] = [] := rfl
@[simp] theorem queueTests_loop : queueTests (.loop i :: q) = queueTests q := rfl
@[simp] theorem queueTests_test : queueTests (.test i :: q) = i :: queueTests q := rfl
@[simp] theorem queueTests_append : queueTests (q ++ r) = queueTests q ++ queueTests r :=
  List.filterMap_append

@[simp] theorem queueLoops_map (l : List LoopIx) : queueLoops (l.map .loop) = l := by
  induction l with
  | nil => rfl
  | cons i l ih => simp [ih]

@[simp] theorem queueTests_map (l : List LoopIx) : queueTests (l.map .loop) = [] := by
  induction l with
  | nil => rfl
  | cons i l ih => simp [ih]

end

theorem waitingLoops_eq (s : State) :
    waitingLoops s = s.arb.plan.map PlanEntry.loop ++ queueLoops s.arb.queue := rfl

/-- A queue without entries of either kind is empty. -/
theorem queue_eq_nil {q : List QueueEntry} (loops : queueLoops q = []) (tests : queueTests q = []) : q = [] := by
  cases q with
  | nil => rfl
  | cons e q => cases e <;> simp at loops tests

/-! ## What the dropping of entries leaves -/

section
variable (sel : LoopIx → Bool) (s : State)

theorem dropLoops_waiting : waitingLoops (dropLoops sel s) = (waitingLoops s).filter fun i => !sel i := by
  have plan (p : List PlanEntry) : (p.filter fun e => !sel e.loop).map PlanEntry.loop =
      (p.map PlanEntry.loop).filter fun i => !sel i := by
    rw [List.filter_map]
    rfl
  have queue (q : List QueueEntry) : queueLoops (q.filter fun e =>
      match e with
      | .loop i => !sel i
      | .test _ => true) = (queueLoops q).filter fun i => !sel i := by
    induction q with
    | nil => rfl
    | cons e q ih =>
      rw [List.filter_cons]
      cases e with
      | loop i => cases h : sel i <;> simp [h, ih]
      | test i => simpa using ih
  rw [waitingLoops_eq, waitingLoops_eq, List.filter_append, ← plan, ← queue]
  rfl

theorem dropLoops_tests : queueTests (dropLoops sel s).arb.queue = queueTests s.arb.queue := by
  have queue (q : List QueueEntry) : queueTests (q.filter fun e =>
      match e with
      | .loop i => !sel i
      | .test _ => true) = queueTests q := by
    induction q with
    | nil => rfl
    | cons e q ih =>
      rw [List.filter_cons]
      cases e with
      | loop i => cases h : sel i <;> simp [h, ih]
      | test i => simpa using ih
  exact queue s.arb.queue

end

theorem queueLoops_filter_loops (q : List QueueEntry) : queueLoops (q.filter fun e =>
      match e with
      | .loop _ => true
      | .test _ => false) = queueLoops q
    ∧ queueTests (q.filter fun e =>
      match e with
      | .loop _ => true
      | .test _ => false) = [] := by
  induction q with
  | nil => exact ⟨rfl, rfl⟩
  | cons e q ih =>
    rw [List.filter_cons]
    cases e with
    | loop i => simpa using ih
    | test i => simpa using ih

/-! ## The invariant, but for some loops -/

/-- A loop may wait (R112): enabled, its channel READY and released, its class not OFF, starts being made. -/
def MayWait (s : State) (i : LoopIx) : Prop :=
  (s.loops.get i).cfg.enabled = true ∧ (s.channels.get i).condition = .ready
    ∧ (s.channels.get i).energised = false ∧ (s.loops.get i).cls ≠ .off ∧ s.period.mode.heats = true

/-- The starts are in order, but for the selected loops that wait: an event has changed what lets them wait,
and is about to take them out of the queue and the plan. -/
structure StartsBut (sel : LoopIx → Bool) (s : State) : Prop where
  nodup : (waitingLoops s).Nodup
  waiting : ∀ i ∈ waitingLoops s, sel i = false → MayWait s i
  test : s.period.mode ≠ .stopped → s.test = .idle
  tested : s.period.mode = .stopped → ∀ i, (s.channels.get i).energised = true → ∃ d r, s.test = .active i d r
  entries : queueTests s.arb.queue = s.test.entries
  records : s.period.records.isSome = true ↔ s.period.mode ≠ .stopped

theorem startsSound_iff (s : State) : StartsSound s ↔ StartsBut (fun _ => false) s := by
  constructor
  · rintro ⟨⟨nodup, waits⟩, classed, test, tested, entries, records⟩
    refine ⟨nodup, fun i hi _ => ?_, test, tested, entries, records⟩
    obtain ⟨enabled, ready, released⟩ := waits i hi
    obtain ⟨on, heats⟩ := classed i hi
    exact ⟨enabled, ready, released, on, heats⟩
  · rintro ⟨nodup, waiting, test, tested, entries, records⟩
    refine ⟨⟨nodup, fun i hi => ?_⟩, fun i hi => ?_, test, tested, entries, records⟩
    · obtain ⟨enabled, ready, released, -, -⟩ := waiting i hi rfl
      exact ⟨enabled, ready, released⟩
    · obtain ⟨-, -, -, on, heats⟩ := waiting i hi rfl
      exact ⟨on, heats⟩

/-- What the starts are asked about is alike in two states. -/
structure StartsSame (s t : State) : Prop where
  enabled : ∀ i, (t.loops.get i).cfg.enabled = (s.loops.get i).cfg.enabled
  cls : ∀ i, (t.loops.get i).cls = (s.loops.get i).cls
  condition : ∀ i, (t.channels.get i).condition = (s.channels.get i).condition
  energised : ∀ i, (t.channels.get i).energised = (s.channels.get i).energised
  test : t.test = s.test
  arb : t.arb = s.arb
  mode : t.period.mode = s.period.mode
  records : t.period.records.isSome = s.period.records.isSome

theorem StartsSame.of_eq {s t : State} (loops : t.loops = s.loops) (channels : t.channels = s.channels)
    (test : t.test = s.test) (arb : t.arb = s.arb) (mode : t.period.mode = s.period.mode)
    (records : t.period.records.isSome = s.period.records.isSome) : StartsSame s t where
  enabled i := by rw [loops]
  cls i := by rw [loops]
  condition i := by rw [channels]
  energised i := by rw [channels]
  test := test
  arb := arb
  mode := mode
  records := records

namespace StartsBut

variable {sel : LoopIx → Bool} {s t : State}

theorem congr (h : StartsBut sel s) (same : StartsSame s t) : StartsBut sel t where
  nodup := by
    rw [waitingLoops_eq, same.arb]
    exact h.nodup
  waiting i hi no := by
    rw [waitingLoops_eq, same.arb] at hi
    obtain ⟨enabled, ready, released, on, heats⟩ := h.waiting i hi no
    exact ⟨by rwa [same.enabled], by rwa [same.condition], by rwa [same.energised], by rwa [same.cls],
      by rwa [same.mode]⟩
  test mode := by
    rw [same.test]
    exact h.test (by rwa [← same.mode])
  tested mode i e := by
    rw [same.test]
    exact h.tested (by rwa [← same.mode]) i (by rwa [← same.energised])
  entries := by
    rw [same.arb, same.test]
    exact h.entries
  records := by
    rw [same.records, same.mode]
    exact h.records

/-- In STOPPED no loop waits. -/
theorem none_wait (h : StartsBut (fun _ => false) s) (mode : s.period.mode.heats = false) :
    waitingLoops s = [] := by
  rw [List.eq_nil_iff_forall_not_mem]
  intro i hi
  obtain ⟨-, -, -, -, heats⟩ := h.waiting i hi rfl
  rw [mode] at heats
  cases heats

theorem releaseWhere (h : StartsBut sel s) (some : LoopIx → Bool) : StartsBut sel (releaseWhere some s) := by
  have off (i : LoopIx) (e : ((Machine.releaseWhere some s).channels.get i).energised = true) :
      some i = false ∧ (s.channels.get i).energised = true := by
    rw [releaseWhere_channels] at e
    split at e
    · simp at e
    · next no => exact ⟨by simpa using no, e⟩
  have test : (Machine.releaseWhere some s).test = .idle ∨ (Machine.releaseWhere some s).test = s.test := by
    unfold Machine.releaseWhere
    dsimp only
    split
    · split
      · exact .inl rfl
      · exact .inr rfl
    all_goals exact .inr rfl
  exact {
    nodup := by
      rw [waitingLoops_eq, releaseWhere_arb]
      exact h.nodup
    waiting := fun i hi no => by
      rw [waitingLoops_eq, releaseWhere_arb] at hi
      obtain ⟨enabled, ready, released, on, heats⟩ := h.waiting i hi no
      refine ⟨by simpa, by rwa [releaseWhere_condition], ?_, by simpa, by rwa [releaseWhere_period]⟩
      rw [← Bool.not_eq_true]
      intro e
      rw [(off i e).2] at released
      cases released
    test := fun mode => by
      rw [releaseWhere_period] at mode
      rcases test with e | e
      · exact e
      · rw [e, h.test mode]
    tested := fun mode i e => by
      rw [releaseWhere_period] at mode
      obtain ⟨no, energised⟩ := off i e
      obtain ⟨d, r, active⟩ := h.tested mode i energised
      refine ⟨d, r, ?_⟩
      unfold Machine.releaseWhere
      simp [active, no]
    entries := by
      rw [releaseWhere_arb, h.entries]
      rcases test with e | e
      · rw [e]
        unfold Machine.releaseWhere at e
        cases old : s.test with
        | idle => rfl
        | queued i d => simp [old] at e
        | active i d r => rfl
      · rw [e]
    records := by
      rw [releaseWhere_period]
      exact h.records }

/-- Taking loops out of the queue and the plan makes good what was wrong with them. -/
theorem dropLoops (h : StartsBut sel s) : StartsBut (fun _ => false) (dropLoops sel s) where
  nodup := by
    rw [dropLoops_waiting]
    exact h.nodup.filter _
  waiting i hi _ := by
    rw [dropLoops_waiting, List.mem_filter] at hi
    obtain ⟨enabled, ready, released, on, heats⟩ := h.waiting i hi.1 (by simpa using hi.2)
    exact ⟨by simpa, by simpa, by simpa, by simpa, by simpa⟩
  test mode := by simpa using h.test (by simpa using mode)
  tested mode := by simpa using h.tested (by simpa using mode)
  entries := by
    rw [dropLoops_tests, h.entries]
    simp
  records := by simpa using h.records

theorem weaken (h : StartsBut (fun _ => false) s) (sel : LoopIx → Bool) : StartsBut sel s :=
  { h with waiting := fun i hi _ => h.waiting i hi rfl }

/-- A head granted (R118): a waiting loop in RUNNING or FLUSH, the test of the queue in STOPPED. -/
theorem grantHead (h : StartsBut (fun _ => false) s) : StartsBut (fun _ => false) (grantHead s) := by
  unfold Machine.grantHead
  split
  · exact h
  · next i q queue =>
    have nodup := h.nodup
    rw [waitingLoops_eq, queue, queueLoops_loop, List.nodup_middle, List.nodup_cons] at nodup
    have member : i ∈ waitingLoops s := by simp [waitingLoops_eq, queue]
    obtain ⟨-, -, -, -, heats⟩ := h.waiting i member rfl
    have mode : s.period.mode ≠ .stopped := by
      intro e
      rw [e] at heats
      cases heats
    have idle := h.test mode
    have entries := h.entries
    rw [queue, queueTests_loop] at entries
    exact {
      nodup := nodup.2
      waiting := fun j hj _ => by
        have ne : j ≠ i := fun e => nodup.1 (e ▸ hj)
        have old : j ∈ waitingLoops s := by
          simp only [waitingLoops_eq, queue, queueLoops_loop, List.mem_append, List.mem_cons]
          exact (List.mem_append.mp hj).imp id .inr
        have may := h.waiting j old rfl
        unfold MayWait at may ⊢
        simpa [updateRecord, Bank.get_set_ne _ _ ne] using may
      test := fun _ => idle
      tested := fun no => absurd no mode
      entries := entries
      records := by simpa [updateRecord] using h.records }
  · next i q queue =>
    have entries := h.entries
    rw [queue, queueTests_test] at entries
    have stopped : s.period.mode = .stopped := by
      by_contra no
      rw [h.test no] at entries
      cases entries
    have none := h.none_wait (by rw [stopped]; rfl)
    rw [waitingLoops_eq, queue, queueLoops_test] at none
    cases test : s.test with
    | idle => simp [test, ChannelTest.entries] at entries
    | active j d r => simp [test, ChannelTest.entries] at entries
    | queued j d =>
      rw [test] at entries
      obtain ⟨rfl, rest⟩ := List.cons.inj entries
      exact {
        nodup := by
          rw [waitingLoops_eq]
          exact none ▸ List.nodup_nil
        waiting := fun k hk => by
          rw [waitingLoops_eq] at hk
          exact absurd (none ▸ hk : k ∈ []) List.not_mem_nil
        test := fun no => absurd stopped no
        tested := fun _ k e => by
          by_cases ki : k = i
          · exact ⟨d, d, by rw [ki]; rfl⟩
          · have old : (s.channels.get k).energised = true := by
              simpa [Bank.get_set_ne _ _ ki] using e
            obtain ⟨d', r, active⟩ := h.tested stopped k old
            rw [test] at active
            cases active
        entries := rest
        records := h.records }

theorem grantsUpTo (h : StartsBut (fun _ => false) s) (n : Nat) : StartsBut (fun _ => false) (grantsUpTo n s) := by
  induction n generalizing s with
  | zero => exact h
  | succ n ih =>
    unfold Machine.grantsUpTo
    split
    · exact ih h.grantHead
    · exact h

theorem opportunity (h : StartsBut (fun _ => false) s) : StartsBut (fun _ => false) (opportunity s) :=
  h.grantsUpTo _

theorem releaseAndOffer (h : StartsBut (fun _ => false) s) (some : LoopIx → Bool) :
    StartsBut (fun _ => false) (releaseAndOffer some s) := by
  unfold Machine.releaseAndOffer
  split
  · exact (h.releaseWhere some).opportunity
  · exact h

/-- The class of loops that do not wait is not asked about. -/
theorem closeLoops (h : StartsBut sel s) : StartsBut (fun _ => false) (closeLoops sel s) := by
  have dropped := h.dropLoops
  refine StartsBut.releaseAndOffer (s := classOff sel (Machine.dropLoops sel s)) ?_ sel
  exact { dropped with
    waiting := fun i hi no => by
      have kept : sel i = false := by
        have := (List.mem_filter.mp (dropLoops_waiting sel s ▸ hi)).2
        simpa using this
      have may := dropped.waiting i hi no
      unfold MayWait at may ⊢
      simpa [classOff_loops, kept] using may }

theorem endTest (h : StartsBut sel s) : StartsBut sel (endTest s) := by
  unfold Machine.endTest
  split
  · exact h
  · next i d test =>
    have stopped : s.period.mode = .stopped := by
      by_contra no
      rw [h.test no] at test
      cases test
    obtain ⟨loops, tests⟩ := queueLoops_filter_loops s.arb.queue
    exact {
      nodup := by
        have nodup := h.nodup
        rw [waitingLoops_eq, ← loops] at nodup
        exact nodup
      waiting := fun j hj => h.waiting j (by
        rw [waitingLoops_eq, ← loops]
        exact hj)
      test := fun _ => rfl
      tested := fun mode j e => by
        obtain ⟨d', r, active⟩ := h.tested mode j e
        rw [test] at active
        cases active
      entries := tests
      records := h.records }
  · next i d r test =>
    have released := h.releaseWhere fun j => j = i
    exact { released with
      test := fun _ => rfl
      tested := fun mode j e => by
        obtain ⟨d', r', active⟩ := released.tested mode j e
        have same : j = i := by
          rw [State.setTest_period, releaseWhere_period] at mode
          have old : (s.channels.get j).energised = true := by
            rw [State.setTest_channels, releaseWhere_channels] at e
            split at e
            · simp at e
            · exact e
          obtain ⟨_, _, active'⟩ := h.tested mode j old
          rw [test] at active'
          exact (ChannelTest.active.inj active').1.symm
        simp [same] at e
      entries := by
        rw [State.setTest_arb, State.setTest_test, releaseWhere_arb, h.entries, test]
        rfl }

theorem endTestOn (h : StartsBut sel s) (i : LoopIx) : StartsBut sel (endTestOn i s) := by
  unfold Machine.endTestOn
  split
  · exact h
  all_goals
    split
    · exact h.endTest
    · exact h

theorem updateRecords (h : StartsBut sel s) (f : LoopIx → PeriodRecord → PeriodRecord) :
    StartsBut sel (updateRecords f s) :=
  h.congr (.of_eq rfl rfl rfl rfl rfl (by simp [Machine.updateRecords]))

theorem demandDrop (h : StartsBut (fun _ => false) s) (rooms : RoomIx → Bool) :
    StartsBut (fun _ => false) (demandDrop rooms s) := by
  unfold Machine.demandDrop
  split
  · exact closeLoops ((h.updateRecords _).weaken _)
  · exact h

theorem reportDrops (h : StartsBut (fun _ => false) s) (rooms : RoomIx → Bool) :
    StartsBut (fun _ => false) (reportDrops rooms s) := by
  have held : StartsBut (fun _ => false) (holdDrops (fun r => rooms r && dropWaits s r) s) :=
    h.congr (.of_eq rfl rfl rfl rfl rfl rfl)
  have dropped := held.demandDrop fun r => rooms r && !dropWaits s r
  unfold Machine.reportDrops
  dsimp only
  split
  · exact dropped.congr (.of_eq rfl rfl rfl rfl rfl rfl)
  · exact dropped

theorem disableLoop {i : LoopIx} (h : StartsBut (fun j => j = i) s) :
    StartsBut (fun _ => false) (disableLoop i s) := by
  unfold Machine.disableLoop
  refine closeLoops (endTestOn ?_ i)
  split
  · exact h.updateRecords _
  · exact h

theorem faultChannel (h : StartsBut (fun _ => false) s) (i : LoopIx) (c : Condition) :
    StartsBut (fun _ => false) (faultChannel i c s) := by
  unfold Machine.faultChannel
  refine releaseAndOffer (dropLoops ?_) _
  have energised (j : LoopIx) :
      ((s.channels.set i { s.channels.get i with condition := c }).get j).energised =
        (s.channels.get j).energised := by
    rw [Bank.get_set]
    split
    · next e => rw [e]
    · rfl
  exact { h with
    waiting := fun j hj no => by
      have ne : j ≠ i := by simpa using no
      have may := h.waiting j hj rfl
      unfold MayWait at may ⊢
      simpa [Bank.get_set_ne _ _ ne] using may
    tested := fun mode j e => h.tested mode j (by
      rw [← energised]
      exact e) }

end StartsBut

end Sys2Proof.Machine

/-! Every step keeps queue, plan and channel test sound (R112, R118, R20, R66). -/

namespace Sys2Proof.Machine

theorem releaseWhere_test_idle {s : State} (h : s.test = .idle) (sel : LoopIx → Bool) :
    (releaseWhere sel s).test = .idle := by
  unfold releaseWhere
  simp [h]

theorem closeOut_test_idle {s : State} (h : s.test = .idle) : (closeOut s).test = .idle := by
  unfold closeOut
  dsimp only
  exact releaseWhere_test_idle (by simpa using h) _

@[simp] theorem endTest_test (s : State) : (endTest s).test = .idle := by
  unfold endTest
  split
  · next e => exact e
  · rfl
  · rfl

@[simp] theorem closeOut_queue (s : State) : (closeOut s).arb.queue = [] := by
  simp [closeOut, clearStarts]

@[simp] theorem closeOut_plan (s : State) : (closeOut s).arb.plan = [] := by
  simp [closeOut, clearStarts]

/-! ## Time -/

section
variable (n k : Nat) (s : State)

/-- The whole seconds that `n` milliseconds complete (log 2). -/
def secondsOf : Nat := (s.msPhase + n) / 1000

@[simp] theorem elapseMs_channels : (elapseMs n s).channels =
    s.channels.imap fun _ c => c.elapse (secondsOf n s) (periodSeconds (secondsOf n s) s.period) := rfl
@[simp] theorem elapseMs_test : (elapseMs n s).test = s.test.elapse (secondsOf n s) := rfl
@[simp] theorem elapseMs_rooms : (elapseMs n s).rooms = s.rooms.imap fun _ r => r.elapse (secondsOf n s) := rfl
@[simp] theorem elapseMs_seg :
    (elapseMs n s).seg = { s.seg with pollTimer := s.seg.pollTimer - secondsOf n s } := rfl
@[simp] theorem elapseMs_period : (elapseMs n s).period = s.period.elapse (secondsOf n s) := rfl
@[simp] theorem elapseMs_arb : (elapseMs n s).arb =
    { s.arb with sinceGrant := s.arb.sinceGrant.map fun t => saturate Config.count16 t (secondsOf n s) } := rfl
@[simp] theorem elapseMs_supply : (elapseMs n s).supply =
    { s.supply with holdTimer := s.supply.holdTimer.map (· - secondsOf n s) } := rfl
@[simp] theorem elapseMs_store :
    (elapseMs n s).store = { s.store with saveLeft := s.store.saveLeft - secondsOf n s } := rfl
@[simp] theorem elapseMs_house :
    (elapseMs n s).house = { s.house with timeout := s.house.timeout.map (· - n) } := rfl
@[simp] theorem elapseMs_msPhase : (elapseMs n s).msPhase = (s.msPhase + n) % 1000 := rfl

end

section
variable (k d : Nat) (p : PeriodEngine) (c : Channel)

@[simp] theorem PeriodEngine.elapse_mode : (p.elapse k).mode = p.mode := rfl
@[simp] theorem PeriodEngine.elapse_eff : (p.elapse k).eff = p.eff := rfl
@[simp] theorem PeriodEngine.elapse_flushDue : (p.elapse k).flushDue = p.flushDue := rfl
@[simp] theorem PeriodEngine.elapse_records : (p.elapse k).records = p.records := rfl
@[simp] theorem PeriodEngine.elapse_summary : (p.elapse k).summary = p.summary := rfl
@[simp] theorem PeriodEngine.elapse_lastTick : (p.elapse k).lastTick = p.lastTick := rfl
@[simp] theorem PeriodEngine.elapse_drops : (p.elapse k).drops = p.drops := rfl
@[simp] theorem Channel.elapse_energised : (c.elapse k d).energised = c.energised := rfl
@[simp] theorem Channel.elapse_condition : (c.elapse k d).condition = c.condition := rfl
@[simp] theorem Channel.elapse_closeTime : (c.elapse k d).closeTime = c.closeTime := rfl

end

namespace StartsBut

variable {s t : State}

/-- Nothing waits, no test stands, and the period's records are there. -/
structure Cleared (s : State) : Prop where
  queue : s.arb.queue = []
  plan : s.arb.plan = []
  test : s.test = .idle
  mode : s.period.mode ≠ .stopped

theorem Cleared.congr (h : Cleared s) (arb : t.arb = s.arb) (test : t.test = s.test)
    (mode : t.period.mode = s.period.mode) : Cleared t where
  queue := by rw [arb, h.queue]
  plan := by rw [arb, h.plan]
  test := by rw [test, h.test]
  mode := by rw [mode]; exact h.mode

theorem Cleared.sound (h : Cleared s) (records : s.period.records.isSome = true) :
    StartsBut (fun _ => false) s where
  nodup := by simp [waitingLoops_eq, h.queue, h.plan]
  waiting i hi := by simp [waitingLoops_eq, h.queue, h.plan] at hi
  test _ := h.test
  tested mode := absurd mode h.mode
  entries := by rw [h.queue, h.test]; rfl
  records := iff_of_true records h.mode

theorem Cleared.releaseWhere (h : Cleared s) (sel : LoopIx → Bool) : Cleared (Machine.releaseWhere sel s) where
  queue := by rw [releaseWhere_arb, h.queue]
  plan := by rw [releaseWhere_arb, h.plan]
  test := releaseWhere_test_idle h.test sel
  mode := by rw [releaseWhere_period]; exact h.mode

/-- Due entries that join leave the loops that wait as they are, the queue empty before (R110). -/
theorem joinDue_waiting (queue : s.arb.queue = []) :
    (waitingLoops (joinDue s)).Perm (s.arb.plan.map PlanEntry.loop) := by
  have joined (p : List PlanEntry) : queueLoops (p.map fun e => .loop e.loop) = p.map PlanEntry.loop := by
    rw [← queueLoops_map (p.map PlanEntry.loop), List.map_map]
    rfl
  rw [waitingLoops_eq]
  simp only [joinDue, State.setArb_arb, queue, List.nil_append, joined, ← List.map_append]
  refine List.Perm.map _ (List.perm_append_comm.trans ?_)
  exact List.filter_append_perm _ _

theorem joinDue_tests (queue : s.arb.queue = []) : queueTests (joinDue s).arb.queue = [] := by
  simp only [joinDue, State.setArb_arb, queue, List.nil_append]
  rw [show (fun e : PlanEntry => QueueEntry.loop e.loop) = QueueEntry.loop ∘ PlanEntry.loop from rfl,
    ← List.map_map, queueTests_map]

/-- Stages 4 to 8 put into the plan only loops that may wait (R76). -/
theorem planPeriod {v : Variant} (h : Cleared s) (mode : v = .noPass ∨ s.period.mode.heats = true) :
    StartsBut (fun _ => false) (planPeriod v s) := by
  have off (no : v = .noPass) (i : LoopIx) := congrArg Loop.cls (stageLatch_loops v s i)
  unfold Machine.planPeriod newPeriod
  dsimp only
  have latched : Cleared (stageLatch v (Bank.ofFn fun i => hold v s i)
      (stagePass v (Bank.ofFn fun i => hold v s i) s)) := h.congr (by simp) (by simp) (by simp)
  have latchedMode : (stageLatch v (Bank.ofFn fun i => hold v s i)
      (stagePass v (Bank.ofFn fun i => hold v s i) s)).period.mode = s.period.mode := by simp
  generalize stageLatch v _ _ = u at latched off latchedMode
  have carried : Cleared (carryOver u) := latched.releaseWhere _
  have heats (i : LoopIx) (on : ((carryOver u).loops.get i).cls ≠ .off) : u.period.mode.heats = true := by
    rcases mode with no | heats
    · refine absurd ?_ on
      subst no
      simpa [Loop.withPass, planned] using off rfl i
    · rwa [latchedMode]
  have perm := joinDue_waiting (s := openPeriod (buildPlan (carryOver u))) (by simp [buildPlan, setPlan, latched.queue])
  have plan : (openPeriod (buildPlan (carryOver u))).arb.plan.map PlanEntry.loop = planOrder (carryOver u) := by
    simp [buildPlan, setPlan]
  rw [plan] at perm
  refine StartsBut.opportunity {
    nodup := perm.nodup_iff.mpr (planOrder_nodup _)
    waiting := fun i hi _ => ?_
    test := fun _ => by simpa using carried.test
    tested := fun stopped => absurd (by simpa [openPeriod] using stopped) latched.mode
    entries := by
      rw [joinDue_tests (by simp [buildPlan, setPlan, latched.queue])]
      simp [carried.test, ChannelTest.entries]
    records := iff_of_true (by simp [openPeriod]) (by simpa [openPeriod] using latched.mode) }
  rw [perm.mem_iff, mem_planOrder] at hi
  obtain ⟨part, released, on⟩ := hi
  simp only [takesPart, Bool.and_eq_true, decide_eq_true_eq] at part
  refine ⟨by simpa using part.1, by simpa [openPeriod] using part.2, by simpa [openPeriod] using released,
    by simpa using on, ?_⟩
  simpa [openPeriod] using heats i on

theorem Cleared.closeOut (test : s.test = .idle) (mode : s.period.mode ≠ .stopped) :
    Cleared (Machine.closeOut s) :=
  ⟨closeOut_queue s, closeOut_plan s, closeOut_test_idle test, by rwa [(closeOut_period s).mode]⟩

/-- A forced boundary into RUNNING or FLUSH, the channel test ended before it. -/
theorem forcedBoundary {m : Mode} (test : s.test = .idle) (new : m.heats = true) :
    StartsBut (fun _ => false) (forcedBoundary m s) := by
  have stopped : m ≠ .stopped := by
    intro e
    rw [e] at new
    cases new
  have entered : Cleared (forcedClose m s) := by
    unfold forcedClose
    split
    all_goals exact ⟨closeOut_queue s, closeOut_plan s, closeOut_test_idle test, stopped⟩
  rw [forcedBoundary_eq]
  exact planPeriod entered (.inr (by rw [(forcedClose_period m s).mode]; exact new))

theorem detectOverheat (h : StartsBut (fun _ => false) s) (mode : s.period.mode ≠ .stopped) :
    StartsBut (fun _ => false) (detectOverheat s) := by
  have test : (Machine.detectOverheat s).test = .idle := by
    unfold Machine.detectOverheat
    simp only [State.setSupply_test]
    exact releaseWhere_test_idle (by simpa using h.test mode) _
  refine Cleared.sound ⟨by simp [Machine.detectOverheat, clearStarts],
    by simp [Machine.detectOverheat, clearStarts], test,
    by simp [Machine.detectOverheat, setMode, stopFlush]⟩ ?_
  simpa [Machine.detectOverheat, setMode, stopFlush] using h.records.mpr mode

theorem accumulate (h : StartsBut (fun _ => false) s) : StartsBut (fun _ => false) (accumulate s) := by
  have loop (i : LoopIx) : ((Machine.accumulate s).loops.get i).cfg = (s.loops.get i).cfg
      ∧ ((Machine.accumulate s).loops.get i).cls = (s.loops.get i).cls := by
    rw [accumulate_loops]
    split <;> exact ⟨rfl, rfl⟩
  exact h.congr {
    enabled := fun i => by rw [(loop i).1]
    cls := fun i => (loop i).2
    condition := fun i => rfl
    energised := fun i => rfl
    test := rfl
    arb := rfl
    mode := rfl
    records := rfl }

theorem plainTick (h : StartsBut (fun _ => false) s) : StartsBut (fun _ => false) (plainTick s) := by
  have added := h.accumulate
  unfold Machine.plainTick supplyCheck
  split
  · next mode =>
    split
    · exact added.detectOverheat (by simp [mode])
    · exact added
  · next mode =>
    split
    · exact added.detectOverheat (by simp [mode])
    · exact added
  · exact added.congr (.of_eq rfl rfl rfl rfl rfl rfl)
  · exact added

theorem plainTick_runs (runs : s.period.mode ≠ .stopped) : (Machine.plainTick s).period.mode ≠ .stopped := by
  have added : (Machine.accumulate s).period.mode ≠ .stopped := runs
  unfold Machine.plainTick supplyCheck
  split
  · split
    · simp [Machine.detectOverheat, setMode, stopFlush]
    · exact added
  · split
    · simp [Machine.detectOverheat, setMode, stopFlush]
    · exact added
  · exact added
  · exact added

theorem tick (h : StartsBut (fun _ => false) s) : StartsBut (fun _ => false) (tick s) := by
  unfold Machine.tick
  dsimp only
  split
  · next ends =>
    simp only [flushEnds, Bool.and_eq_true, decide_eq_true_eq] at ends
    have runs : s.period.mode ≠ .stopped := by simp [ends.1.1]
    have ended : StartsBut (fun _ => false) (Machine.forcedBoundary .running (stopFlush (Machine.accumulate s))) :=
      forcedBoundary (h.test runs) rfl
    split
    · split
      · exact ended.detectOverheat (by simp)
      · exact ended
    · split
      · exact h.plainTick
      · exact forcedBoundary (h.plainTick.test (plainTick_runs runs)) rfl
  · exact h.plainTick

theorem takeTicks (h : StartsBut (fun _ => false) s) (n : Nat) : StartsBut (fun _ => false) (takeTicks n s) := by
  induction n generalizing s with
  | zero => exact h
  | succ n ih =>
    unfold Machine.takeTicks
    split
    · exact ih h.tick
    · exact h

theorem boundaryAfterTick (h : StartsBut (fun _ => false) s) (mode : s.period.mode ≠ .stopped) (ending : Bool) :
    StartsBut (fun _ => false) (boundaryAfterTick ending s) := by
  have closed : Cleared (closePeriod s) := (Cleared.closeOut (h.test mode) mode).congr rfl rfl rfl
  have report {u : State} (k : StartsBut (fun _ => false) u) : StartsBut (fun _ => false) (passReport u) :=
    k.congr (.of_eq (by simp) (by simp) (by simp) (by simp) (by simp) (by simp))
  unfold Machine.boundaryAfterTick
  split
  · split
    · refine report (planPeriod (.mk ?_ ?_ ?_ ?_) (.inr rfl))
      · exact closed.queue
      · exact closed.plan
      · exact closed.test
      · simp [setMode]
    · exact planPeriod closed (.inl rfl)
  · next flush =>
    split
    · refine planPeriod (.mk ?_ ?_ ?_ ?_) (.inr rfl)
      · exact closed.queue
      · exact closed.plan
      · exact closed.test
      · simp [setMode]
    · exact planPeriod closed (.inr (by rw [closePeriod_mode, flush]; rfl))
  · next running => exact report (planPeriod closed (.inr (by rw [closePeriod_mode, running]; rfl)))
  · next stopped => exact absurd stopped mode

theorem regularBoundary (h : StartsBut (fun _ => false) s) : StartsBut (fun _ => false) (regularBoundary s) := by
  have ticked := h.takeTicks (ticksOwed s)
  unfold Machine.regularBoundary
  dsimp only
  split
  · next due =>
    have runs : (Machine.takeTicks (ticksOwed s) s).period.mode ≠ .stopped := by
      intro e
      simp [boundaryDue, e, Mode.runs] at due
    have aged : StartsBut (fun _ => false) (expireAges (Machine.takeTicks (ticksOwed s) s)) := by
      apply reportDrops
      exact ticked.congr (.of_eq rfl rfl rfl rfl rfl rfl)
    have agedRuns : (expireAges (Machine.takeTicks (ticksOwed s) s)).period.mode ≠ .stopped := by
      have same : PumpKept (Machine.takeTicks (ticksOwed s) s) (expireAges (Machine.takeTicks (ticksOwed s) s)) :=
        .changeRooms _ _
      rwa [same.mode]
    exact demandDrop (aged.plainTick.boundaryAfterTick (plainTick_runs agedRuns) _) _
  · exact ticked

theorem setRun (h : StartsBut (fun _ => false) s) : StartsBut (fun _ => false) (setRun s).2 := by
  unfold Machine.setRun
  split
  · split
    · exact forcedBoundary (endTest_test s) rfl
    · exact h
  · exact h
  · next mode =>
    split
    · exact forcedBoundary (h.test (by simp [mode])) rfl
    · exact h
  · exact h

theorem setFlush (h : StartsBut (fun _ => false) s) : StartsBut (fun _ => false) (setFlush s).2 := by
  have started {u : State} (k : StartsBut (fun _ => false) u) : StartsBut (fun _ => false) (startFlush u) :=
    k.congr (.of_eq rfl rfl rfl rfl rfl rfl)
  unfold Machine.setFlush
  split
  · exact started (forcedBoundary (endTest_test s) rfl)
  · next mode => exact started (forcedBoundary (h.test (by simp [mode])) rfl)
  · exact started h
  · exact h

/-- A state in STOPPED with nothing energised and nothing waiting. -/
theorem of_stopped (mode : s.period.mode = .stopped) (released : ∀ i, (s.channels.get i).energised = false)
    (queue : s.arb.queue = []) (plan : s.arb.plan = []) (test : s.test = .idle)
    (records : s.period.records = none) : StartsBut (fun _ => false) s where
  nodup := by simp [waitingLoops_eq, queue, plan]
  waiting i hi := by simp [waitingLoops_eq, queue, plan] at hi
  test _ := test
  tested _ i e := by simp [released i] at e
  entries := by rw [queue, test]; rfl
  records := by simp [records, mode]

theorem stopManifold (s : State) : StartsBut (fun _ => false) (stopManifold s) := by
  unfold Machine.stopManifold
  dsimp only
  refine of_stopped rfl (fun i => ?_) ?_ ?_ ?_ rfl
  · split <;> simp
  · split <;> simp [clearStarts]
  · split <;> simp [clearStarts]
  · split <;> exact releaseWhere_test_idle rfl _

theorem resetBlocks (s : State) : StartsBut (fun _ => false) (resetBlocks s) :=
  of_stopped rfl (fun i => by simp [Machine.resetBlocks, Channel.afterReset]) rfl rfl rfl rfl

theorem autorun (h : StartsBut (fun _ => false) s) (test : s.test = .idle) :
    StartsBut (fun _ => false) (autorun s) := by
  unfold Machine.autorun
  split
  · exact forcedBoundary test rfl
  · exact h

theorem elapseMs (h : StartsBut (fun _ => false) s) (n : Nat) :
    StartsBut (fun _ => false) (elapseMs n s) where
  nodup := by simpa [waitingLoops_eq] using h.nodup
  waiting i hi no := by
    obtain ⟨enabled, ready, released, on, heats⟩ :=
      h.waiting i (by simpa [waitingLoops_eq] using hi) no
    exact ⟨by simpa, by simpa, by simpa, by simpa, by simpa⟩
  test mode := by
    rw [elapseMs_test, h.test (by simpa using mode)]
    rfl
  tested mode i e := by
    obtain ⟨d, r, active⟩ := h.tested (by simpa using mode) i (by simpa using e)
    exact ⟨d, r - secondsOf n s, by rw [elapseMs_test, active]; rfl⟩
  entries := by
    rw [elapseMs_arb, elapseMs_test, h.entries]
    cases s.test <;> rfl
  records := by simpa using h.records

/-- A loop record written (R3): a loop that stays enabled may go on waiting, one that does not is disabled. -/
theorem writeLoop (h : StartsBut (fun _ => false) s) (i : LoopIx) (c : LoopConfig) (unity : Bool) :
    StartsBut (fun _ => false) (writeLoopRecord i c unity s) := by
  unfold writeLoopRecord
  dsimp only
  split
  · refine disableLoop { h with waiting := fun j hj no => ?_ }
    have ne : j ≠ i := by simpa using no
    have may := h.waiting j hj rfl
    unfold MayWait at may ⊢
    simpa [Bank.get_set_ne _ _ ne] using may
  · next stays =>
    refine { h with waiting := fun j hj no => ?_ }
    have may := h.waiting j hj no
    unfold MayWait at may ⊢
    by_cases ji : j = i
    · subst ji
      have enabled : c.enabled = true := by simpa [may.1] using stays
      simpa [enabled] using may.2
    · simpa [Bank.get_set_ne _ _ ji] using may

/-- A test queued in STOPPED (R18), where nothing else waits or is energised. -/
theorem queueTest (h : StartsBut (fun _ => false) s) (i : LoopIx) (d : Nat)
    (mode : s.period.mode = .stopped) (test : s.test = .idle) :
    StartsBut (fun _ => false) (queueTest i d s) := by
  have none := h.none_wait (by rw [mode]; rfl)
  have entries := h.entries
  rw [test] at entries
  unfold Machine.queueTest
  refine StartsBut.opportunity {
    nodup := ?_
    waiting := fun j hj no => ?_
    test := fun no => absurd mode no
    tested := fun _ j e => ?_
    entries := ?_
    records := h.records }
  · rw [waitingLoops_eq] at none ⊢
    simp [setQueue, none]
  · rw [waitingLoops_eq] at none hj
    simp [setQueue, none] at hj
  · obtain ⟨d', r, active⟩ := h.tested mode j e
    rw [test] at active
    cases active
  · simp [setQueue, entries, ChannelTest.entries]

/-- The first plan entry joins the queue (R110). -/
theorem joinFirst (h : StartsBut (fun _ => false) s) : StartsBut (fun _ => false) (joinFirst s) := by
  unfold Machine.joinFirst
  split
  · exact h
  · next e rest plan =>
    have perm : (waitingLoops (s.setArb { s.arb with plan := rest, queue := s.arb.queue ++ [.loop e.loop] })).Perm
        (waitingLoops s) := by
      simp only [waitingLoops_eq, State.setArb_arb, plan, queueLoops_append, List.map_cons]
      rw [← List.append_assoc]
      exact List.perm_append_comm
    exact StartsBut.opportunity {
      nodup := perm.nodup_iff.mpr h.nodup
      waiting := fun j hj no => h.waiting j (perm.mem_iff.mp hj) no
      test := h.test
      tested := h.tested
      entries := by simpa using h.entries
      records := h.records }

/-- The duration of a test runs out (R19): in STOPPED, the queue empty. -/
theorem finishTest (h : StartsBut (fun _ => false) s) : StartsBut (fun _ => false) (finishTest s) := by
  unfold Machine.finishTest
  split
  · next i d r test =>
    have mode : s.period.mode = .stopped := by
      by_contra no
      rw [h.test no] at test
      cases test
    have none := h.none_wait (by rw [mode]; rfl)
    rw [waitingLoops_eq, List.append_eq_nil_iff] at none
    have entries := h.entries
    rw [test] at entries
    have empty : s.arb.queue = [] := queue_eq_nil none.2 entries
    have ended : Machine.endTest s = (releaseOne i s).setTest .idle := by
      unfold Machine.endTest releaseOne
      rw [releaseAndOffer_of_empty _ empty, test]
    rw [← ended]
    exact h.endTest
  · exact h
  · exact h

/-- The sense input read at a load check (R11). -/
theorem checkLoad (h : StartsBut (fun _ => false) s) (i : LoopIx) (load : Bool) :
    StartsBut (fun _ => false) (checkLoad i load s) := by
  unfold Machine.checkLoad
  dsimp only
  split
  · exact { h with
      waiting := fun j hj no => by
        have may := h.waiting j hj no
        unfold MayWait at may ⊢
        by_cases ji : j = i
        · subst ji
          simpa [may.2.1] using may
        · simpa [Bank.get_set_ne _ _ ji] using may
      tested := fun mode j e => h.tested mode j (by
        by_cases ji : j = i
        · subst ji
          simpa using e
        · simpa [Bank.get_set_ne _ _ ji] using e) }
  · exact h.faultChannel i _

/-- The condition, the drive and the energised flag of one channel written alike. -/
theorem setValve (h : StartsBut (fun _ => false) s) (i : LoopIx) (v : Valve) :
    StartsBut (fun _ => false) (putChannel i { s.channels.get i with valve := v } s) := by
  refine h.congr {
    enabled := fun _ => rfl
    cls := fun _ => rfl
    condition := fun j => ?_
    energised := fun j => ?_
    test := rfl
    arb := rfl
    mode := rfl
    records := rfl }
  all_goals
    rw [putChannel_channels, Bank.get_set]
    split
    · next e => rw [e]
    · rfl

end StartsBut

theorem startsBut_stepInvariant : StepInvariant (StartsBut fun _ => false) where
  congr same h := h.congr (.of_eq same.loops same.channels same.test same.arb (by rw [same.period])
    (by rw [same.period]))
  elapseMs n h := h.elapseMs n
  reportDrops rooms h := h.reportDrops rooms
  writeLoop i c unity _ h := h.writeLoop i _ unity
  writeRoom {s} r c _ h := by
    unfold writeRoomRecord changeRoom changeRooms
    refine StartsBut.reportDrops (h.congr ?_) _
    split <;> exact .of_eq (by simp) (by simp) (by simp) (by simp) (by simp) (by simp)
  writeGroup1 p h := by
    unfold writeGroup1
    dsimp only
    split
    · split <;> exact h.congr (.of_eq rfl rfl rfl rfl rfl rfl)
    · exact h
  seed h := h.congr {
    enabled := fun i => by simp [seededLoops]
    cls := fun i => by simp [seededLoops]
    condition := fun _ => rfl
    energised := fun _ => rfl
    test := rfl
    arb := rfl
    mode := rfl
    records := rfl }
  stop _ := .stopManifold _
  run h := h.setRun
  flush h := h.setFlush
  clear {s} sel h := by
    have energised (i : LoopIx) : ((s.channels.imap fun i c => if sel i then c.cleared else c).get i).energised =
        (s.channels.get i).energised := by
      rw [Bank.get_imap]
      split <;> rfl
    exact { h with
      waiting := fun i hi no => by
        obtain ⟨enabled, ready, released, on, heats⟩ := h.waiting i hi no
        refine ⟨enabled, ?_, (energised i).trans released, on, heats⟩
        rw [State.setChannels_channels, Bank.get_imap]
        split
        · rfl
        · exact ready
      tested := fun mode i e => h.tested mode i ((energised i).symm.trans e) }
  queueTest i d mode test h := h.queueTest i d mode test
  beginSave _ h := h.congr (.of_eq (by simp) (by simp) (by simp) (by simp) (by simp) (by simp))
  restart {s} scope _ _ := .autorun ((StartsBut.resetBlocks (restartTables scope s)).congr
    (.of_eq (by simp) (by simp) (by simp) (by simp) (by simp) (by simp))) (by simp [resetBlocks])
  tick _ h := h.tick
  regularBoundary _ h := h.regularBoundary
  markFlushDue _ h := h.congr (.of_eq rfl rfl rfl rfl rfl rfl)
  joinFirst _ h := h.joinFirst
  opportunity h := h.opportunity
  releaseOne i h := h.releaseAndOffer _
  checkLoad i load _ h := h.checkLoad i load
  tripChannel i h := by
    unfold tripChannel
    split
    · exact h.faultChannel i _
    · exact h
  finishOpening i _ h := h.setValve i _
  finishClosing i _ h := h.setValve i _
  finishTest _ h := h.finishTest
  finishHold _ h := h.congr (.of_eq rfl rfl rfl rfl rfl rfl)
  completeSave h := h.congr (.of_eq (by simp) (by simp) (by simp) (by simp) (by simp) (by simp))
  powerUp {s} straps _ := .autorun ((StartsBut.resetBlocks (loadImage (cutSave s))).congr
    (.of_eq (by simp) (by simp) (by simp) (by simp) (by simp) (by simp))) (by simp [resetBlocks])
  losePower _ := .of_stopped rfl (fun i => by simp [losePower, Channel.afterReset]) rfl rfl rfl rfl

/-- Settles O58: the starts stay in order through every step. -/
theorem stepsKeepStartsSound : Obligations.StepsKeepStartsSound := by
  intro s t stepped sound
  rw [startsSound_iff] at sound ⊢
  exact startsBut_stepInvariant.step stepped sound

end Sys2Proof.Machine

/-! Frames at the own address: refused SENDs, the owner's decision, unknown kinds, and FETCHes (R142, R144,
R145, R154). -/

namespace Sys2Proof.Machine

/-! ## The record of a refusal -/

/-- A frame refused with its error counted and its result recorded is the House Port of R144 and R146. -/
theorem recordResult_countError_eq_afterRefusal (bytes : List Byte) (r : Result) (kind : Byte) (m : Mark)
    (s : State) :
    recordResult r kind (countError (closeExchange (refusedBytes bytes) m s)) =
      { s with house := s.house.afterRefusal bytes r kind m } := rfl

theorem closeExchange_refused (bytes : List Byte) (m : Mark) (s : State) :
    closeExchange (refusedBytes bytes) m s = { s with house := s.house.ignoringAfter bytes m } := rfl

/-! ## SEND -/

section
variable (k : SendKind) (owner : Owner) (m : Mark) {s : State} (held : s.house.held = false)
include held

theorem ownSend_nil : ownSend k owner { bytes := [], mark := m } s =
    closeExchange (takenBytes [headerByte s.house.own false, k.code] .own) m s := by
  simp [ownSend, held]

theorem ownSend_badLength {len : Byte} (bad : len.toNat ∉ k.lengths) (rest : List Byte) :
    ownSend k owner { bytes := len :: rest, mark := m } s =
      { s with house :=
          s.house.afterRefusal [headerByte s.house.own false, k.code, len] .refusedLength k.code m } := by
  simp only [ownSend, held, bad, List.contains_eq_mem, decide_false, Bool.not_false,
    Bool.false_eq_true, if_false, if_true]
  exact recordResult_countError_eq_afterRefusal _ _ _ _ _

theorem ownSend_cutOff {len : Byte} (good : len.toNat ∈ k.lengths) {rest : List Byte}
    (short : rest.length ≤ len.toNat) :
    ownSend k owner { bytes := len :: rest, mark := m } s =
      closeExchange (takenBytes ([headerByte s.house.own false, k.code] ++ len :: rest) .own) m s := by
  simp [ownSend, held, good, List.drop_of_length_le short, List.take_of_length_le short]

/-- The two tests at the check byte (R144). -/
theorem ownSend_checked {len check : Byte} (good : len.toNat ∈ k.lengths) {rest more : List Byte}
    (whole : rest.drop len.toNat = check :: more) :
    let bytes := [headerByte s.house.own false, k.code, len] ++ rest.take len.toNat ++ [check]
    (sum8 bytes ≠ 0 → ownSend k owner { bytes := len :: rest, mark := m } s =
      { s with house := s.house.afterRefusal bytes .checkFailed k.code m })
    ∧ (sum8 bytes = 0 → k.lengthAgrees (rest.take len.toNat) = false →
      ownSend k owner { bytes := len :: rest, mark := m } s =
        { s with house := s.house.afterRefusal bytes .refusedLength k.code m }) := by
  intro bytes
  have shape : [headerByte s.house.own false, k.code] ++ len :: rest.take len.toNat ++ [check] = bytes := rfl
  constructor
  · intro bad
    simp only [ownSend, held, good, whole, shape, bad, List.contains_eq_mem, decide_true, Bool.not_true,
      Bool.false_eq_true, if_false, ne_eq, not_false_eq_true, if_true]
    exact recordResult_countError_eq_afterRefusal _ _ _ _ _
  · intro right wrong
    simp only [ownSend, held, good, whole, shape, right, wrong, List.contains_eq_mem, decide_true, Bool.not_true,
      Bool.not_false, Bool.false_eq_true, if_false, ne_eq, not_true_eq_false, if_true]
    exact recordResult_countError_eq_afterRefusal _ _ _ _ _

end

/-- Settles O6, by where the frame ends and by the first test that it fails. -/
theorem badSendChangesNothing : Obligations.BadSendChangesNothing := by
  rintro c k ⟨bytes, m⟩ s ⟨powered, held⟩ row
  simp only [exec_ownSendOf row, whenPowered_of_powered powered, Host.Outcome.next.injEq]
  refine ⟨fun short => congrArg driveLines ?cut, ?whole⟩
  case cut =>
    cases bytes with
    | nil => exact ownSend_nil k _ m held
    | cons len rest =>
      obtain ⟨good, short⟩ := short len rest rfl
      rw [ownSend_cutOff k _ m held good short]
      simp [closeExchange, takenBytes, acked, State.setHouse, afterMark]
  case whole =>
    rintro len rest rfl
    refine ⟨fun bad => congrArg driveLines (ownSend_badLength k _ m held bad rest), ?_⟩
    intro check more good whole
    obtain ⟨wrong, disagrees⟩ := ownSend_checked k (ownerOf k) m held good whole
    exact ⟨fun bad => congrArg driveLines (wrong bad), fun right no => congrArg driveLines (disagrees right no)⟩

/-! ## What every owner leaves -/

/-- An owner that refuses a frame leaves the state alone, and none changes the own address (R144, R153). -/
structure OwnerLeaves (s : State) (o : Result × State) : Prop where
  own : o.2.house.own = s.house.own
  refused : o.1.accepted = false → o.2 = s

namespace OwnerLeaves

variable {s : State}

theorem refusal (r : Result) (s : State) : OwnerLeaves s (r, s) := ⟨rfl, fun _ => rfl⟩

theorem accepted {r : Result} {t : State} (yes : r.accepted = true) (own : t.house.own = s.house.own) :
    OwnerLeaves s (r, t) :=
  ⟨own, fun no => by rw [yes] at no; cases no⟩

theorem clamped {replaced : Prop} [Decidable replaced] {t : State} (own : t.house.own = s.house.own) :
    OwnerLeaves s (.ofClamp (decide replaced), t) :=
  accepted (by unfold Result.ofClamp; split <;> rfl) own

theorem writeLoop (p : List Byte) (s : State) : OwnerLeaves s (ownWriteLoop p s) := by
  unfold ownWriteLoop
  split
  · split
    · refine clamped ?_
      unfold writeLoopRecord
      dsimp only
      split <;> simp
    · exact refusal _ _
  · exact refusal _ _

theorem writeRoom (p : List Byte) (s : State) : OwnerLeaves s (ownWriteRoom p s) := by
  unfold ownWriteRoom
  split
  · split
    · refine clamped ?_
      unfold writeRoomRecord
      rw [changeRoom_house]
      split <;> simp
    · exact refusal _ _
  · exact refusal _ _

theorem writeProbe (p : List Byte) (s : State) : OwnerLeaves s (ownWriteProbe p s) := by
  unfold ownWriteProbe
  split
  · exact clamped rfl
  · exact refusal _ _

theorem writeManifold (p : List Byte) (s : State) : OwnerLeaves s (ownWriteManifold p s) := by
  have yes (b : Bool) : (Result.ofClamp b).accepted = true := by cases b <;> rfl
  unfold ownWriteManifold
  split
  · exact accepted (yes _) rfl
  · unfold writeGroup1
    dsimp only
    split
    · refine accepted (yes _) ?_
      split <;> rfl
    · exact refusal _ _
  · exact accepted (yes _) (by simp)
  · unfold writeGroup3
    split
    · exact accepted (yes _) rfl
    · exact refusal _ _
  · exact refusal _ _

theorem setMode (p : List Byte) (s : State) : OwnerLeaves s (ownSetMode p s) := by
  unfold ownSetMode
  split
  · exact accepted rfl (by simp)
  · unfold setRun
    split
    · split
      · exact accepted rfl (by simp)
      · exact refusal _ _
    · exact refusal _ _
    · split
      · exact accepted rfl (by simp)
      · exact refusal _ _
    · exact refusal _ _
  · unfold setFlush
    split
    · exact accepted rfl (by simp)
    · exact accepted rfl (by simp)
    · exact accepted rfl (by simp)
    · exact refusal _ _
  · exact refusal _ _

theorem clear (p : List Byte) (s : State) : OwnerLeaves s (ownClear p s) := by
  unfold ownClear
  split
  · split
    · exact accepted rfl rfl
    · exact refusal _ _
  · split
    · exact accepted rfl rfl
    · exact refusal _ _
  · exact accepted rfl rfl
  · exact refusal _ _

theorem testChannel (p : List Byte) (s : State) : OwnerLeaves s (ownTestChannel p s) := by
  unfold ownTestChannel
  split
  · exact refusal _ _
  · dsimp only
    split
    · exact refusal _ _
    · split
      · exact refusal _ _
      · split
        · exact refusal _ _
        · exact clamped (by simp [queueTest])

theorem save (p : List Byte) (s : State) : OwnerLeaves s (ownSave p s) := by
  unfold ownSave
  split
  · exact refusal _ _
  · exact accepted rfl (by simp)

theorem restart (p : List Byte) (s : State) : OwnerLeaves s (ownRestart p s) := by
  unfold ownRestart
  split
  · exact refusal _ _
  · next scope _ =>
    split
    · exact refusal _ _
    · exact accepted rfl (by cases scope <;> simp [Machine.restart, restartTables])

theorem seed (p : List Byte) (s : State) : OwnerLeaves s (ownSeed p s) := by
  unfold ownSeed
  dsimp only
  split
  · exact refusal _ _
  · exact accepted rfl rfl

end OwnerLeaves

theorem ownerOf_leaves (k : SendKind) (p : List Byte) (s : State) : OwnerLeaves s (ownerOf k p s) := by
  cases k
  case writeLoop => exact .writeLoop p s
  case writeRoom => exact .writeRoom p s
  case writeProbe => exact .writeProbe p s
  case writeManifold => exact .writeManifold p s
  case setMode => exact .setMode p s
  case clear => exact .clear p s
  case testChannel => exact .testChannel p s
  case save => exact .save p s
  case restart => exact .restart p s
  case seed => exact .seed p s

/-- A good frame in a part that listens, through any row of its kind (R144, R154). -/
theorem exec_goodSend {c : Instr} {k : SendKind} {p : List Byte} {m : Mark} {s : State}
    (listens : s.listens) (row : ownSendOf c = some (k, goodFrame s k p m)) (len : p.length ∈ k.lengths)
    (agrees : k.lengthAgrees p = true) :
    exec c s = .next (driveLines { (ownerOf k p s).2 with
      house := (ownerOf k p s).2.house.afterSend k p (ownerOf k p s).1 m }) := by
  have own := (ownerOf_leaves k p s).own
  rw [exec_ownSendOf row, whenPowered_of_powered listens.1]
  refine congrArg (fun t => Host.Outcome.next (driveLines t)) ?_
  exact ownSend_good_eq_afterSend k (ownerOf k) p m listens.2 len agrees rfl own

/-- Settles O7, from what every owner leaves. -/
theorem ownerDecidesGoodSend : Obligations.OwnerDecidesGoodSend :=
  fun _ k p _ s listens row len agrees =>
    ⟨exec_goodSend listens row len agrees, (ownerOf_leaves k p s).refused⟩

/-! ## Unknown kinds -/

theorem SendKind.ofCode_eq_none {b : Byte} (h : b < 0x41 ∨ 0x4A < b) : SendKind.ofCode b = none := by
  unfold SendKind.ofCode
  rw [List.find?_eq_none]
  intro k _
  rw [decide_eq_true_eq]
  rintro rfl
  revert h
  cases k <;> decide

theorem FetchKind.ofCode_eq_none {b : Byte} (h : b < 0x61 ∨ 0x69 < b ∧ b ≠ 0x6F) :
    FetchKind.ofCode b = none := by
  unfold FetchKind.ofCode
  rw [List.find?_eq_none]
  intro k _
  rw [decide_eq_true_eq]
  rintro rfl
  revert h
  cases k <;> decide

/-- Settles O8, from the codes that name a kind. -/
theorem unknownKindsAreRefused : Obligations.UnknownKindsAreRefused := by
  rintro kind m s ⟨powered, held⟩
  constructor
  · intro outside
    refine (whenPowered_of_powered (f := ownSendKind kind m) powered).trans ?_
    simp only [ownSendKind, held, SendKind.ofCode_eq_none outside]
    rfl
  · intro outside
    refine (whenPowered_of_powered (f := ownFetchKind kind m) powered).trans ?_
    simp only [ownFetchKind, held, FetchKind.ofCode_eq_none outside]
    rfl

/-! ## FETCH -/

theorem loopOfNumber_of_inside {n : Nat} (h : 1 ≤ n ∧ n ≤ 16) : ∃ i, loopOfNumber n = some i :=
  ⟨⟨n - 1, by omega⟩, loopOfNumber_of_eq_succ (by simp only; omega)⟩

theorem roomOfNumber_of_eq_succ {n : Nat} {r : RoomIx} (h : n = r.val + 1) : roomOfNumber n = some r := by
  simp [roomOfNumber, h]

theorem roomOfNumber_of_outside {n : Nat} (h : n = 0 ∨ 12 < n) : roomOfNumber n = none :=
  dif_neg (by omega)

theorem roomOfNumber_of_inside {n : Nat} (h : 1 ≤ n ∧ n ≤ 12) : ∃ r, roomOfNumber n = some r :=
  ⟨⟨n - 1, by omega⟩, roomOfNumber_of_eq_succ (by simp only; omega)⟩

theorem probeOfNumber_of_inside {n : Nat} (h : n ≤ 16) : ∃ q, probeOfNumber n = some q :=
  ⟨⟨n, by omega⟩, probeOfNumber_of_eq rfl⟩

theorem manifoldReadBack_of_lt (p : Params) : ∀ {g : Nat}, 3 < g → manifoldReadBack g p = none
  | _ + 4, _ => rfl

/-- The selectors in range of a FETCH kind (R164 to R167). -/
def FetchKind.selects (k : FetchKind) (n : Nat) : Prop :=
  match k with
  | .loopStatus | .periodSummary | .readLoop => 1 ≤ n ∧ n ≤ 16
  | .roomStatus | .readRoom => 1 ≤ n ∧ n ≤ 12
  | .probeStatus | .readProbe => n ≤ 16
  | .readManifold => n ≤ 3
  | .manifoldStatus | .lastResult => n = 0

section
variable {k : FetchKind} {sel : Byte} (s : State)

theorem replyOf_outside (h : ¬ k.selects sel.toNat) : replyOf k sel s = none := by
  have zero : sel.toNat ≠ 0 → sel ≠ 0 := fun no e => no (by rw [e]; rfl)
  cases k
  case manifoldStatus => exact if_neg (zero h)
  case lastResult => exact if_neg (zero h)
  case loopStatus =>
    have outside : sel.toNat = 0 ∨ 16 < sel.toNat := by simp only [FetchKind.selects] at h; omega
    simp [replyOf, replyLoopStatus, loopOfNumber_of_outside outside]
  case periodSummary =>
    have outside : sel.toNat = 0 ∨ 16 < sel.toNat := by simp only [FetchKind.selects] at h; omega
    simp [replyOf, replyPeriodSummary, loopOfNumber_of_outside outside]
  case readLoop =>
    have outside : sel.toNat = 0 ∨ 16 < sel.toNat := by simp only [FetchKind.selects] at h; omega
    simp [replyOf, replyReadLoop, loopOfNumber_of_outside outside]
  case roomStatus =>
    have outside : sel.toNat = 0 ∨ 12 < sel.toNat := by simp only [FetchKind.selects] at h; omega
    simp [replyOf, replyRoomStatus, roomOfNumber_of_outside outside]
  case readRoom =>
    have outside : sel.toNat = 0 ∨ 12 < sel.toNat := by simp only [FetchKind.selects] at h; omega
    simp [replyOf, replyReadRoom, roomOfNumber_of_outside outside]
  case probeStatus => simp [replyOf, replyProbeStatus, probeOfNumber_of_lt (Nat.lt_of_not_le h)]
  case readProbe => simp [replyOf, replyReadProbe, probeOfNumber_of_lt (Nat.lt_of_not_le h)]
  case readManifold => exact manifoldReadBack_of_lt _ (Nat.lt_of_not_le h)

@[simp] theorem wordBytes_length (n : Nat) : (wordBytes n).length = 2 := rfl
@[simp] theorem signedBytes_length (z : Int) : (signedBytes z).length = 2 := rfl
@[simp] theorem optSignedBytes_length (z : Option Int) : (optSignedBytes z).length = 2 := by cases z <;> rfl
@[simp] theorem optWordBytes_length (n : Option Nat) : (optWordBytes n).length = 2 := by cases n <;> rfl
@[simp] theorem roomReportBytes_length (r : Option Report) : (roomReportBytes r).length = 8 := by
  cases r <;> rfl
@[simp] theorem summaryBytes_length (e : SummaryEntry) : (summaryBytes e).length = 18 := by
  simp [summaryBytes]

theorem replyOf_inside (h : k.selects sel.toNat) : ∃ p, replyOf k sel s = some p ∧ p.length ≤ 32 := by
  have zero : sel.toNat = 0 → sel = 0 := fun e => BitVec.eq_of_toNat_eq (by rw [e]; rfl)
  cases k
  case manifoldStatus => exact ⟨_, if_pos (zero h), by simp [manifoldStatusBytes]⟩
  case lastResult => exact ⟨_, if_pos (zero h), by simp⟩
  case loopStatus =>
    obtain ⟨i, named⟩ := loopOfNumber_of_inside h
    exact ⟨loopStatusBytes s i, by simp [replyOf, replyLoopStatus, named], by simp [loopStatusBytes]⟩
  case periodSummary =>
    obtain ⟨i, named⟩ := loopOfNumber_of_inside h
    refine ⟨s.period.summary.elim [] fun b => summaryBytes (b.get i), by simp [replyOf, replyPeriodSummary, named], ?_⟩
    cases s.period.summary <;> simp
  case readLoop =>
    obtain ⟨i, named⟩ := loopOfNumber_of_inside h
    exact ⟨loopReadBack i (s.loops.get i).cfg, by simp [replyOf, replyReadLoop, named], by simp [loopReadBack]⟩
  case roomStatus =>
    obtain ⟨r, named⟩ := roomOfNumber_of_inside h
    exact ⟨roomStatusBytes (s.rooms.get r), by simp [replyOf, replyRoomStatus, named], by simp [roomStatusBytes]⟩
  case readRoom =>
    obtain ⟨r, named⟩ := roomOfNumber_of_inside h
    exact ⟨roomReadBack r (s.rooms.get r).cfg, by simp [replyOf, replyReadRoom, named], by simp [roomReadBack]⟩
  case probeStatus =>
    obtain ⟨q, named⟩ := probeOfNumber_of_inside h
    exact ⟨probeStatusBytes (s.probes.get q), by simp [replyOf, replyProbeStatus, named], by simp [probeStatusBytes]⟩
  case readProbe =>
    obtain ⟨q, named⟩ := probeOfNumber_of_inside h
    exact ⟨probeReadBack q (s.probes.get q).cfg, by simp [replyOf, replyReadProbe, named], by simp [probeReadBack]⟩
  case readManifold =>
    have le : sel.toNat ≤ 3 := h
    simp only [replyOf, replyReadManifold]
    interval_cases sel.toNat
    · exact ⟨_, rfl, by simp [group0ReadBack]⟩
    · exact ⟨_, rfl, by simp [group1ReadBack]⟩
    · exact ⟨_, rfl, by simp [group2ReadBack]⟩
    · exact ⟨_, rfl, by simp [group3ReadBack]⟩

end

/-- A complete reply brings the sum of a transaction to zero (R141). -/
theorem sum8_afterReply (h : House) (head p : List Byte) (done : HouseState) (m : Mark) :
    sum8 (head ++ (h.afterReply head p done m).sent) = 0 := by
  rw [House.afterReply, ← List.append_assoc]
  exact sum8_checkByte _

/-- A reply that the house controller cuts short after a byte before the check byte ends there (R145). -/
theorem closeExchange_answered_cut (head p : List Byte) (done : HouseState) (m : Mark) {j : Nat}
    (early : j ≤ p.length) (s : State) :
    closeExchange (answered head p (some j) done) m s =
      { s with house := { s.house.afterReply head p .ignoring m with
          sent := (byteOf p.length :: p).take (j + 1) } } := by
  have cut : sendReply (replyBytes head p) (some j) done = ((byteOf p.length :: p).take (j + 1), .ignoring) := by
    unfold sendReply replyBytes
    dsimp only
    rw [if_pos (by simp; omega), List.take_append_of_le_length (by simpa using early)]
  unfold answered
  rw [cut]
  rfl

/-- Settles O9, by whether the selector is in range and by the byte that is left unacknowledged. -/
theorem fetchAnswersOrIgnores : Obligations.FetchAnswersOrIgnores := by
  rintro c k ⟨sel, nackAt, m⟩ s ⟨powered, held⟩ row head range
  have inRange : range sel.toNat ↔ k.selects sel.toNat := by cases k <;> exact Iff.rfl
  obtain ⟨ignored, answers⟩ := ownFetch_cases k (replyOf k) { selector := sel, nackAt, mark := m } held
  simp only [exec_ownFetchOf row, whenPowered_of_powered powered, Host.Outcome.next.injEq]
  refine ⟨fun outside => congrArg driveLines (ignored (replyOf_outside s (mt inRange.mpr outside))), fun inside => ?_⟩
  obtain ⟨p, reply, short⟩ := replyOf_inside s (inRange.mp inside)
  refine ⟨p, reply, short, ?_, ?_⟩
  · rintro rfl
    exact ⟨congrArg driveLines (answers p reply), sum8_afterReply _ _ _ _ _⟩
  · rintro j rfl early
    exact congrArg driveLines ((answers p reply).trans (closeExchange_answered_cut _ _ _ _ early s))

end Sys2Proof.Machine

/-! Status replies and read-backs, field by field (R155, R164 to R167, R175, R176). -/

namespace Sys2Proof.Machine

/-! ## Reading a field -/

section
variable (b : Byte) (l : List Byte) (i n : Nat) (z : Int)

@[simp] theorem byteAt_cons_zero : byteAt (b :: l) 0 = b.toNat := rfl
@[simp] theorem byteAt_cons_succ : byteAt (b :: l) (i + 1) = byteAt l i := rfl
@[simp] theorem wordAt_cons_succ : wordAt (b :: l) (i + 1) = wordAt l i := rfl
@[simp] theorem signedAt_cons_succ : signedAt (b :: l) (i + 1) = signedAt l i := rfl

@[simp] theorem byteAt_wordBytes_append : byteAt (wordBytes n ++ l) (i + 2) = byteAt l i := rfl
@[simp] theorem wordAt_wordBytes_append : wordAt (wordBytes n ++ l) (i + 2) = wordAt l i := rfl
@[simp] theorem signedAt_wordBytes_append : signedAt (wordBytes n ++ l) (i + 2) = signedAt l i := rfl

@[simp] theorem byteOf_toNat : (byteOf n).toNat = n % 256 := by simp [byteOf]

@[simp] theorem wordAt_wordBytes : wordAt (wordBytes n ++ l) 0 = n % 65536 := by
  show (byteOf (n / 256)).toNat * 256 + (byteOf n).toNat = n % 65536
  rw [byteOf_toNat, byteOf_toNat]
  omega

@[simp] theorem wordAt_wordBytes_last : wordAt (wordBytes n) 0 = n % 65536 := by
  simpa using wordAt_wordBytes [] n

/-- A signed field gives back a value that 16 bits hold (R175). -/
theorem signedAt_pattern16 {z : Int} (low : -32768 ≤ z) (high : z ≤ 32767) :
    signedAt (wordBytes (pattern16 z) ++ l) 0 = z := by
  have small : pattern16 z % 65536 = pattern16 z := Nat.mod_eq_of_lt (BitVec.isLt _)
  rw [signedAt, wordAt_wordBytes, small, signed16, pattern16, BitVec.ofNat_toNat,
    BitVec.setWidth_eq, BitVec.toInt_ofInt]
  exact Int.bmod_eq_of_le (by omega) (by omega)

@[simp] theorem byteAt_wordBytes_high : byteAt (wordBytes n ++ l) 0 = n / 256 % 256 := byteOf_toNat _
@[simp] theorem byteAt_wordBytes_low : byteAt (wordBytes n ++ l) 1 = n % 256 := byteOf_toNat _

@[simp] theorem pattern16_zero : pattern16 0 = 0 := rfl

/-- An optional signed field as a word: the pattern of the value, or 0x8000 (R176). -/
theorem optSignedBytes_eq (z : Option Int) : optSignedBytes z = wordBytes (z.elim 0x8000 pattern16) := by
  cases z <;> rfl

/-- An optional unsigned field as a word (R176). -/
theorem optWordBytes_eq (n : Option Nat) : optWordBytes n = wordBytes (n.getD 0xFFFF) := by
  cases n <;> rfl

end

theorem yesNoByte_eq_one (b : Bool) : (yesNoByte b).toNat = 1 ↔ b = true := by cases b <;> decide

/-! ## Codes and counts fit a byte -/

@[simp] theorem Mode.code_mod (m : Mode) : m.code % 256 = m.code := by cases m <;> rfl
@[simp] theorem Pump.code_mod (p : Pump) : p.code % 256 = p.code := by cases p <;> rfl
@[simp] theorem LoopClass.code_mod (c : LoopClass) : c.code % 256 = c.code := by cases c <;> rfl
@[simp] theorem Valve.code_mod (v : Valve) : v.code % 256 = v.code := by cases v <;> rfl
@[simp] theorem Condition.code_mod (c : Condition) : c.code % 256 = c.code := by cases c <;> rfl
@[simp] theorem Freshness.code_mod (f : Freshness) : f.code % 256 = f.code := by cases f <;> rfl
@[simp] theorem FloorState.code_mod (f : FloorState) : f.code % 256 = f.code := by cases f <;> rfl
@[simp] theorem PollOutcome.code_mod (o : PollOutcome) : o.code % 256 = o.code := by cases o <;> rfl
@[simp] theorem ProbeStatus.code_mod (s : ProbeStatus) : s.code % 256 = s.code := by cases s <;> rfl
@[simp] theorem ProbeError.code_mod (e : ProbeError) : e.code % 256 = e.code := by cases e <;> rfl
@[simp] theorem ProxyMode.code_mod (m : ProxyMode) : m.code % 256 = m.code := by cases m <;> rfl
@[simp] theorem Result.code_mod (r : Result) : r.code % 256 = r.code := by cases r <;> rfl

@[simp] theorem address_mod (a : BitVec 7) : a.toNat % 256 = a.toNat :=
  Nat.mod_eq_of_lt (by have := a.isLt; omega)

theorem energisedCount_mod (s : State) : energisedCount s % 256 = energisedCount s := by
  have le : energisedCount s ≤ allLoops.length := List.countP_le_length
  rw [show allLoops.length = 16 from List.length_finRange] at le
  exact Nat.mod_eq_of_lt (by omega)

/-- The fault byte's bits (section 11.4). -/
theorem faultBits (a b c d e : Bool) :
    let n := (byteOf ((if a then 1 else 0) + (if b then 2 else 0) + (if c then 4 else 0)
      + (if d then 8 else 0) + (if e then 16 else 0))).toNat
    n.testBit 0 = a ∧ n.testBit 1 = b ∧ n.testBit 2 = c ∧ n.testBit 3 = d ∧ n.testBit 4 = e := by
  revert a b c d e
  decide

theorem faultByte_bits (s : State) :
    (faultByte s).toNat.testBit 0 = anyProbeFailed s ∧ (faultByte s).toNat.testBit 1 = anyChannelFault s
      ∧ (faultByte s).toNat.testBit 2 = anyRoomLost s ∧ (faultByte s).toNat.testBit 3 = s.store.defaulted
      ∧ (faultByte s).toNat.testBit 4 = supplyUnmonitored s :=
  faultBits _ _ _ _ _

/-- The summary's flag bits (section 11.4). -/
theorem summaryBits (a b c d : Bool) :
    let n := (byteOf ((if a then 1 else 0) + (if b then 2 else 0) + (if c then 4 else 0)
      + (if d then 8 else 0))).toNat
    n.testBit 0 = a ∧ n.testBit 1 = b ∧ n.testBit 2 = c ∧ n.testBit 3 = d := by
  revert a b c d
  decide

theorem queuedLoop_iff (s : State) (i : LoopIx) :
    queuedLoop s i = true ↔ .loop i ∈ s.arb.queue ∨ .test i ∈ s.arb.queue := by
  simp only [queuedLoop, List.any_eq_true, Bool.or_eq_true, decide_eq_true_eq]
  constructor
  · rintro ⟨e, mem, rfl | rfl⟩
    · exact .inl mem
    · exact .inr mem
  · rintro (mem | mem)
    · exact ⟨_, mem, .inl rfl⟩
    · exact ⟨_, mem, .inr rfl⟩

/-! ## Selectors -/

section
variable (i : LoopIx) (r : RoomIx) (q : ProbeIx)

theorem loopOfNumber_selector : loopOfNumber (byteOf (i.val + 1)).toNat = some i :=
  loopOfNumber_of_eq_succ (by rw [byteOf_toNat]; omega)

theorem roomOfNumber_selector : roomOfNumber (byteOf (r.val + 1)).toNat = some r :=
  roomOfNumber_of_eq_succ (by rw [byteOf_toNat]; omega)

theorem probeOfNumber_selector : probeOfNumber (byteOf q.val).toNat = some q :=
  probeOfNumber_of_eq (by rw [byteOf_toNat]; omega)

end

/-! ## MANIFOLD_STATUS, LOOP_STATUS and LAST_RESULT -/

/-- Settles O10, by the layouts of the three replies. -/
theorem manifoldAndLoopStatusFields : Obligations.ManifoldAndLoopStatusFields := by
  intro i s
  refine ⟨⟨manifoldStatusBytes s, rfl, ?_⟩, ⟨loopStatusBytes s i, ?_, ?_⟩, ⟨_, rfl, rfl, ?_, ?_⟩⟩
  · have bits := faultByte_bits s
    simp [manifoldStatusBytes, signedBytes, energisedCount_mod, yesNoByte_eq_one, saving, toolGranted, bits]
    exact fun low high => signedAt_pattern16 _ low high
  · rw [replyOf, replyLoopStatus, loopOfNumber_selector, Option.map_some]
  · simp [loopStatusBytes, yesNoByte_eq_one, queuedLoop_iff]
  · simp
  · cases s.house.lastKind <;> rfl

/-! ## ROOM_STATUS, PROBE_STATUS and PERIOD_SUMMARY -/

/-- The flags of a cached report in ROOM_STATUS: bit 0 present, bit 1 with a floor temperature. -/
def reportFlags (r : Option Report) : Nat := r.elim 0 fun v => 1 + if v.floor.isSome then 2 else 0

/-- The report's fields in ROOM_STATUS stand at fixed places, 0 where there is no report. -/
theorem roomReportBytes_eq (r : Option Report) :
    roomReportBytes r = byteOf (reportFlags r) ::
      (wordBytes (r.elim 0 fun v => pattern16 v.air) ++ (wordBytes (r.elim 0 fun v => pattern16 v.setpoint)
        ++ byteOf (r.elim 0 Report.demand) :: wordBytes (r.elim 0 fun v => pattern16 (v.floor.getD 0)))) := by
  cases r <;> rfl

theorem reportFlags_bits (r : Option Report) :
    (byteOf (reportFlags r)).toNat.testBit 0 = r.isSome
      ∧ (byteOf (reportFlags r)).toNat.testBit 1 = (r.bind Report.floor).isSome := by
  cases r with
  | none => decide
  | some v => cases h : v.floor <;> simp [reportFlags, h, Nat.testBit, Nat.shiftRight_succ]

/-- The fields of a ROOM_STATUS reply (section 11.4). -/
theorem roomStatusBytes_fields (r : Room) :
    let p := roomStatusBytes r
    p.length = 18 ∧ byteAt p 0 = r.cfg.address.toNat ∧ byteAt p 1 = r.cfg.proxy.code
      ∧ byteAt p 2 = r.freshness.code ∧ byteAt p 3 = r.floor.code
      ∧ wordAt p 4 = derivedDemand r % 65536
      ∧ (byteAt p 6).testBit 0 = r.report.isSome
      ∧ (byteAt p 6).testBit 1 = (r.report.bind Report.floor).isSome
      ∧ byteAt p 11 = r.report.elim 0 Report.demand % 256
      ∧ (r.report = none → ∀ j, 7 ≤ j → j ≤ 13 → byteAt p j = 0)
      ∧ (∀ v, r.report = some v → v.floor = none → byteAt p 12 = 0 ∧ byteAt p 13 = 0)
      ∧ byteAt p 14 = r.failures % 256 ∧ wordAt p 15 = r.age % 65536 ∧ byteAt p 17 = r.lastPoll.code := by
  have flags := reportFlags_bits r.report
  refine ⟨by simp [roomStatusBytes], ?_, ?_, ?_, ?_, ?_, ?_, ?_, ?_, fun none j low high => ?_,
    fun v report floor => ?_, ?_, ?_, ?_⟩
  case refine_6 => simpa [roomStatusBytes, roomReportBytes_eq] using flags.1
  case refine_7 => simpa [roomStatusBytes, roomReportBytes_eq] using flags.2
  case refine_9 => interval_cases j <;> simp [roomStatusBytes, roomReportBytes_eq, none]
  case refine_10 => simp [roomStatusBytes, roomReportBytes_eq, report, floor]
  all_goals simp [roomStatusBytes, roomReportBytes_eq]

theorem roomStatusBytes_temperatures (r : Room) {v : Report} (report : r.report = some v) :
    ((-32768 ≤ v.air ∧ v.air ≤ 32767) → signedAt (roomStatusBytes r) 7 = v.air)
      ∧ ((-32768 ≤ v.setpoint ∧ v.setpoint ≤ 32767) → signedAt (roomStatusBytes r) 9 = v.setpoint)
      ∧ ∀ z, v.floor = some z → (-32768 ≤ z ∧ z ≤ 32767) → signedAt (roomStatusBytes r) 12 = z := by
  refine ⟨fun fits => ?_, fun fits => ?_, fun z floor fits => ?_⟩
  · simp [roomStatusBytes, roomReportBytes_eq, report, signedAt_pattern16 _ fits.1 fits.2]
  · simp [roomStatusBytes, roomReportBytes_eq, report, signedAt_pattern16 _ fits.1 fits.2]
  · simp [roomStatusBytes, roomReportBytes_eq, report, floor, signedAt_pattern16 _ fits.1 fits.2]

/-- The fields of a PROBE_STATUS reply (section 11.4). -/
theorem probeStatusBytes_fields (q : Probe) :
    let p := probeStatusBytes q
    p.length = 12 ∧ byteAt p 0 = q.status.code
      ∧ wordAt p 1 = q.filtered.elim 0x8000 pattern16 % 65536
      ∧ (∀ v, q.filtered = some v → (-32768 ≤ v ∧ v ≤ 32767) → signedAt p 1 = v)
      ∧ wordAt p 3 = q.sample.elim 0x8000 pattern16 % 65536
      ∧ (∀ v, q.sample = some v → (-32768 ≤ v ∧ v ≤ 32767) → signedAt p 3 = v)
      ∧ wordAt p 5 = q.high.getD 0xFFFF % 65536 ∧ wordAt p 7 = q.period.getD 0xFFFF % 65536
      ∧ byteAt p 9 = q.errors % 256 ∧ byteAt p 10 = q.recovery % 256 ∧ byteAt p 11 = q.lastError.code := by
  refine ⟨by simp [probeStatusBytes], ?_, ?_, fun v filtered fits => ?_, ?_, fun v sample fits => ?_, ?_, ?_,
    ?_, ?_, ?_⟩
  case refine_3 =>
    simp [probeStatusBytes, optSignedBytes_eq, filtered, signedAt_pattern16 _ fits.1 fits.2]
  case refine_5 =>
    simp [probeStatusBytes, optSignedBytes_eq, sample, signedAt_pattern16 _ fits.1 fits.2]
  all_goals simp [probeStatusBytes, optSignedBytes_eq, optWordBytes_eq]

/-- The fields of a PERIOD_SUMMARY reply (section 11.4). -/
theorem summaryBytes_fields (e : SummaryEntry) :
    let p := summaryBytes e
    byteAt p 0 = e.planned.cls.code ∧ wordAt p 1 = e.planned.onTime % 65536
      ∧ wordAt p 3 = e.planned.grantTime.getD 0xFFFF % 65536 ∧ wordAt p 5 = e.energisedSeconds % 65536
      ∧ (byteAt p 7).testBit 0 = e.planned.clipped ∧ (byteAt p 7).testBit 1 = e.planned.missed
      ∧ (byteAt p 7).testBit 2 = e.planned.closedEarly ∧ (byteAt p 7).testBit 3 = e.shortened
      ∧ wordAt p 8 = e.n % 65536 ∧ wordAt p 10 = e.meanDrop.elim 0x8000 pattern16 % 65536
      ∧ (∀ m, e.meanDrop = some m → (-32768 ≤ m ∧ m ≤ 32767) → signedAt p 10 = m)
      ∧ wordAt p 12 = e.kBefore % 65536
      ∧ ((-32768 ≤ e.step ∧ e.step ≤ 32767) → signedAt p 14 = e.step) ∧ wordAt p 16 = e.kAfter % 65536 := by
  obtain ⟨clipped, missed, closed, short⟩ :=
    summaryBits e.planned.clipped e.planned.missed e.planned.closedEarly e.shortened
  refine ⟨?_, ?_, ?_, ?_, ?_, ?_, ?_, ?_, ?_, ?_, fun m mean fits => ?_, ?_, fun fits => ?_, ?_⟩
  case refine_5 => simpa [summaryBytes, optWordBytes_eq] using clipped
  case refine_6 => simpa [summaryBytes, optWordBytes_eq] using missed
  case refine_7 => simpa [summaryBytes, optWordBytes_eq] using closed
  case refine_8 => simpa [summaryBytes, optWordBytes_eq] using short
  case refine_11 =>
    simp [summaryBytes, optSignedBytes_eq, optWordBytes_eq, mean, signedAt_pattern16 _ fits.1 fits.2]
  case refine_13 =>
    simp [summaryBytes, optSignedBytes_eq, optWordBytes_eq, signedBytes, signedAt_pattern16 _ fits.1 fits.2]
  all_goals simp [summaryBytes, optSignedBytes_eq, optWordBytes_eq, signedBytes]

/-- Settles O11, by the fields of the three replies. -/
theorem recordStatusFields : Obligations.RecordStatusFields := by
  intro s fits
  refine ⟨fun r => ⟨roomStatusBytes (s.rooms.get r), ?room, ?roomFields⟩,
    fun q => ⟨probeStatusBytes (s.probes.get q), ?probe, ?probeFields⟩,
    fun i => ⟨fun none => ?empty, fun b some => ⟨summaryBytes (b.get i), ?summary, summaryBytes_length _, ?fields⟩⟩⟩
  case room => rw [replyOf, replyRoomStatus, roomOfNumber_selector, Option.map_some]
  case probe => rw [replyOf, replyProbeStatus, probeOfNumber_selector, Option.map_some]
  case empty => rw [replyOf, replyPeriodSummary, loopOfNumber_selector, none, Option.map_some, Option.elim_none]
  case summary => rw [replyOf, replyPeriodSummary, loopOfNumber_selector, some, Option.map_some, Option.elim_some]
  case roomFields =>
    obtain ⟨length, address, proxy, freshness, floor, demand, present, withFloor, reported, none, noFloor,
      failures, age, poll⟩ := roomStatusBytes_fields (s.rooms.get r)
    exact ⟨length, address, proxy, freshness, floor, demand, present, withFloor, reported, none, noFloor,
      fun v report air setpoint => ⟨(roomStatusBytes_temperatures _ report).1 air,
        (roomStatusBytes_temperatures _ report).2.1 setpoint⟩,
      fun v z report floor fits => (roomStatusBytes_temperatures _ report).2.2 z floor fits, failures, age, poll⟩
  case probeFields =>
    obtain ⟨length, status, filtered, filteredValue, sample, sampleValue, high, period, errors, recovery,
      lastError⟩ := probeStatusBytes_fields (s.probes.get q)
    exact ⟨length, status, fun none => by rw [filtered, none]; rfl, filteredValue,
      fun none => by rw [sample, none]; rfl, sampleValue, fun none => by rw [high, none]; rfl,
      fun h some => by rw [high, some]; rfl, fun none => by rw [period, none]; rfl,
      fun h some => by rw [period, some]; rfl, errors, recovery, lastError⟩
  case fields =>
    obtain ⟨cls, onTime, grant, seconds, clipped, missed, closed, short, n, mean, meanValue, before, step,
      after⟩ := summaryBytes_fields (b.get i)
    exact ⟨cls, onTime, fun none => by rw [grant, none]; rfl, fun g some => by rw [grant, some]; rfl, seconds,
      clipped, missed, closed, short, n, fun none => by rw [mean, none]; rfl, meanValue, before, step, after⟩

/-! ## Read-backs (R167) -/

@[simp] theorem yesNo_yesNoByte (b : Bool) : yesNo (yesNoByte b).toNat = some b := by cases b <;> rfl
@[simp] theorem Policy.ofCode_code (p : Policy) : Policy.ofCode (p.code % 256) = some p := by cases p <;> rfl
@[simp] theorem ProxyMode.ofCode_code (m : ProxyMode) : ProxyMode.ofCode m.code = some m := by cases m <;> rfl
@[simp] theorem Depth.ofCode_code (d : Depth) : Depth.ofCode (d.code % 256) = some d := by cases d <;> rfl
@[simp] theorem Source.ofCode_code_mod (x : Source) : Source.ofCode (x.code % 256) = some x := by cases x <;> rfl
@[simp] theorem senseOfCode_senseCode (b : Bool) : senseOfCode (senseCode b % 256) = some b := by cases b <;> rfl

@[simp] theorem roomField_code (r : Option RoomIx) : roomField (roomFieldCode r % 256) = some r := by
  cases r with
  | none => rfl
  | some r =>
    have small : (r.val + 1) % 256 = r.val + 1 := Nat.mod_eq_of_lt (by omega)
    simp [roomFieldCode, roomNumber, roomField, roomOfNumber_of_eq_succ (r := r) rfl, small]

theorem absentZero_getD {n : Option Nat} (pos : ∀ x, n = some x → 0 < x) : absentZero (n.getD 0) = n := by
  cases n with
  | none => rfl
  | some x => simp [absentZero, (pos x rfl).ne']

theorem absentZeroInt_getD {z : Option Int} (pos : ∀ x, z = some x → 0 < x) : absentZeroInt (z.getD 0) = z := by
  cases z with
  | none => rfl
  | some x => simp [absentZeroInt, (pos x rfl).ne']

/-- A value that a clamp leaves lies within its range. -/
theorem clampNat_eq_self {lo hi v : Nat} (h : clampNat lo hi v = v) (le : lo ≤ hi) : lo ≤ v ∧ v ≤ hi := by
  unfold clampNat at h
  omega

theorem clampInt_eq_self {lo hi v : Int} (h : clampInt lo hi v = v) (le : lo ≤ hi) : lo ≤ v ∧ v ≤ hi := by
  unfold clampInt at h
  omega

theorem clampNat_map_eq_self {lo hi : Nat} {v : Option Nat} (h : v.map (clampNat lo hi) = v) (le : lo ≤ hi) :
    ∀ x, v = some x → lo ≤ x ∧ x ≤ hi := by
  rintro x rfl
  exact clampNat_eq_self (Option.some.inj h) le

theorem clampInt_map_eq_self {lo hi : Int} {v : Option Int} (h : v.map (clampInt lo hi) = v) (le : lo ≤ hi) :
    ∀ x, v = some x → lo ≤ x ∧ x ≤ hi := by
  rintro x rfl
  exact clampInt_eq_self (Option.some.inj h) le

theorem getD_le {v : Option Nat} {hi : Nat} (h : ∀ x, v = some x → x ≤ hi) : v.getD 0 ≤ hi := by
  cases v with
  | none => exact Nat.zero_le _
  | some x => exact h x rfl

/-- The tuning values of a loop configuration within their ranges (R2). -/
structure LoopConfig.InRange (c : LoopConfig) : Prop where
  fixedDemand : c.fixedDemand ≤ 1000
  length : ∀ x, c.length = some x → 5 ≤ x ∧ x ≤ 200
  kmin : 128 ≤ c.kmin ∧ c.kmin ≤ 4096
  kmax : 128 ≤ c.kmax ∧ c.kmax ≤ 4096
  target : ∀ x, c.target = some x → 200 ≤ x ∧ x ≤ 1500

theorem LoopConfig.inRange_of_clamped {c : LoopConfig} (h : c.clamped = c) : c.InRange where
  fixedDemand := (clampNat_eq_self (congrArg LoopConfig.fixedDemand h) (by decide)).2
  length := clampNat_map_eq_self (congrArg LoopConfig.length h) (by decide)
  kmin := clampNat_eq_self (congrArg LoopConfig.kmin h) (by decide)
  kmax := clampNat_eq_self (congrArg LoopConfig.kmax h) (by decide)
  target := clampNat_map_eq_self (congrArg LoopConfig.target h) (by decide)

/-- The tuning values of a room configuration within their ranges (R42). -/
structure RoomConfig.InRange (c : RoomConfig) : Prop where
  fallback : c.fallback ≤ 1000
  floorLimit : ∀ x, c.floorLimit = some x → 2000 ≤ x ∧ x ≤ 3500

theorem RoomConfig.inRange_of_clamped {c : RoomConfig} (h : c.clamped = c) : c.InRange where
  fallback := (clampNat_eq_self (congrArg RoomConfig.fallback h) (by decide)).2
  floorLimit := clampInt_map_eq_self (congrArg RoomConfig.floorLimit h) (by decide)

/-- The tuning values of a probe configuration within their ranges (R36). -/
structure ProbeConfig.InRange (c : ProbeConfig) : Prop where
  offset : -500 ≤ c.offset ∧ c.offset ≤ 500
  shift : c.shift ≤ 8

theorem ProbeConfig.inRange_of_clamped {c : ProbeConfig} (h : c.clamped = c) : c.InRange where
  offset := clampInt_eq_self (congrArg ProbeConfig.offset h) (by decide)
  shift := (clampNat_eq_self (congrArg ProbeConfig.shift h) (by decide)).2

/-- The group 0 values within their ranges (R157). -/
structure Timing.InRange (t : Timing) : Prop where
  period : t.period ≤ 3600
  limit : t.limit ≤ 16
  spacing : t.spacing ≤ 120
  tOpen : t.tOpen ≤ 600
  tClose : t.tClose ≤ 900
  margin : t.margin ≤ 600
  eMin : t.eMin ≤ 900
  minPulse : t.minPulse ≤ 900
  tSettle : t.tSettle ≤ 1200

theorem Timing.inRange_of_clamped {t : Timing} (h : t.clamped = t) : t.InRange where
  period := by
    have := congrArg Timing.period h
    simp only [Timing.clamped, clampNat] at this
    omega
  limit := (clampNat_eq_self (congrArg Timing.limit h) (by decide)).2
  spacing := (clampNat_eq_self (congrArg Timing.spacing h) (by decide)).2
  tOpen := (clampNat_eq_self (congrArg Timing.tOpen h) (by decide)).2
  tClose := (clampNat_eq_self (congrArg Timing.tClose h) (by decide)).2
  margin := (clampNat_eq_self (congrArg Timing.margin h) (by decide)).2
  eMin := (clampNat_eq_self (congrArg Timing.eMin h) (by decide)).2
  minPulse := (clampNat_eq_self (congrArg Timing.minPulse h) (by decide)).2
  tSettle := (clampNat_eq_self (congrArg Timing.tSettle h) (by decide)).2

/-- The group 1 values within their ranges (R158). -/
structure Group1.InRange (g : Group1) : Prop where
  nMeas : g.nMeas ≤ 120
  target : g.target ≤ 1500
  gain : g.gain ≤ 1024
  stepMax : g.stepMax ≤ 256
  supplyBase : 2500 ≤ g.supplyBase ∧ g.supplyBase ≤ 5000
  supplyMax : 2800 ≤ g.supplyMax ∧ g.supplyMax ≤ 5500
  trip : 4000 ≤ g.trip ∧ g.trip ≤ 6500
  hysteresis : g.hysteresis ≤ 1000

theorem Group1.inRange_of_clamped {g : Group1} (h : g.clamped = g) : g.InRange where
  nMeas := (clampNat_eq_self (congrArg Group1.nMeas h) (by decide)).2
  target := (clampNat_eq_self (congrArg Group1.target h) (by decide)).2
  gain := (clampNat_eq_self (congrArg Group1.gain h) (by decide)).2
  stepMax := (clampNat_eq_self (congrArg Group1.stepMax h) (by decide)).2
  supplyBase := clampInt_eq_self (congrArg Group1.supplyBase h) (by decide)
  supplyMax := clampInt_eq_self (congrArg Group1.supplyMax h) (by decide)
  trip := clampInt_eq_self (congrArg Group1.trip h) (by decide)
  hysteresis := (clampNat_eq_self (congrArg Group1.hysteresis h) (by decide)).2

/-- The group 2 values within their ranges (R159). -/
structure Group2.InRange (g : Group2) : Prop where
  pollInterval : g.pollInterval ≤ 120
  lossThreshold : g.lossThreshold ≤ 16
  holdTime : g.holdTime ≤ 7200
  forwardTimeout : g.forwardTimeout ≤ 2000
  holdLimit : g.holdLimit ≤ 100

theorem Group2.inRange_of_clamped {g : Group2} (h : g.clamped = g) : g.InRange where
  pollInterval := (clampNat_eq_self (congrArg Group2.pollInterval h) (by decide)).2
  lossThreshold := (clampNat_eq_self (congrArg Group2.lossThreshold h) (by decide)).2
  holdTime := (clampNat_eq_self (congrArg Group2.holdTime h) (by decide)).2
  forwardTimeout := (clampNat_eq_self (congrArg Group2.forwardTimeout h) (by decide)).2
  holdLimit := (clampNat_eq_self (congrArg Group2.holdLimit h) (by decide)).2

/-- The numeric group 3 values within their ranges (R160). -/
structure Group3.InRange (g : Group3) : Prop where
  pumpHold : g.pumpHold ≤ 900
  autosave : g.autosave ≤ 255
  errorThreshold : g.errorThreshold ≤ 255

theorem Group3.inRange_of_clamped {g : Group3} (h : g.clamped = g) : g.InRange where
  pumpHold := (clampNat_eq_self (congrArg Group3.pumpHold h) (by decide)).2
  autosave := (clampNat_eq_self (congrArg Group3.autosave h) (by decide)).2
  errorThreshold := (clampNat_eq_self (congrArg Group3.errorThreshold h) (by decide)).2

theorem mod_word {n : Nat} {hi : Nat} (h : n ≤ hi) (small : hi < 65536 := by decide) : n % 65536 = n :=
  Nat.mod_eq_of_lt (by omega)

theorem mod_byte {n : Nat} {hi : Nat} (h : n ≤ hi) (small : hi < 256 := by decide) : n % 256 = n :=
  Nat.mod_eq_of_lt (by omega)

theorem signedAt_last {z : Int} (low : -32768 ≤ z) (high : z ≤ 32767) :
    signedAt (wordBytes (pattern16 z)) 0 = z := by
  simpa using signedAt_pattern16 [] low high

/-- An absent target is written as 0, a present one as it is (R1, R175). -/
theorem LoopConfig.InRange.target_field {c : LoopConfig} (h : c.InRange) :
    (absentZero (c.target.getD 0)).map difference16 = c.target := by
  rw [absentZero_getD fun x e => by have := h.target x e; omega]
  cases e : c.target with
  | none => rfl
  | some x => exact congrArg some (difference16_of_lt (by have := h.target x e; omega))

/-- A READ_LOOP reply read as the payload of a WRITE_LOOP (R167). -/
theorem loopPayload_readBack (i : LoopIx) {c : LoopConfig} (h : c.InRange) :
    loopPayload (loopReadBack i c) = some c := by
  have length := absentZero_getD fun x e => by have := h.length x e; omega
  simp [loopPayload, loopReadBack, LoopConfig.ofFields, mod_word h.fixedDemand, mod_word h.kmin.2,
    mod_word h.kmax.2, mod_byte (getD_le fun x e => (h.length x e).2),
    mod_word (getD_le fun x e => (h.target x e).2), length, h.target_field]

/-- The floor limit, 0 where absent, fits a signed word (R40, R175). -/
theorem RoomConfig.InRange.floorLimit_word {c : RoomConfig} (h : c.InRange) :
    -32768 ≤ c.floorLimit.getD 0 ∧ c.floorLimit.getD 0 ≤ 32767 := by
  cases e : c.floorLimit with
  | none => decide
  | some x =>
    have := h.floorLimit x e
    simp only [Option.getD_some]
    omega

/-- A READ_ROOM reply read as the payload of a WRITE_ROOM (R167). -/
theorem roomPayload_readBack (r : RoomIx) {c : RoomConfig} (h : c.InRange) :
    roomPayload (roomReadBack r c) = some c := by
  have address : addressField c.address.toNat = some c.address := by
    simp [addressField, c.address.isLt]
  have range := h.floorLimit_word
  have floor := absentZeroInt_getD fun x e => by have := h.floorLimit x e; omega
  simp [roomPayload, roomReadBack, RoomConfig.ofFields, signedBytes, address, mod_word h.fallback,
    signedAt_last range.1 range.2, floor]

/-- A READ_PROBE reply read as the payload of a WRITE_PROBE (R167). -/
theorem probePayload_readBack (q : ProbeIx) {c : ProbeConfig} (h : c.InRange) :
    probePayload (probeReadBack q c) = some c := by
  simp [probePayload, probeReadBack, ProbeConfig.ofFields, signedBytes,
    signedAt_pattern16 _ (show -32768 ≤ c.offset by have := h.offset.1; omega)
      (show c.offset ≤ 32767 by have := h.offset.2; omega), mod_byte h.shift]

theorem timingPayload_readBack {t : Timing} {flushTime : Nat} (h : t.InRange) (flush : flushTime ≤ 7200) :
    timingPayload (group0ReadBack t flushTime) = t
      ∧ flushTimePayload (group0ReadBack t flushTime) = flushTime := by
  simp [timingPayload, flushTimePayload, group0ReadBack, mod_word h.period, mod_byte h.limit, mod_byte h.spacing,
    mod_word h.tOpen, mod_word h.tClose, mod_word h.margin, mod_word h.eMin, mod_word h.minPulse,
    mod_word h.tSettle, mod_word flush]

theorem group1Payload_readBack {g : Group1} (h : g.InRange) : group1Payload (group1ReadBack g) = g := by
  have base := h.supplyBase
  have max := h.supplyMax
  have trip := h.trip
  simp [group1Payload, group1ReadBack, signedBytes, mod_byte h.nMeas, mod_word h.target, mod_word h.gain,
    mod_word h.stepMax, mod_word h.hysteresis,
    difference16_of_lt (show g.target < 32768 by have := h.target; omega),
    difference16_of_lt (show g.hysteresis < 32768 by have := h.hysteresis; omega),
    signedAt_pattern16 _ (show -32768 ≤ g.supplyBase by omega) (by omega),
    signedAt_pattern16 _ (show -32768 ≤ g.supplyMax by omega) (by omega),
    signedAt_pattern16 _ (show -32768 ≤ g.trip by omega) (by omega)]

theorem group2Payload_readBack {g : Group2} (h : g.InRange) : group2Payload (group2ReadBack g) = g := by
  simp [group2Payload, group2ReadBack, mod_byte h.pollInterval, mod_byte h.lossThreshold, mod_word h.holdTime,
    mod_word h.forwardTimeout, mod_byte h.holdLimit]

theorem group3Payload_readBack {g : Group3} (h : g.InRange) : group3Payload (group3ReadBack g) = some g := by
  simp [group3Payload, group3ReadBack, Group3.ofFields, mod_word h.pumpHold, mod_byte h.autosave,
    mod_byte h.errorThreshold]

/-- Settles O59, one round trip for each record. -/
theorem readBackCarriesRecord : Obligations.ReadBackCarriesRecord := by
  intro s
  refine ⟨fun i h => ⟨loopReadBack i (s.loops.get i).cfg, ?loop, by simp [loopReadBack], ?loopNumber,
      loopPayload_readBack i (LoopConfig.inRange_of_clamped h), by simp [kActionPayload, loopReadBack, yesNo]⟩,
    fun r h => ⟨roomReadBack r (s.rooms.get r).cfg, ?room, by simp [roomReadBack], ?roomNumber,
      roomPayload_readBack r (RoomConfig.inRange_of_clamped h)⟩,
    fun q h => ⟨probeReadBack q (s.probes.get q).cfg, ?probe, by simp [probeReadBack], ?probeNumber,
      probePayload_readBack q (ProbeConfig.inRange_of_clamped h)⟩,
    fun h => ⟨_, _, _, _, rfl, rfl, rfl, rfl, by simp [group0ReadBack], by simp [group1ReadBack],
      by simp [group2ReadBack], by simp [group3ReadBack], rfl, rfl, rfl, rfl, ?groups⟩⟩
  case loop => rw [replyOf, replyReadLoop, loopOfNumber_selector, Option.map_some]
  case room => rw [replyOf, replyReadRoom, roomOfNumber_selector, Option.map_some]
  case probe => rw [replyOf, replyReadProbe, probeOfNumber_selector, Option.map_some]
  case loopNumber =>
    have small : (i.val + 1) % 256 = i.val + 1 := Nat.mod_eq_of_lt (by omega)
    simp [loopReadBack, loopNumber, small]
  case roomNumber =>
    have small : (r.val + 1) % 256 = r.val + 1 := Nat.mod_eq_of_lt (by omega)
    simp [roomReadBack, roomNumber, small]
  case probeNumber =>
    have small : q.val % 256 = q.val := Nat.mod_eq_of_lt (by omega)
    simp [probeReadBack, small]
  case groups =>
    have timing := Timing.inRange_of_clamped (congrArg Params.timing h)
    have flush := (clampNat_eq_self (congrArg Params.flushTime h) (by decide)).2
    exact ⟨(timingPayload_readBack timing flush).1, (timingPayload_readBack timing flush).2,
      group1Payload_readBack (Group1.inRange_of_clamped (congrArg Params.g1 h)),
      group2Payload_readBack (Group2.inRange_of_clamped (congrArg Params.g2 h)),
      group3Payload_readBack (Group3.inRange_of_clamped (congrArg Params.g3 h))⟩

end Sys2Proof.Machine

/-! The writes of the tables: what an accepted one replaces, and what a range check refuses (R2, R3, R36,
R42, R156 to R158). -/

namespace Sys2Proof.Machine

/-! ## Clamps -/

theorem Result.ofClamp_ne {α : Type} [DecidableEq α] (a b : α) :
    Result.ofClamp (decide (a ≠ b)) = if a = b then .ok else .clamped := by
  unfold Result.ofClamp
  by_cases h : a = b <;> simp [h]

theorem Result.ofClamp_ne_or {α β : Type} [DecidableEq α] [DecidableEq β] (a b : α) (c d : β) :
    Result.ofClamp (decide (a ≠ b) || decide (c ≠ d)) = if a = b ∧ c = d then .ok else .clamped := by
  unfold Result.ofClamp
  by_cases h : a = b <;> by_cases g : c = d <;> simp [h, g]

/-- The lower end 0 of a range is no bound. -/
theorem clampNat_zero (hi v : Nat) : clampNat 0 hi v = min v hi := Nat.zero_max _

theorem LoopConfig.clamped_eq (c : LoopConfig) :
    c.clamped = { c with
      fixedDemand := min c.fixedDemand 1000
      length := c.length.map fun x => max 5 (min x 200)
      kmin := max 128 (min c.kmin 4096)
      kmax := max 128 (min c.kmax 4096)
      target := c.target.map fun x => max 200 (min x 1500) } := by
  unfold LoopConfig.clamped
  rw [clampNat_zero]
  rfl

theorem ProbeConfig.clamped_eq (c : ProbeConfig) :
    c.clamped = { c with offset := max (-500) (min c.offset 500), shift := min c.shift 8 } := by
  unfold ProbeConfig.clamped
  rw [clampNat_zero]
  rfl

/-! ## WRITE_LOOP -/

theorem ownWriteLoop_accepted {p : List Byte} {i : LoopIx} {c : LoopConfig} {unity : Bool} {s : State}
    (number : byteAt p 0 = i.val + 1) (payload : loopPayload p = some c)
    (action : kActionPayload p = some unity) (room : ∀ r, c.room = some r → (s.rooms.get r).cfg.address ≠ 0)
    (bounds : c.clamped.kmin ≤ c.clamped.kmax) :
    ownWriteLoop p s =
      (if c.clamped = c then .ok else .clamped, writeLoopRecord i c.clamped unity s) := by
  have fits : c.admissible (fun r => (s.rooms.get r).cfg.inUse) = true := by
    rw [LoopConfig.admissible_iff]
    exact ⟨fun r named => by simpa [RoomConfig.inUse] using room r named, bounds⟩
  simp only [ownWriteLoop, loopOfNumber_of_eq_succ number, payload, action, fits, if_true,
    Result.ofClamp_ne]

/-- A record written that does not disable its loop: the configuration and K alone (R3). -/
theorem writeLoopRecord_of_enabled {i : LoopIx} {c : LoopConfig} {s : State} (unity : Bool)
    (stays : ¬ ((s.loops.get i).cfg.enabled = true ∧ c.enabled = false)) :
    writeLoopRecord i c unity s = { s with
      loops := s.loops.set i { s.loops.get i with
        cfg := c, k := c.bound (if unity then 1024 else (s.loops.get i).k) } } := by
  unfold writeLoopRecord
  dsimp only
  rw [if_neg (by simpa using stays)]
  rfl

/-- Settles O12, by the owner's answer to an admissible record. -/
theorem writeLoopReplacesRecord : Obligations.WriteLoopReplacesRecord := by
  intro i c unity p m s listens len number payload action room kmin kmax c' bounds stays
  have clamped : c.clamped = c' := c.clamped_eq
  have decided := ownWriteLoop_accepted number payload action room (by rw [clamped]; exact bounds)
  rw [clamped, writeLoopRecord_of_enabled (c := c') unity stays] at decided
  exact exec_ownSend_good (fun _ _ => rfl) m listens (by simp [SendKind.lengths, len]) rfl decided rfl

/-! ## Refusals -/

theorem Policy.ofCode_of_lt : ∀ {n : Nat}, 1 < n → Policy.ofCode n = none
  | _ + 2, _ => rfl

theorem ProxyMode.ofCode_of_lt : ∀ {n : Nat}, 2 < n → ProxyMode.ofCode n = none
  | _ + 3, _ => rfl

theorem roomField_of_lt {n : Nat} (h : 12 < n) : roomField n = none := by
  rw [roomField, if_neg (by omega), roomOfNumber_of_outside (.inr h)]
  rfl

theorem roomField_of_eq_succ {n : Nat} {r : RoomIx} (h : n = r.val + 1) : roomField n = some (some r) := by
  rw [roomField, if_neg (by omega), roomOfNumber_of_eq_succ h]
  rfl

theorem ownWriteLoop_of_number {p : List Byte} (h : loopOfNumber (byteAt p 0) = none) (s : State) :
    ownWriteLoop p s = (.refusedRange, s) := by simp [ownWriteLoop, h]

theorem ownWriteLoop_of_payload {p : List Byte} (h : loopPayload p = none) (s : State) :
    ownWriteLoop p s = (.refusedRange, s) := by
  unfold ownWriteLoop
  rw [h]
  split
  · rename_i named _
    cases named
  · rfl

theorem ownWriteLoop_of_action {p : List Byte} (h : kActionPayload p = none) (s : State) :
    ownWriteLoop p s = (.refusedRange, s) := by
  unfold ownWriteLoop
  rw [h]
  split
  · rename_i named
    cases named
  · rfl

/-- A payload whose configuration cannot be admitted is refused, whatever the rest of it names. -/
theorem ownWriteLoop_of_inadmissible {p : List Byte} {s : State}
    (h : ∀ c, loopPayload p = some c → c.admissible (fun r => (s.rooms.get r).cfg.inUse) = false) :
    ownWriteLoop p s = (.refusedRange, s) := by
  unfold ownWriteLoop
  split
  · rename_i c _ _ payload _
    rw [if_neg (by simp [h c payload])]
  · rfl

/-- What the fields of a WRITE_LOOP payload must name for it to carry a configuration (R2). -/
theorem loopPayload_eq_some {p : List Byte} {c : LoopConfig} (h : loopPayload p = some c) :
    yesNo (byteAt p 1) = some c.enabled ∧ roomField (byteAt p 2) = some c.room
      ∧ Policy.ofCode (byteAt p 10) = some c.policy ∧ c.kmin = wordAt p 6 ∧ c.kmax = wordAt p 8 := by
  simp only [loopPayload, LoopConfig.ofFields, Option.bind_eq_bind, Option.bind_eq_some_iff, Option.pure_def,
    Option.some.injEq] at h
  obtain ⟨e, enabled, r, room, q, policy, rfl⟩ := h
  exact ⟨enabled, room, policy, rfl, rfl⟩

theorem loopPayload_eq_none {p : List Byte}
    (h : yesNo (byteAt p 1) = none ∨ roomField (byteAt p 2) = none ∨ Policy.ofCode (byteAt p 10) = none) :
    loopPayload p = none := by
  rw [Option.eq_none_iff_forall_not_mem]
  intro c carried
  obtain ⟨enabled, room, policy, -, -⟩ := loopPayload_eq_some carried
  simp [enabled, room, policy] at h

/-- A WRITE_LOOP that R2 refuses. -/
theorem ownWriteLoop_refused {p : List Byte} {s : State}
    (h : byteAt p 0 = 0 ∨ 16 < byteAt p 0 ∨ 1 < byteAt p 1 ∨ 1 < byteAt p 10 ∨ 1 < byteAt p 13
      ∨ 12 < byteAt p 2 ∨ (∃ r : RoomIx, byteAt p 2 = r.val + 1 ∧ (s.rooms.get r).cfg.address = 0)
      ∨ max 128 (min (wordAt p 8) 4096) < max 128 (min (wordAt p 6) 4096)) :
    ownWriteLoop p s = (.refusedRange, s) := by
  obtain number | number | enabled | policy | action | room | ⟨r, named, free⟩ | bounds := h
  · exact ownWriteLoop_of_number (loopOfNumber_of_outside (.inl number)) s
  · exact ownWriteLoop_of_number (loopOfNumber_of_outside (.inr number)) s
  · exact ownWriteLoop_of_payload (loopPayload_eq_none (.inl (yesNo_of_lt enabled))) s
  · exact ownWriteLoop_of_payload (loopPayload_eq_none (.inr (.inr (Policy.ofCode_of_lt policy)))) s
  · exact ownWriteLoop_of_action (yesNo_of_lt action) s
  · exact ownWriteLoop_of_payload (loopPayload_eq_none (.inr (.inl (roomField_of_lt room)))) s
  · refine ownWriteLoop_of_inadmissible fun c carried => ?_
    obtain ⟨-, room, -, -, -⟩ := loopPayload_eq_some carried
    have named : c.room = some r := by
      rw [roomField_of_eq_succ named, Option.some.injEq] at room
      exact room.symm
    rw [Bool.eq_false_iff, Ne, LoopConfig.admissible_iff]
    rintro ⟨used, -⟩
    simpa [RoomConfig.inUse, free] using used r named
  · refine ownWriteLoop_of_inadmissible fun c carried => ?_
    obtain ⟨-, -, -, kmin, kmax⟩ := loopPayload_eq_some carried
    rw [Bool.eq_false_iff, Ne, LoopConfig.admissible_iff, c.clamped_eq]
    rintro ⟨-, ordered⟩
    simp only [kmin, kmax] at ordered
    omega

/-- What the fields of a WRITE_ROOM payload must name for it to carry a configuration (R42, R175). -/
theorem roomPayload_eq_some {p : List Byte} {c : RoomConfig} (h : roomPayload p = some c) :
    byteAt p 1 < 128 ∧ c.address = BitVec.ofNat 7 (byteAt p 1) ∧ ProxyMode.ofCode (byteAt p 2) = some c.proxy := by
  simp only [roomPayload, RoomConfig.ofFields, addressField, Option.bind_eq_bind, Option.bind_eq_some_iff,
    Option.pure_def, Option.some.injEq, Option.ite_none_right_eq_some] at h
  obtain ⟨a, ⟨link, rfl⟩, q, proxy, rfl⟩ := h
  exact ⟨link, rfl, proxy⟩

theorem ownWriteRoom_of_number {p : List Byte} (h : roomOfNumber (byteAt p 0) = none) (s : State) :
    ownWriteRoom p s = (.refusedRange, s) := by simp [ownWriteRoom, h]

/-- A payload whose configuration the room cannot take is refused. -/
theorem ownWriteRoom_of_inadmissible {p : List Byte} {s : State}
    (h : ∀ r c, roomOfNumber (byteAt p 0) = some r → roomPayload p = some c → roomAdmissible r c s = false) :
    ownWriteRoom p s = (.refusedRange, s) := by
  unfold ownWriteRoom
  split
  · rename_i r c number payload
    rw [if_neg (by simp [h r c number payload])]
  · rfl

theorem roomOfNumber_eq_some {n : Nat} {r : RoomIx} (h : roomOfNumber n = some r) : n = r.val + 1 := by
  unfold roomOfNumber at h
  split at h
  · rw [Option.some.injEq] at h
    subst h
    dsimp only
    omega
  · cases h

theorem roomAdmissible_iff (r : RoomIx) (c : RoomConfig) (s : State) :
    roomAdmissible r c s = true ↔ validAddress c.address = true
      ∧ (c.address = 0 ∨ ∀ q, q = r ∨ (s.rooms.get q).cfg.address ≠ c.address)
      ∧ (c.address ≠ 0 ∨ ∀ i, (s.loops.get i).cfg.room ≠ some r) := by
  simp [roomAdmissible, loopOfRoom, and_assoc]

/-- A WRITE_ROOM that R42 refuses. -/
theorem ownWriteRoom_refused {p : List Byte} {s : State}
    (h : byteAt p 0 = 0 ∨ 12 < byteAt p 0 ∨ 2 < byteAt p 2
      ∨ (byteAt p 1 ≠ 0 ∧ (byteAt p 1 < 0x08 ∨ 0x5F < byteAt p 1))
      ∨ (byteAt p 1 ≠ 0 ∧ ∃ q : RoomIx, byteAt p 0 ≠ q.val + 1
          ∧ (s.rooms.get q).cfg.address.toNat = byteAt p 1)
      ∨ (byteAt p 1 = 0 ∧ ∃ (r : RoomIx) (i : LoopIx), byteAt p 0 = r.val + 1
          ∧ (s.loops.get i).cfg.room = some r)) :
    ownWriteRoom p s = (.refusedRange, s) := by
  have toNat {c : RoomConfig} (link : byteAt p 1 < 128) (address : c.address = BitVec.ofNat 7 (byteAt p 1)) :
      c.address.toNat = byteAt p 1 := by
    rw [address, BitVec.toNat_ofNat, Nat.mod_eq_of_lt link]
  obtain number | number | proxy | ⟨named, range⟩ | ⟨named, q, other, held⟩ | ⟨free, r, i, number, room⟩ := h
  · exact ownWriteRoom_of_number (roomOfNumber_of_outside (.inl number)) s
  · exact ownWriteRoom_of_number (roomOfNumber_of_outside (.inr number)) s
  · refine ownWriteRoom_of_inadmissible fun r c _ carried => ?_
    obtain ⟨-, -, mode⟩ := roomPayload_eq_some carried
    rw [ProxyMode.ofCode_of_lt proxy] at mode
    cases mode
  all_goals
    refine ownWriteRoom_of_inadmissible fun r' c number' carried => ?_
    obtain ⟨link, address, -⟩ := roomPayload_eq_some carried
    have value := toNat link address
    rw [Bool.eq_false_iff, Ne, roomAdmissible_iff]
    rintro ⟨valid, unique, unnamed⟩
  · have zero : c.address ≠ 0 := fun e => named (by rw [← value, e]; rfl)
    simp only [validAddress, Bool.or_eq_true, Bool.and_eq_true, decide_eq_true_eq, value] at valid
    have := valid.resolve_left zero
    omega
  · have zero : c.address ≠ 0 := fun e => named (by rw [← value, e]; rfl)
    obtain rfl | differs := (unique.resolve_left zero) q
    · exact other (roomOfNumber_eq_some number')
    · exact differs (BitVec.eq_of_toNat_eq (held.trans value.symm))
  · have zero : c.address = 0 := by
      rw [address, free]
      rfl
    rw [roomOfNumber_of_eq_succ number, Option.some.injEq] at number'
    subst number'
    exact unnamed.resolve_left (fun differs => differs zero) i room

theorem ownWriteManifold_refused {p : List Byte} (group : 3 < byteAt p 0) (s : State) :
    ownWriteManifold p s = (.refusedRange, s) := by
  unfold ownWriteManifold
  split <;> first | omega | rfl

theorem groupLength_of_lt : ∀ {g : Nat}, 3 < g → groupLength g = none
  | _ + 4, _ => rfl

/-- Settles O13: each range check by the field that fails it. -/
theorem writesRefusedByRange : Obligations.WritesRefusedByRange := by
  intro p m s listens
  refine ⟨fun len bad => ?loop, fun len bad => ?room, fun len group => ?manifold⟩
  case loop =>
    exact exec_ownSend_good (fun _ _ => rfl) m listens (by simp [SendKind.lengths, len]) rfl
      (ownWriteLoop_refused bad) rfl
  case room =>
    exact exec_ownSend_good (fun _ _ => rfl) m listens (by simp [SendKind.lengths, len]) rfl
      (ownWriteRoom_refused bad) rfl
  case manifold =>
    exact exec_ownSend_good (fun _ _ => rfl) m listens (by simpa [SendKind.lengths] using len)
      (by simp [SendKind.lengthAgrees, groupLength_of_lt group]) (ownWriteManifold_refused group s) rfl

/-! ## WRITE_PROBE -/

theorem Depth.ofCode_of_ne {n : Nat} (two : n ≠ 2) (four : n ≠ 4) : Depth.ofCode n = none := by
  unfold Depth.ofCode
  split
  · exact absurd rfl two
  · exact absurd rfl four
  · rfl

theorem ownWriteProbe_refused {p : List Byte}
    (h : 16 < byteAt p 0 ∨ 1 < byteAt p 1 ∨ (byteAt p 4 ≠ 2 ∧ byteAt p 4 ≠ 4)) (s : State) :
    ownWriteProbe p s = (.refusedRange, s) := by
  obtain number | fitted | ⟨two, four⟩ := h
  · simp [ownWriteProbe, probeOfNumber_of_lt number]
  · simp [ownWriteProbe, probePayload, ProbeConfig.ofFields, yesNo_of_lt fitted]
  · simp [ownWriteProbe, probePayload, ProbeConfig.ofFields, Depth.ofCode_of_ne two four]

/-- The configuration that an accepted WRITE_PROBE carries, as written (section 11.3). -/
def writtenProbe (p : List Byte) : ProbeConfig where
  fitted := byteAt p 1 = 1
  offset := signedAt p 2
  depth := if byteAt p 4 = 2 then .two else .four
  shift := byteAt p 5

theorem probePayload_named {p : List Byte} (fitted : byteAt p 1 ≤ 1)
    (depth : byteAt p 4 = 2 ∨ byteAt p 4 = 4) : probePayload p = some (writtenProbe p) := by
  unfold probePayload ProbeConfig.ofFields writtenProbe
  rw [yesNo_of_le fitted]
  obtain two | four := depth
  · rw [two]
    rfl
  · rw [four]
    rfl

theorem ownWriteProbe_accepted {p : List Byte} {q : ProbeIx} (number : byteAt p 0 = q.val)
    (fitted : byteAt p 1 ≤ 1) (depth : byteAt p 4 = 2 ∨ byteAt p 4 = 4) (s : State) :
    ownWriteProbe p s =
      (if (writtenProbe p).clamped = writtenProbe p then .ok else .clamped,
        { s with probes := s.probes.set q (Probe.initial (writtenProbe p).clamped) }) := by
  simp only [ownWriteProbe, probeOfNumber_of_eq number, probePayload_named fitted depth,
    Result.ofClamp_ne, State.setProbes]

/-- Settles O16, by whether the payload names a probe, a fitting and a depth. -/
theorem writeProbeInitialisesProbe : Obligations.WriteProbeInitialisesProbe := by
  intro p m s listens len
  refine ⟨fun bad => ?refused, ?accepted⟩
  case refused =>
    exact exec_ownSend_good (fun _ _ => rfl) m listens (by simp [SendKind.lengths, len]) rfl
      (ownWriteProbe_refused bad s) rfl
  case accepted =>
    intro q number fitted depth offset shift
    have same : (writtenProbe p).clamped = writtenProbe p ↔ offset = signedAt p 2 ∧ shift = byteAt p 5 := by
      simp [ProbeConfig.clamped_eq, writtenProbe, offset, shift]
    have decided := ownWriteProbe_accepted number fitted depth s
    have initial : Probe.initial (writtenProbe p).clamped =
        { cfg :=
            { fitted := byteAt p 1 = 1, offset := offset
              depth := if byteAt p 4 = 2 then .two else .four, shift := shift }
          accepted := false, adopting := true, run := 0, phase := .wait, counter := 0
          high := none, period := none, sample := none, filtered := none
          status := if byteAt p 1 = 1 then .suspect else .absent
          errors := 0, recovery := 0, lastError := .none } := by
      simp [Probe.initial, ProbeConfig.clamped_eq, writtenProbe, offset, shift]
    simp only [same, initial] at decided
    exact exec_ownSend_good (fun _ _ => rfl) m listens (by simp [len, SendKind.lengths]) rfl decided rfl

/-! ## WRITE_MANIFOLD, groups 0 and 1 -/

theorem Timing.clamped_eq (t : Timing) :
    t.clamped =
      { period := max 900 (min (t.period / 60 * 60) 3600), limit := max 1 (min t.limit 16)
        spacing := min t.spacing 120, tOpen := max 30 (min t.tOpen 600), tClose := max 30 (min t.tClose 900)
        margin := min t.margin 600, eMin := min t.eMin 900, minPulse := max 60 (min t.minPulse 900)
        tSettle := min t.tSettle 1200 } := by
  simp [Timing.clamped, clampNat]

/-- Settles O17, by the owner's answer. -/
theorem writeGroup0ChangesTableOnly : Obligations.WriteGroup0ChangesTableOnly := by
  intro p m s listens len group written kept flush
  have clamped : (timingPayload p).clamped = kept := (timingPayload p).clamped_eq
  have decided : ownWriteManifold p s =
      (if kept = written ∧ flush = wordAt p 17 then .ok else .clamped,
        s.setParams { s.params with timing := kept, flushTime := flush }) := by
    unfold ownWriteManifold
    rw [group]
    dsimp only
    unfold writeGroup0
    dsimp only
    rw [clamped]
    exact Prod.ext (Result.ofClamp_ne_or _ _ _ _) rfl
  exact exec_ownSend_good (fun _ _ => rfl) m listens (by simp [SendKind.lengths, len])
    (by simp [SendKind.lengthAgrees, group, groupLength, len]) decided rfl

theorem Group1.clamped_eq (g : Group1) :
    g.clamped =
      { nMeas := max 1 (min g.nMeas 120), target := max 200 (min g.target 1500), gain := min g.gain 1024
        stepMax := max 1 (min g.stepMax 256), supplyBase := max 2500 (min g.supplyBase 5000)
        supplyMax := max 2800 (min g.supplyMax 5500), trip := max 4000 (min g.trip 6500)
        hysteresis := max 100 (min g.hysteresis 1000) } := by
  simp [Group1.clamped, clampNat, clampInt]

/-- A difference clamped as a signed value or after its negative values were taken as 0 is the same, for a
range above 0 (R175, log 16). -/
theorem clamp_difference16 {lo hi : Nat} (range : lo ≤ hi) (w : Nat) :
    max lo (min (difference16 w) hi) = (max (lo : Int) (min (signed16 w) hi)).toNat := by
  unfold difference16
  omega

/-- A difference whose range is above 0 is kept by its clamp where the signed value is (R175, log 16). -/
theorem clamp_difference16_eq_iff {lo : Nat} (hi : Nat) (positive : 0 < lo) (w : Nat) :
    max lo (min (difference16 w) hi) = difference16 w
      ↔ ((max (lo : Int) (min (signed16 w) hi)).toNat : Int) = signed16 w := by
  unfold difference16
  omega

/-- What group 1 writes (R158, R132). -/
theorem writeGroup1_admissible {p : List Byte} {n : Group1} (s : State) (clamped : (group1Payload p).clamped = n)
    (ordered : n.supplyBase ≤ n.supplyMax) :
    writeGroup1 p s =
      (if n = group1Payload p then .ok else .clamped,
        { s with
          params := { s.params with g1 := n }
          supply := { s.supply with
            bias := if n.supplyBase = s.params.g1.supplyBase ∧ n.supplyMax = s.params.g1.supplyMax
              then s.supply.bias else min s.supply.bias (n.supplyMax - n.supplyBase).toNat } }) := by
  subst clamped
  unfold writeGroup1 Group1.admissible
  rw [if_pos (decide_eq_true ordered)]
  refine Prod.ext (Result.ofClamp_ne _ _) ?_
  dsimp only
  by_cases same : (group1Payload p).clamped.supplyBase = s.params.g1.supplyBase
      ∧ (group1Payload p).clamped.supplyMax = s.params.g1.supplyMax
  · rw [if_pos same, if_neg (not_or.mpr ⟨not_not.mpr same.1, not_not.mpr same.2⟩)]
    rfl
  · rw [if_neg same, if_pos (not_and_or.mp same)]
    rfl

theorem writeGroup1_inadmissible {p : List Byte} (s : State)
    (crossed : (group1Payload p).clamped.supplyMax < (group1Payload p).clamped.supplyBase) :
    writeGroup1 p s = (.refusedRange, s) := by
  unfold writeGroup1 Group1.admissible
  rw [if_neg (by simpa using crossed)]

theorem ownWriteManifold_group1 {p : List Byte} (group : byteAt p 0 = 1) (s : State) :
    ownWriteManifold p s = writeGroup1 p s := by simp [ownWriteManifold, group]

/-- Settles O18, by whether the clamped base is above the clamped max. -/
theorem writeGroup1KeepsBiasInRange : Obligations.WriteGroup1KeepsBiasInRange := by
  intro p m s listens len group base top kept
  have clamped : (group1Payload p).clamped = kept := by
    rw [Group1.clamped_eq]
    simp only [group1Payload, clamp_difference16 (lo := 200) (hi := 1500) (by decide),
      clamp_difference16 (lo := 100) (hi := 1000) (by decide)]
    rfl
  have same : kept = group1Payload p ↔ kept.nMeas = byteAt p 1 ∧ kept.target = signedAt p 2
      ∧ kept.gain = wordAt p 4 ∧ kept.stepMax = wordAt p 6 ∧ base = signedAt p 8 ∧ top = signedAt p 10
      ∧ kept.trip = signedAt p 12 ∧ kept.hysteresis = signedAt p 14 := by
    have target := clamp_difference16_eq_iff (lo := 200) 1500 (by decide) (wordAt p 2)
    have hysteresis := clamp_difference16_eq_iff (lo := 100) 1000 (by decide) (wordAt p 14)
    rw [clamp_difference16 (by decide)] at target hysteresis
    rw [Group1.mk.injEq]
    exact and_congr_right' (and_congr target (and_congr_right' (and_congr_right' (and_congr_right'
      (and_congr_right' (and_congr_right' hysteresis))))))
  have good {r : Result} {t : State} (decided : writeGroup1 p s = (r, t)) (own : t.house.own = s.house.own) :=
    exec_ownSend_good (row := .writeManifoldGroup1) (fun _ _ => rfl) m listens
      (by simp [SendKind.lengths, len]) (by simp [SendKind.lengthAgrees, group, groupLength, len])
      ((ownWriteManifold_group1 group s).trans decided) own
  refine ⟨fun crossed => ?refused, fun ordered => ?accepted⟩
  case refused =>
    exact good (writeGroup1_inadmissible s (by rw [clamped]; exact crossed)) rfl
  case accepted =>
    have decided := writeGroup1_admissible s clamped ordered
    simp only [same] at decided
    exact good decided rfl

end Sys2Proof.Machine

/-! Writes that change rooms: WRITE_ROOM and WRITE_MANIFOLD of group 2 (R42, R43, R159). -/

namespace Sys2Proof.Machine

/-! ## Rooms changed -/

theorem changeRoom_rooms (r : RoomIx) (f : Room → Room) (s : State) :
    (changeRoom r f s).rooms = s.rooms.set r (f (s.rooms.get r)) := by
  unfold changeRoom
  rw [changeRooms_rooms]
  apply Bank.ext_get
  intro q
  rw [Bank.get_imap, Bank.get_set]
  split
  · rename_i same
    rw [same]
  · rfl

/-- A report closes loops only in RUNNING, and only where a demand falls to 0 (R50). -/
theorem changeRooms_of_no_closing {f : RoomIx → Room → Room} {s : State}
    (h : ∀ r, ¬ (s.period.mode = .running ∧ 0 < derivedDemand (s.rooms.get r)
      ∧ derivedDemand (f r (s.rooms.get r)) = 0)) :
    changeRooms f s = { s with rooms := s.rooms.imap f } := by
  by_cases running : s.period.mode = .running
  · exact changeRooms_of_no_drop fun r before after => h r ⟨running, before, after⟩
  · exact reportDrops_of_not_running running

theorem changeRoom_of_no_closing {r : RoomIx} {f : Room → Room} {s : State}
    (h : ¬ (s.period.mode = .running ∧ 0 < derivedDemand (s.rooms.get r)
      ∧ derivedDemand (f (s.rooms.get r)) = 0)) :
    changeRoom r f s = { s with rooms := s.rooms.set r (f (s.rooms.get r)) } := by
  rw [← changeRoom_rooms, changeRoom, changeRooms_of_no_closing]
  intro q
  split
  · rename_i same
    rw [same]
    exact h
  · rintro ⟨-, before, after⟩
    omega

/-- The runtime of a room that is too old (R47). -/
theorem Room.aged_eq (holdTime : Nat) (v : Room) :
    v.aged holdTime =
      if (v.freshness = .fresh ∨ v.freshness = .aged) ∧ holdTime < v.age then { v with freshness := .lost }
      else v := by
  unfold Room.aged
  cases v.freshness <;> simp

/-! ## WRITE_ROOM -/

theorem RoomConfig.clamped_eq (c : RoomConfig) :
    c.clamped = { c with
      fallback := min c.fallback 1000
      floorLimit := c.floorLimit.map fun x => max 2000 (min x 3500) } := by
  unfold RoomConfig.clamped
  rw [clampNat_zero]
  rfl

/-- The segment after the address of room `r` has changed: a poll of it is marked (R43). -/
def Segment.staled (r : RoomIx) (seg : Segment) : Segment :=
  match seg.activity with
  | .polling q x => if q = r then { seg with activity := .polling q { x with stale := true } } else seg
  | .idle | .forwarding _ | .granted => seg

theorem stalePoll_eq (r : RoomIx) (s : State) : stalePoll r s = { s with seg := s.seg.staled r } := by
  unfold stalePoll Segment.staled
  cases s.seg.activity with
  | polling q x =>
    dsimp only
    split <;> rfl
  | idle => rfl
  | forwarding x => rfl
  | granted => rfl

theorem ownWriteRoom_accepted {p : List Byte} {r : RoomIx} {c : RoomConfig} {s : State}
    (number : byteAt p 0 = r.val + 1) (payload : roomPayload p = some c)
    (valid : c.address = 0 ∨ 0x08 ≤ c.address.toNat ∧ c.address.toNat ≤ 0x5F)
    (unique : c.address ≠ 0 → ∀ q, q ≠ r → (s.rooms.get q).cfg.address ≠ c.address)
    (unnamed : c.address = 0 → ∀ i, (s.loops.get i).cfg.room ≠ some r) :
    ownWriteRoom p s = (if c.clamped = c then .ok else .clamped, writeRoomRecord r c.clamped s) := by
  have admissible : roomAdmissible r c s = true := by
    rw [roomAdmissible_iff]
    refine ⟨by simpa [validAddress] using valid, ?_, ?_⟩
    · by_cases zero : c.address = 0
      · exact .inl zero
      · exact .inr fun q => or_iff_not_imp_left.mpr (unique zero q)
    · by_cases zero : c.address = 0
      · exact .inr (unnamed zero)
      · exact .inl zero
  simp only [ownWriteRoom, roomOfNumber_of_eq_succ number, payload, admissible, if_true, Result.ofClamp_ne]

/-- The state whose rooms a WRITE_ROOM changes: the segment's poll is marked where the address changes. -/
theorem writeRoomRecord_eq (r : RoomIx) (c : RoomConfig) (s : State) :
    writeRoomRecord r c s = changeRoom r (writtenRoom c) { s with
      seg := if (s.rooms.get r).cfg.address ≠ c.address then s.seg.staled r else s.seg } := by
  unfold writeRoomRecord
  rw [stalePoll_eq]
  split <;> rfl

/-- Settles O15, by the record written and by whether its demand falls. -/
theorem writeRoomReplacesRecord : Obligations.WriteRoomReplacesRecord := by
  intro r c p m s listens len number payload valid unique unnamed c' room seg house
  have clamped : c.clamped = c' := c.clamped_eq
  have decided := ownWriteRoom_accepted number payload valid unique unnamed
  rw [clamped, writeRoomRecord_eq] at decided
  have written : writtenRoom c' (s.rooms.get r) = room := by
    unfold writtenRoom
    by_cases same : (s.rooms.get r).cfg.address = c.address
    · simp only [room, if_pos same, c', same, ne_eq, not_true, if_false, Option.isNone_map,
        Option.isNone_iff_eq_none]
    · simp only [room, if_neg same, c', same, ne_eq, not_false_iff, if_true]
      rfl
  have marked : (if (s.rooms.get r).cfg.address ≠ c'.address then s.seg.staled r else s.seg) = seg := by
    by_cases same : (s.rooms.get r).cfg.address = c.address
    · rw [if_neg (not_not.mpr same)]
      simp only [seg, same, ne_eq, not_true, and_false, if_false]
      cases s.seg.activity <;> rfl
    · rw [if_pos same]
      simp only [seg, same, ne_eq, not_false_iff, and_true]
      rfl
  rw [marked] at decided
  refine ⟨_, exec_ownSend_good (fun _ _ => rfl) m listens (by simp [SendKind.lengths, len]) rfl decided
    (by simp), ?_, ?_, ?_, fun no => ?_⟩
  · rw [driveLines_rooms, ← written]
    exact changeRoom_rooms r _ _
  · simp
  · simp [house]
  · rw [changeRoom_of_no_closing (by rw [← written] at no; exact no), ← written]

/-! ## WRITE_MANIFOLD, group 2 -/

/-- Settles O19, by the ages above the new hold time and by whether a demand falls. -/
theorem writeGroup2AgesRooms : Obligations.WriteGroup2AgesRooms := by
  intro p m s listens len group written kept room house
  have clamped : (group2Payload p).clamped = kept := rfl
  have aged : (fun (_ : RoomIx) => Room.aged kept.holdTime) = fun _ v => room v := by
    funext _ v
    exact v.aged_eq kept.holdTime
  have decided : ownWriteManifold p s =
      (if kept = written then .ok else .clamped,
        changeRooms (fun _ v => room v) { s with params := { s.params with g2 := kept } }) := by
    rw [← aged]
    unfold ownWriteManifold
    rw [group]
    dsimp only
    unfold writeGroup2
    dsimp only
    rw [clamped]
    exact Prod.ext (Result.ofClamp_ne _ _) rfl
  refine ⟨_, exec_ownSend_good (fun _ _ => rfl) m listens (by simp [SendKind.lengths, len])
    (by simp [SendKind.lengthAgrees, group, groupLength, len]) decided (by simp), ?_, ?_, ?_, fun no => ?_⟩
  · simp
  · rw [driveLines_rooms]
    exact changeRooms_rooms _ _
  · simp [house]
  · rw [changeRooms_of_no_closing (s := { s with params := { s.params with g2 := kept } }) no]

end Sys2Proof.Machine

/-! A loop closed early or disabled: no start is left to it, its channel is released, and the grants that
follow leave both so (R4, R80). -/

namespace Sys2Proof.Machine

/-! ## What every grant keeps -/

theorem grantsUpTo_keeps {P : State → Prop} (head : ∀ s, P s → P (grantHead s)) (n : Nat) {s : State}
    (h : P s) : P (grantsUpTo n s) := by
  induction n generalizing s with
  | zero => exact h
  | succ n ih =>
    unfold grantsUpTo
    split
    · exact ih (head s h)
    · exact h

/-- What every grant keeps, a grant opportunity keeps. -/
theorem opportunity_keeps {P : State → Prop} (head : ∀ s, P s → P (grantHead s)) {s : State} (h : P s) :
    P (opportunity s) := grantsUpTo_keeps head _ h

theorem releaseAndOffer_keeps {P : State → Prop} (head : ∀ s, P s → P (grantHead s)) {sel : LoopIx → Bool}
    {s : State} (h : P (releaseWhere sel s)) (idle : anyEnergised sel s = false → P s) :
    P (releaseAndOffer sel s) := by
  unfold releaseAndOffer
  split
  · exact opportunity_keeps head h
  · rename_i none
    exact idle (by simpa using none)

/-! ## No start left -/

/-- No entry of the queue or the plan will start this loop's channel. -/
structure NoStart (i : LoopIx) (s : State) : Prop where
  loop : .loop i ∉ s.arb.queue
  test : .test i ∉ s.arb.queue
  plan : ∀ e ∈ s.arb.plan, e.loop ≠ i

namespace NoStart

variable {i : LoopIx} {s : State}

theorem congr {t : State} (h : NoStart i s) (queue : t.arb.queue = s.arb.queue) (plan : t.arb.plan = s.arb.plan) :
    NoStart i t := ⟨by rw [queue]; exact h.loop, by rw [queue]; exact h.test, by rw [plan]; exact h.plan⟩

theorem grantHead (h : NoStart i s) : NoStart i (grantHead s) where
  loop := by
    rw [grantHead_queue]
    exact fun m => h.loop (List.mem_of_mem_drop m)
  test := by
    rw [grantHead_queue]
    exact fun m => h.test (List.mem_of_mem_drop m)
  plan := by
    rw [grantHead_plan]
    exact h.plan

/-- A grant is another loop's (R118). -/
theorem grantHead_channel (h : NoStart i s) : (Machine.grantHead s).channels.get i = s.channels.get i := by
  rw [grantHead_eq_afterHeadGrant]
  unfold State.afterHeadGrant
  split
  · rfl
  · rename_i j q queue
    have other : i ≠ j := fun e => h.loop (by rw [queue, e]; exact List.mem_cons_self)
    exact Bank.get_set_ne _ _ other
  · rename_i j q queue
    have other : i ≠ j := fun e => h.test (by rw [queue, e]; exact List.mem_cons_self)
    split <;> exact Bank.get_set_ne _ _ other

/-- With no start left to it, a channel stays as it is through a grant opportunity. -/
theorem opportunity (h : NoStart i s) :
    NoStart i (opportunity s) ∧ (Machine.opportunity s).channels.get i = s.channels.get i :=
  opportunity_keeps (P := fun t => NoStart i t ∧ t.channels.get i = s.channels.get i)
    (fun _ kept => ⟨kept.1.grantHead, kept.1.grantHead_channel.trans kept.2⟩) ⟨h, rfl⟩

end NoStart

/-- No channel test stands on this loop. -/
structure NoTest (i : LoopIx) (s : State) : Prop where
  queued : ∀ d, s.test ≠ .queued i d
  active : ∀ d r, s.test ≠ .active i d r

namespace NoTest

variable {i : LoopIx} {s : State}

theorem congr {t : State} (h : NoTest i s) (test : t.test = s.test) : NoTest i t :=
  ⟨by rw [test]; exact h.queued, by rw [test]; exact h.active⟩

theorem of_idle (h : s.test = .idle) : NoTest i s := ⟨by simp [h], by simp [h]⟩

theorem grantHead (h : NoTest i s) : NoTest i (grantHead s) := by
  rw [grantHead_eq_afterHeadGrant]
  unfold State.afterHeadGrant
  split
  · exact h
  · exact h.congr rfl
  · split
    · rename_i j d test
      have other : j ≠ i := fun e => h.queued d (by rw [test, e])
      exact ⟨fun _ => nofun, fun _ _ e => other (by injection e)⟩
    · exact h.congr rfl
    · exact h.congr rfl

theorem releaseWhere (h : NoTest i s) (sel : LoopIx → Bool) : NoTest i (releaseWhere sel s) := by
  unfold Machine.releaseWhere
  dsimp only
  split
  · split
    · exact of_idle rfl
    · exact h.congr (by simp)
  · exact h.congr (by simp)
  · exact h.congr (by simp)

theorem endTestOn (i : LoopIx) (s : State) : NoTest i (endTestOn i s) := by
  unfold Machine.endTestOn
  split
  · rename_i test
    exact of_idle test
  all_goals
    split
    · exact of_idle (endTest_test s)
    · rename_i test other
      exact ⟨by simp [test, other], by simp [test, other]⟩

end NoTest

/-! ## The records through a grant -/

/-- The records of the second bank differ from those of the first in what a grant writes alone (R118, R119). -/
def GrantsRecorded (p q : Option (Bank PeriodRecord 16)) : Prop :=
  ∀ b, p = some b → ∃ b', q = some b' ∧ ∀ i, (b'.get i).closedEarly = (b.get i).closedEarly
    ∧ (b'.get i).cls = (b.get i).cls ∧ (b'.get i).onTime = (b.get i).onTime

namespace GrantsRecorded

theorem refl (p : Option (Bank PeriodRecord 16)) : GrantsRecorded p p := fun b h => ⟨b, h, fun _ => ⟨rfl, rfl, rfl⟩⟩

theorem trans {p q r : Option (Bank PeriodRecord 16)} (a : GrantsRecorded p q) (b : GrantsRecorded q r) :
    GrantsRecorded p r := by
  intro c h
  obtain ⟨d, hd, first⟩ := a c h
  obtain ⟨e, he, second⟩ := b d hd
  refine ⟨e, he, fun i => ?_⟩
  obtain ⟨closed, cls, onTime⟩ := first i
  obtain ⟨closed', cls', onTime'⟩ := second i
  exact ⟨closed'.trans closed, cls'.trans cls, onTime'.trans onTime⟩

theorem grantHead (s : State) : GrantsRecorded s.period.records (grantHead s).period.records := by
  rw [grantHead_eq_afterHeadGrant]
  unfold State.afterHeadGrant
  split
  · exact refl _
  · intro b h
    refine ⟨_, congrArg (Option.map _) h, fun i => ?_⟩
    rw [Bank.get_set]
    split
    · rename_i same
      rw [same]
      exact ⟨rfl, rfl, rfl⟩
    · exact ⟨rfl, rfl, rfl⟩
  · split <;> exact refl _

theorem opportunity (s : State) : GrantsRecorded s.period.records (opportunity s).period.records :=
  opportunity_keeps (P := fun t => GrantsRecorded s.period.records t.period.records)
    (fun t h => h.trans (grantHead t)) (refl _)

theorem releaseAndOffer (sel : LoopIx → Bool) (s : State) :
    GrantsRecorded s.period.records (releaseAndOffer sel s).period.records :=
  releaseAndOffer_keeps (P := fun t => GrantsRecorded s.period.records t.period.records)
    (fun t h => h.trans (grantHead t)) (by rw [releaseWhere_period]; exact refl _) fun _ => refl _

theorem closeLoops (sel : LoopIx → Bool) (s : State) :
    GrantsRecorded s.period.records (closeLoops sel s).period.records :=
  releaseAndOffer sel (classOff sel (dropLoops sel s))

end GrantsRecorded

/-! ## Loops closed -/

/-- A grant releases no channel. -/
theorem grantHead_energised {s : State} {i : LoopIx} (h : (s.channels.get i).energised = true) :
    ((grantHead s).channels.get i).energised = true := by
  have set (j : LoopIx) (stop : Option Nat) :
      ((s.channels.set j ((s.channels.get j).afterGrant s.period.eff.tOpen stop)).get i).energised = true := by
    rw [Bank.get_set]
    split
    · rfl
    · exact h
  rw [grantHead_eq_afterHeadGrant]
  unfold State.afterHeadGrant
  split
  · exact h
  · exact set _ _
  · split <;> exact set _ _

/-- The selected loops leave the queue and the plan, and no grant of their channels is left. -/
theorem NoStart.dropLoops {sel : LoopIx → Bool} {i : LoopIx} {s : State} (selected : sel i = true)
    (test : .test i ∉ s.arb.queue) : NoStart i (dropLoops sel s) where
  loop m := by
    have := (List.mem_filter.mp m).2
    simp [selected] at this
  test m := test (List.mem_filter.mp m).1
  plan e m same := by
    have := (List.mem_filter.mp m).2
    simp [same, selected] at this

theorem releaseWhere_released {sel : LoopIx → Bool} {i : LoopIx} (selected : sel i = true) (s : State) :
    ((releaseWhere sel s).channels.get i).energised = false := by
  rw [releaseWhere_channels, if_pos selected]
  unfold Channel.release
  split
  · rfl
  · rename_i released
    simpa using released

theorem released_of_idle {sel : LoopIx → Bool} {i : LoopIx} {s : State} (selected : sel i = true)
    (idle : anyEnergised sel s = false) : (s.channels.get i).energised = false := by
  rw [← releaseWhere_idle idle]
  exact releaseWhere_released selected s

/-- A loop closed has no start left, and its channel is released (R80). -/
theorem closeLoops_selected {sel : LoopIx → Bool} {i : LoopIx} {s : State} (selected : sel i = true)
    (test : .test i ∉ s.arb.queue) :
    NoStart i (closeLoops sel s) ∧ ((closeLoops sel s).channels.get i).energised = false := by
  have dropped : NoStart i (classOff sel (dropLoops sel s)) := (NoStart.dropLoops selected test).congr rfl rfl
  refine releaseAndOffer_keeps (P := fun t => NoStart i t ∧ (t.channels.get i).energised = false)
    (fun t kept => ⟨kept.1.grantHead, by rw [kept.1.grantHead_channel]; exact kept.2⟩) ?_ fun idle => ?_
  · exact ⟨dropped.congr (by simp) (by simp), releaseWhere_released selected _⟩
  · exact ⟨dropped, released_of_idle selected idle⟩

theorem closeLoops_not_selected {sel : LoopIx → Bool} {i : LoopIx} {s : State} (other : sel i = false)
    (h : (s.channels.get i).energised = true) : ((closeLoops sel s).channels.get i).energised = true := by
  refine releaseAndOffer_keeps (P := fun t => (t.channels.get i).energised = true)
    (fun t => grantHead_energised) ?_ fun _ => h
  rw [releaseWhere_channels, if_neg (by simp [other])]
  exact h

theorem closeLoops_noTest {i : LoopIx} {s : State} (h : NoTest i s) (sel : LoopIx → Bool) :
    NoTest i (closeLoops sel s) :=
  releaseAndOffer_keeps (P := NoTest i) (fun _ k => k.grantHead)
    (NoTest.releaseWhere (h.congr (t := classOff sel (dropLoops sel s)) rfl) sel) fun _ => h.congr rfl

/-! ## A loop disabled -/

/-- The state that a disabled loop's test and starts are taken out of: in RUNNING its record is marked (R80). -/
def markDisabled (i : LoopIx) (s : State) : State :=
  if s.period.mode = .running then markClosed (fun j => j = i) s else s

theorem disableLoop_eq (i : LoopIx) (s : State) :
    disableLoop i s = closeLoops (fun j => j = i) (endTestOn i (markDisabled i s)) := rfl

/-- The test entries left are another loop's, where a test entry of the loop belongs to its test. -/
theorem endTestOn_queue {i : LoopIx} {s : State} (own : .test i ∈ s.arb.queue → ∃ d, s.test = .queued i d) :
    .test i ∉ (endTestOn i s).arb.queue := by
  intro member
  unfold endTestOn at member
  cases test : s.test with
  | idle =>
    simp only [test] at member
    obtain ⟨d, queued⟩ := own member
    simp [test] at queued
  | queued j d =>
    simp only [test] at member
    split at member
    · unfold endTest at member
      simp only [test] at member
      simpa using (List.mem_filter.mp member).2
    · rename_i other
      obtain ⟨d', queued⟩ := own member
      simp [test, other] at queued
  | active j d r =>
    have still : .test i ∈ s.arb.queue := by
      simp only [test] at member
      split at member
      · unfold endTest at member
        simpa [test] using member
      · exact member
    obtain ⟨d', queued⟩ := own still
    simp [test] at queued

theorem disableLoop_records {i : LoopIx} {s : State} {b : Bank PeriodRecord 16}
    (running : s.period.mode = .running) (records : s.period.records = some b) :
    ∃ b', (disableLoop i s).period.records = some b' ∧ (b'.get i).closedEarly = true := by
  have marked : (endTestOn i (markDisabled i s)).period.records =
      some (b.imap fun j r => if j = i then { r with closedEarly := true } else r) := by
    rw [endTestOn_period, markDisabled, if_pos running]
    simp [markClosed, updateRecords, records, State.setPeriod]
  obtain ⟨b', after, same⟩ := GrantsRecorded.closeLoops (fun j => j = i) _ _ marked
  refine ⟨b', after, ?_⟩
  rw [(same i).1, Bank.get_imap, if_pos rfl]

/-! ## Conditions -/

/-- A grant leaves every channel's condition. -/
theorem grantHead_condition (s : State) (i : LoopIx) :
    ((grantHead s).channels.get i).condition = (s.channels.get i).condition := by
  have set (j : LoopIx) (stop : Option Nat) :
      ((s.channels.set j ((s.channels.get j).afterGrant s.period.eff.tOpen stop)).get i).condition
        = (s.channels.get i).condition := by
    rw [Bank.get_set]
    split
    · rename_i same
      rw [same]
      rfl
    · rfl
  rw [grantHead_eq_afterHeadGrant]
  unfold State.afterHeadGrant
  split
  · rfl
  · exact set _ _
  · split <;> exact set _ _

theorem opportunity_condition (s : State) (i : LoopIx) :
    ((opportunity s).channels.get i).condition = (s.channels.get i).condition :=
  opportunity_keeps (P := fun t => (t.channels.get i).condition = (s.channels.get i).condition)
    (fun t h => (grantHead_condition t i).trans h) rfl

theorem closeLoops_condition (sel : LoopIx → Bool) (s : State) (i : LoopIx) :
    ((closeLoops sel s).channels.get i).condition = (s.channels.get i).condition :=
  releaseAndOffer_keeps (P := fun t => (t.channels.get i).condition = (s.channels.get i).condition)
    (fun t h => (grantHead_condition t i).trans h) (releaseWhere_condition _ _ i) fun _ => rfl

theorem endTest_condition (s : State) (i : LoopIx) :
    ((endTest s).channels.get i).condition = (s.channels.get i).condition := by
  unfold endTest
  split
  · rfl
  · rfl
  · exact releaseWhere_condition _ s i

theorem endTestOn_condition (i j : LoopIx) (s : State) :
    ((endTestOn i s).channels.get j).condition = (s.channels.get j).condition := by
  unfold endTestOn
  split
  · rfl
  all_goals
    split
    · exact endTest_condition s j
    · rfl

theorem disableLoop_condition (i j : LoopIx) (s : State) :
    ((disableLoop i s).channels.get j).condition = (s.channels.get j).condition := by
  rw [disableLoop_eq, closeLoops_condition, endTestOn_condition]
  unfold markDisabled
  split <;> rfl

theorem disableLoop_loops (i : LoopIx) (s : State) :
    (disableLoop i s).loops = s.loops.set i { s.loops.get i with cls := .off, onTime := 0 } := by
  have marked : (markDisabled i s).loops = s.loops := by
    unfold markDisabled
    split <;> rfl
  apply Bank.ext_get
  intro j
  rw [disableLoop_eq, closeLoops_loops, endTestOn_loops, marked, Bank.get_set]
  by_cases same : j = i
  · rw [if_pos (decide_eq_true same), if_pos same, same]
    rfl
  · rw [if_neg (by simpa using same), if_neg same]

/-- What disabling a loop leaves of its starts, its channel and its test (R4). -/
theorem disableLoop_ends {i : LoopIx} {s : State} (own : .test i ∈ s.arb.queue → ∃ d, s.test = .queued i d) :
    NoStart i (disableLoop i s) ∧ ((disableLoop i s).channels.get i).energised = false
      ∧ NoTest i (disableLoop i s) := by
  have marked : (markDisabled i s).arb = s.arb ∧ (markDisabled i s).test = s.test := by
    unfold markDisabled
    split <;> exact ⟨rfl, rfl⟩
  have left : .test i ∉ (endTestOn i (markDisabled i s)).arb.queue :=
    endTestOn_queue (by rw [marked.1, marked.2]; exact own)
  obtain ⟨start, released⟩ := closeLoops_selected (sel := fun j => j = i) (by simp) left
  exact ⟨start, released, closeLoops_noTest (NoTest.endTestOn i _) _⟩

/-- Settles O14, by what disabling a loop leaves of it. -/
theorem writeLoopDisablesLoop : Obligations.WriteLoopDisablesLoop := by
  intro i c unity p m s listens len number payload action room bounds enabled disabled own
  let t : State := { s with loops := s.loops.set i { s.loops.get i with
    cfg := c.clamped, k := c.clamped.bound (if unity then 1024 else (s.loops.get i).k) } }
  have decided := ownWriteLoop_accepted number payload action room bounds
  have record : writeLoopRecord i c.clamped unity s = disableLoop i t :=
    if_pos (by rw [enabled]; simp [LoopConfig.clamped, disabled])
  rw [record] at decided
  obtain ⟨start, released, test⟩ := disableLoop_ends (i := i) (s := t) own
  have period := disableLoop_period i t
  refine ⟨_, exec_ownSend_good (fun _ _ => rfl) m listens (by simp [SendKind.lengths, len]) rfl decided
    (disableLoop_house i t ▸ rfl), ?_⟩
  simp only [driveLines_loops, driveLines_channels, driveLines_arb, driveLines_test, driveLines_period,
    driveLines_house, driveLines_powered, driveLines_params, driveLines_probes, driveLines_rooms,
    driveLines_seg, driveLines_toolRequest, driveLines_store]
  refine ⟨?loops, released, disableLoop_condition i i t, start.loop, start.test, start.plan, test.queued,
    test.active, fun b running records => disableLoop_records running records, ?house,
    disableLoop_powered i t, disableLoop_params i t, disableLoop_probes i t, disableLoop_rooms i t,
    disableLoop_seg i t, disableLoop_toolRequest i t, disableLoop_store i t, period.mode, period.eff,
    period.time, period.summary⟩
  case loops =>
    rw [disableLoop_loops]
    simp only [t, Bank.set_set, Bank.get_set_self]
    rfl
  case house => rw [disableLoop_house]

end Sys2Proof.Machine

/-! What a new period begins with (R75, R76, R109, R110): the channels carried over, the plan, the first
entries in the queue, and the grant opportunity. -/

namespace Sys2Proof.Machine

/-! ## Grants read and write the starts alone -/

/-- The state `y` with what grants write taken from `x`: channels, test, queue and plan, records. -/
def State.withStarts (y x : State) : State :=
  { y with
    channels := x.channels
    test := x.test
    arb := x.arb
    period := { y.period with records := x.period.records } }

/-- What grants read beyond what they write is the same in both states. -/
structure SameGrants (x y : State) : Prop where
  loops : y.loops = x.loops
  eff : y.period.eff = x.period.eff
  time : y.period.time = x.period.time

namespace SameGrants

variable {x y : State}

theorem afterHeadGrant (h : SameGrants x y) :
    (y.withStarts x).afterHeadGrant = y.withStarts x.afterHeadGrant := by
  obtain ⟨loops, eff, time⟩ := h
  unfold State.afterHeadGrant
  have queue : (y.withStarts x).arb.queue = x.arb.queue := rfl
  rw [queue]
  cases x.arb.queue with
  | nil => rfl
  | cons e q =>
    cases e with
    | loop i => simp only [State.afterLoopGrant, State.withStarts, loops, eff, time]
    | test i =>
      have test : (y.withStarts x).test = x.test := rfl
      simp only [test]
      cases x.test with
      | idle => simp only [State.withStarts, eff]
      | queued j d => simp only [State.afterTestGrant, State.withStarts, eff]
      | active j d r => simp only [State.withStarts, eff]

theorem grantReady (h : SameGrants x y) : grantReady (y.withStarts x) = Machine.grantReady x := by
  unfold Machine.grantReady
  have count : energisedCount (y.withStarts x) = energisedCount x := rfl
  have eff : (y.withStarts x).period.eff = x.period.eff := h.eff
  rw [count, eff]
  rfl

theorem grantHead (h : SameGrants x y) : SameGrants (grantHead x) y where
  loops := by rw [grantHead_loops, h.loops]
  eff := by rw [grantHead_eff, h.eff]
  time := by rw [(grantHead_period x).time, h.time]

theorem grantsUpTo (h : SameGrants x y) (n : Nat) :
    grantsUpTo n (y.withStarts x) = y.withStarts (Machine.grantsUpTo n x) := by
  induction n generalizing x with
  | zero => rfl
  | succ n ih =>
    unfold Machine.grantsUpTo
    rw [h.grantReady]
    split
    · rw [← ih h.grantHead, grantHead_eq_afterHeadGrant, grantHead_eq_afterHeadGrant, h.afterHeadGrant]
    · rfl

/-- A grant opportunity is the same in a state that differs in nothing that grants read. -/
theorem opportunity (h : SameGrants x y) :
    opportunity (y.withStarts x) = y.withStarts (Machine.opportunity x) := by
  have eff : (y.withStarts x).period.eff = x.period.eff := h.eff
  unfold Machine.opportunity
  rw [eff]
  exact h.grantsUpTo _

end SameGrants

/-- A queue without test entries leaves the channel test as it is. -/
theorem opportunity_test {s : State} (h : ∀ i, .test i ∉ s.arb.queue) : (opportunity s).test = s.test := by
  refine (opportunity_keeps (P := fun t => (∀ i, .test i ∉ t.arb.queue) ∧ t.test = s.test)
    (fun t kept => ?_) ⟨h, rfl⟩).2
  obtain ⟨none, same⟩ := kept
  refine ⟨fun i m => ?_, ?_⟩
  · rw [grantHead_queue] at m
    exact none i (List.mem_of_mem_drop m)
  · rw [grantHead_eq_afterHeadGrant]
    unfold State.afterHeadGrant
    split
    · exact same
    · exact same
    · rename_i i q queue
      exact absurd (by rw [queue]; exact List.mem_cons_self) (none i)

/-! ## The start plan -/

/-- The plan entries that join at the start of a period: the first, or all where the start spacing is 0. -/
def firstJoins (spacing : Nat) (order : List LoopIx) : Nat := if spacing = 0 then order.length else 1

theorem joinTime_eq_zero {spacing k n : Nat} : k < (if spacing = 0 then n else 1) ↔ k * spacing = 0 ∧ (spacing = 0 → k < n) := by
  split
  · rename_i zero
    simp [zero]
  · rename_i positive
    simp [positive]

/-- Of the entries with the join times of R109, those at 0 are the first ones. -/
theorem filter_joins {spacing : Nat} (order : List LoopIx) (p : Nat → Bool)
    (zero : ∀ k, k < order.length → (p (k * spacing) = true ↔ k * spacing = 0)) :
    (withJoinTimes spacing order).filter (fun e => p e.joinTime)
        = (withJoinTimes spacing order).take (firstJoins spacing order)
      ∧ (withJoinTimes spacing order).filter (fun e => !p e.joinTime)
        = (withJoinTimes spacing order).drop (firstJoins spacing order) := by
  have joins : ∀ k (hk : k < (withJoinTimes spacing order).length),
      (p ((withJoinTimes spacing order)[k]).joinTime = true ↔ k < firstJoins spacing order) := by
    intro k hk
    have len : k < order.length := by simpa [withJoinTimes] using hk
    have at_k : ((withJoinTimes spacing order)[k]).joinTime = k * spacing := by simp [withJoinTimes]
    rw [at_k, zero k len, firstJoins, joinTime_eq_zero]
    simp [len]
  generalize withJoinTimes spacing order = l at joins
  generalize firstJoins spacing order = n at joins
  have first : ∀ e ∈ l.take n, p e.joinTime = true := by
    intro e m
    obtain ⟨k, hk, rfl⟩ := List.getElem_of_mem m
    rw [List.length_take] at hk
    rw [List.getElem_take]
    exact (joins k (by omega)).mpr (by omega)
  have rest : ∀ e ∈ l.drop n, p e.joinTime = false := by
    intro e m
    obtain ⟨k, hk, rfl⟩ := List.getElem_of_mem m
    rw [List.length_drop] at hk
    rw [List.getElem_drop, Bool.eq_false_iff, Ne, joins (n + k) (by omega)]
    omega
  constructor
  · conv_lhs => rw [← List.take_append_drop n l]
    rw [List.filter_append, List.filter_eq_self.mpr first, List.filter_eq_nil_iff.mpr (by simpa using rest),
      List.append_nil]
  · conv_lhs => rw [← List.take_append_drop n l]
    rw [List.filter_append, List.filter_eq_nil_iff.mpr (by simpa using first),
      List.filter_eq_self.mpr (by simpa using rest), List.nil_append]

/-! ## The state of the first grants -/

/-- The state after stage 5 of a boundary: the pass done, group 0 latched (R73, R74). -/
def latched (v : Variant) (s : State) : State :=
  stageLatch v (Bank.ofFn fun i => hold v s i) (stagePass v (Bank.ofFn fun i => hold v s i) s)

/-- The state in which the first grants of a period are decided. -/
def firstGrants (v : Variant) (s : State) : State :=
  joinDue (openPeriod (buildPlan (carryOver (latched v s))))

theorem planPeriod_eq (v : Variant) (s : State) : planPeriod v s = opportunity (firstGrants v s) := rfl

theorem latched_loops (v : Variant) (s : State) (i : LoopIx) :
    (latched v s).loops.get i = (s.loops.get i).withPass v s.params.timing (hold v s i) := stageLatch_loops v s i

@[simp] theorem latched_eff (v : Variant) (s : State) : (latched v s).period.eff = s.params.timing := by
  unfold latched
  rw [stageLatch_period, stagePass_params]

@[simp] theorem latched_channels (v : Variant) (s : State) : (latched v s).channels = s.channels := by
  unfold latched
  simp

@[simp] theorem latched_arb (v : Variant) (s : State) : (latched v s).arb = s.arb := by
  unfold latched
  simp

/-- The loops of the new period's plan, in their order (R109). -/
def newOrder (v : Variant) (s : State) : List LoopIx := planOrder (carryOver (latched v s))

section
variable (v : Variant) (s : State)

theorem firstGrants_loops : (firstGrants v s).loops = (planPeriod v s).loops := by
  rw [planPeriod_eq, opportunity_loops]

theorem firstGrants_channels (i : LoopIx) :
    (firstGrants v s).channels.get i =
      { (if staysCarried (latched v s) i then s.channels.get i
          else (s.channels.get i).release s.params.timing.tClose) with energisedSeconds := 0 } := by
  have opened : (firstGrants v s).channels.get i =
      { (carryOver (latched v s)).channels.get i with energisedSeconds := 0 } := by
    simp [firstGrants, buildPlan, openPeriod, joinDue, setPlan]
  rw [opened, carryOver, releaseWhere_channels, latched_channels, latched_eff]
  cases staysCarried (latched v s) i <;> rfl

/-- The plan and the queue of the first grants (R109, R110). -/
theorem firstGrants_arb (empty : s.arb.queue = []) (positive : 0 < s.params.timing.period) :
    (firstGrants v s).arb =
      { plan := ((newOrder v s).zipIdx.drop (firstJoins s.params.timing.spacing (newOrder v s))).map fun e =>
          { loop := e.1, joinTime := e.2 * s.params.timing.spacing }
        queue := ((newOrder v s).take (firstJoins s.params.timing.spacing (newOrder v s))).map .loop
        sinceGrant := s.arb.sinceGrant } := by
  let due (t : Nat) : Bool := t ≤ 0 && t < s.params.timing.period
  have eff : (carryOver (latched v s)).period.eff = s.params.timing := by
    rw [carryOver, releaseWhere_period, latched_eff]
  have joined : (firstGrants v s).arb =
      { plan := (withJoinTimes s.params.timing.spacing (newOrder v s)).filter fun e => !due e.joinTime
        queue := ((withJoinTimes s.params.timing.spacing (newOrder v s)).filter fun e => due e.joinTime).map
          fun e => .loop e.loop
        sinceGrant := s.arb.sinceGrant } := by
    simp only [firstGrants, buildPlan, openPeriod, joinDue, setPlan, State.setArb, State.setLoops,
      State.setChannels, State.setPeriod, carryOver_arb, latched_arb, empty, eff, List.nil_append]
    rfl
  obtain ⟨first, rest⟩ := filter_joins (spacing := s.params.timing.spacing) (newOrder v s) due
    fun k _ => by
      simp only [due, Bool.and_eq_true, decide_eq_true_eq]
      omega
  rw [joined, first, rest]
  congr 1
  · rw [withJoinTimes, List.map_drop]
  · have entries (l : List PlanEntry) :
        l.map (fun e => QueueEntry.loop e.loop) = (l.map PlanEntry.loop).map .loop := by
      rw [List.map_map]
      rfl
    rw [entries, List.map_take, withJoinTimes_loops]

/-- Only loops join, whatever their join times. -/
theorem firstGrants_test_free (empty : s.arb.queue = []) (i : LoopIx) :
    .test i ∉ (firstGrants v s).arb.queue := by
  have joined : ∀ e ∈ (firstGrants v s).arb.queue, ∃ j, e = .loop j := by
    intro e m
    simp only [firstGrants, buildPlan, openPeriod, joinDue, setPlan, State.setArb, State.setLoops,
      State.setChannels, State.setPeriod, carryOver_arb, latched_arb, empty, List.nil_append] at m
    obtain ⟨p, -, rfl⟩ := List.mem_map.mp m
    exact ⟨p.loop, rfl⟩
  intro m
  obtain ⟨j, e⟩ := joined _ m
  cases e

theorem firstGrants_records :
    (firstGrants v s).period.records = some ((planPeriod v s).loops.imap fun _ l => freshRecord l) := by
  have opened : (firstGrants v s).period.records = some ((firstGrants v s).loops.imap fun _ l => freshRecord l) := by
    simp [firstGrants, openPeriod, joinDue]
  rw [opened, firstGrants_loops]

end

/-! ## What a period begins with -/

/-- The second state differs from the first in nothing that the starts of a period are about. -/
structure SameStarts (x u : State) : Prop where
  loops : u.loops = x.loops
  channels : u.channels = x.channels
  test : u.test = x.test
  arb : u.arb = x.arb
  eff : u.period.eff = x.period.eff
  time : u.period.time = x.period.time
  records : u.period.records = x.period.records

/-- The state that a boundary plans from, as the closed-out `old` (R72): its PULSE channels released, its queue
empty. -/
structure ClosedOut (old s : State) : Prop where
  channels : ∀ i, s.channels.get i =
    if (old.loops.get i).cls = .pulse then (old.channels.get i).afterRelease old.period.eff.tClose
    else old.channels.get i
  enabled : ∀ i, (s.loops.get i).cfg.enabled = (old.loops.get i).cfg.enabled
  queue : s.arb.queue = []
  sinceGrant : s.arb.sinceGrant = old.arb.sinceGrant

section Begins

variable {v : Variant} {old s u : State}

theorem Channel.afterRelease_energised (tClose : Nat) (c : Channel) : (c.afterRelease tClose).energised = false := by
  unfold Channel.afterRelease
  split
  · rfl
  · rename_i released
    simpa using released

theorem Channel.afterRelease_of_released {c : Channel} (h : c.energised = false) (tClose : Nat) :
    c.afterRelease tClose = c := by simp [Channel.afterRelease, h]

/-- A loop that the carry-over would carry is one that keeps running (R75). -/
theorem carries_latched (closed : ClosedOut old s) (same : SameStarts (planPeriod v s) u) (i : LoopIx) :
    carries (latched v s) i = keepsRunning old u i := by
  have cls : ((latched v s).loops.get i).cls = (u.loops.get i).cls := by
    rw [same.loops, planPeriod_loops, latched_loops]
  unfold carries keepsRunning
  rw [latched_channels, cls, closed.channels i]
  split
  · rename_i pulse
    simp [Channel.afterRelease_energised, pulse]
  · rename_i other
    simp [other]

theorem staysCarried_latched (closed : ClosedOut old s) (same : SameStarts (planPeriod v s) u) (i : LoopIx) :
    staysCarried (latched v s) i = isCarried old u i := by
  have eff : u.period.eff = s.params.timing := same.eff.trans (planPeriod_eff v s)
  unfold staysCarried isCarried
  rw [carries_latched closed same, latched_eff, eff, List.countP_eq_length_filter]
  simp only [carries_latched closed same, Bool.and_comm]

/-- The channels as the new period begins (R72, R75, R76). -/
theorem firstGrants_channels_begun (closed : ClosedOut old s) (same : SameStarts (planPeriod v s) u)
    (i : LoopIx) : (firstGrants v s).channels.get i = channelBegun old u i := by
  have eff : u.period.eff = s.params.timing := same.eff.trans (planPeriod_eff v s)
  rw [firstGrants_channels, staysCarried_latched closed same, Channel.release_eq_afterRelease, closed.channels i]
  unfold channelBegun
  dsimp only
  rw [eff]
  by_cases carried : isCarried old u i = true
  · have running : keepsRunning old u i = true := (Bool.and_eq_true_iff.mp carried).1
    have other : (old.loops.get i).cls ≠ .pulse := by
      simp only [keepsRunning, Bool.and_eq_true, decide_eq_true_eq] at running
      exact running.1.2
    rw [if_pos carried, if_pos carried, if_neg other]
  · rw [if_neg carried, if_neg carried]
    split
    · rw [Channel.afterRelease_of_released (Channel.afterRelease_energised _ _)]
    · rfl

theorem mem_newOrder (closed : ClosedOut old s) (same : SameStarts (planPeriod v s) u) (i : LoopIx) :
    i ∈ newOrder v s ↔ (old.loops.get i).cfg.enabled = true ∧ (old.channels.get i).condition = .ready
      ∧ (u.loops.get i).cls ≠ .off ∧ (channelBegun old u i).energised = false := by
  have cls : ((latched v s).loops.get i).cls = (u.loops.get i).cls := by
    rw [same.loops, planPeriod_loops, latched_loops]
  have condition : (s.channels.get i).condition = (old.channels.get i).condition := by
    rw [closed.channels i]
    unfold Channel.afterRelease
    split
    · split <;> rfl
    · rfl
  have part : takesPart (carryOver (latched v s)) i = true
      ↔ (old.loops.get i).cfg.enabled = true ∧ (old.channels.get i).condition = .ready := by
    unfold takesPart carryOver
    rw [releaseWhere_loops, releaseWhere_condition, latched_channels, condition, latched_loops,
      ← closed.enabled i]
    simp [Loop.withPass]
  have energised : ((carryOver (latched v s)).channels.get i).energised = (channelBegun old u i).energised := by
    rw [← firstGrants_channels_begun closed same]
    simp [firstGrants, buildPlan, openPeriod, joinDue, setPlan]
  have loops : ((carryOver (latched v s)).loops.get i).cls = (u.loops.get i).cls := by
    rw [carryOver, releaseWhere_loops, cls]
  rw [newOrder, mem_planOrder, part, energised, loops]
  tauto

theorem startsBefore_congr {x y : State} (h : ∀ i, (y.loops.get i).cls = (x.loops.get i).cls
    ∧ (y.loops.get i).onTime = (x.loops.get i).onTime) {i j : LoopIx} (before : StartsBefore x i j) :
    StartsBefore y i j := by
  unfold StartsBefore at *
  simpa only [(h i).1, (h j).1, (h i).2, (h j).2] using before

/-- A boundary leaves the part as the new period begins (R75, R76, R109): the state that the first grants are
decided in is the one that the manual's words give, and the grant opportunity is taken in it. -/
theorem periodBegins_of_planned (closed : ClosedOut old s) (same : SameStarts (planPeriod v s) u) :
    PeriodBegins old u := by
  intro positive
  have eff : u.period.eff = s.params.timing := same.eff.trans (planPeriod_eff v s)
  rw [eff] at positive
  refine ⟨newOrder v s, planOrder_nodup _, ?sorted, mem_newOrder closed same, ?opportunity⟩
  case sorted =>
    refine (planOrder_sorted _).imp fun before => startsBefore_congr (fun i => ?_) before
    rw [same.loops, planPeriod_loops, carryOver, releaseWhere_loops, latched_loops]
    exact ⟨rfl, rfl⟩
  case opportunity =>
    have free := firstGrants_test_free v s closed.queue
    have grants : SameGrants (firstGrants v s) u := {
      loops := by rw [firstGrants_loops, same.loops]
      eff := by rw [same.eff, planPeriod_eq, opportunity_eff]
      time := by rw [same.time, planPeriod_eq, opportunity_time] }
    have begun : u.withStarts (firstGrants v s) = periodBegun old u (newOrder v s) := by
      have channels : (firstGrants v s).channels = Bank.ofFn fun i => channelBegun old u i := by
        apply Bank.ext_get
        intro i
        rw [firstGrants_channels_begun closed same, Bank.get_ofFn]
      have test : (firstGrants v s).test = u.test := by
        rw [same.test, planPeriod_eq, opportunity_test free]
      have records := firstGrants_records v s
      unfold State.withStarts periodBegun
      rw [channels, test, records, firstGrants_arb v s closed.queue positive, eff, closed.sinceGrant,
        ← same.loops]
      rfl
    have after : u = opportunity (periodBegun old u (newOrder v s)) := by
      rw [← begun, grants.opportunity]
      unfold State.withStarts
      rw [← planPeriod_eq, ← same.channels, ← same.test, ← same.arb, ← same.records]
    have decided := opportunity_after (periodBegun old u (newOrder v s))
    rwa [← after] at decided

end Begins

end Sys2Proof.Machine

/-! Forced boundaries and SET_MODE (R65, R66, R77, R79, R102, R103). -/

namespace Sys2Proof.Machine

/-! ## Releases as a whole -/

/-- The test record after a release: a test active on a channel that is released ends (R20). -/
def testAfterRelease (sel : LoopIx → Bool) (s : State) : ChannelTest :=
  match s.test with
  | .active i d r => if sel i && (s.channels.get i).energised then .idle else .active i d r
  | .idle => .idle
  | .queued i d => .queued i d

/-- A release changes the channels and the test, and nothing else: no valve's flow moves (R8, R127). -/
theorem releaseWhere_eq (sel : LoopIx → Bool) (s : State) :
    releaseWhere sel s = { s with
      channels := s.channels.imap fun i c => if sel i then c.afterRelease s.period.eff.tClose else c
      test := testAfterRelease sel s } := by
  have put : putChannels (s.channels.imap fun i c => if sel i then c.release s.period.eff.tClose else c) s =
      { s with channels := s.channels.imap fun i c => if sel i then c.afterRelease s.period.eff.tClose else c } := by
    simp only [← Channel.release_eq_afterRelease]
    refine putChannels_of_flows fun i => ?_
    rw [Bank.get_imap]
    split
    · exact Channel.release_valve_flows _ _
    · rfl
  unfold releaseWhere testAfterRelease
  rw [put]
  cases s.test with
  | idle => rfl
  | queued i d => rfl
  | active i d r =>
    dsimp only
    split <;> rfl

/-! ## A boundary from the closed-out part -/

/-- The state `x`, in which a boundary closes its period out, is `old` in what a new period reads of it. -/
structure ReadAs (old x : State) : Prop where
  channels : x.channels = old.channels
  cls : ∀ i, (x.loops.get i).cls = (old.loops.get i).cls
  enabled : ∀ i, (x.loops.get i).cfg.enabled = (old.loops.get i).cfg.enabled
  tClose : x.period.eff.tClose = old.period.eff.tClose
  sinceGrant : x.arb.sinceGrant = old.arb.sinceGrant

theorem ReadAs.refl (s : State) : ReadAs s s := ⟨rfl, fun _ => rfl, fun _ => rfl, rfl, rfl⟩

theorem closeOut_channels (s : State) (i : LoopIx) :
    (closeOut s).channels.get i =
      if (s.loops.get i).cls = .pulse then (s.channels.get i).afterRelease s.period.eff.tClose
      else s.channels.get i := by
  have released : (closeOut s).channels.get i =
      if pulseEnergised s i then (s.channels.get i).release s.period.eff.tClose else s.channels.get i := by
    unfold closeOut
    rw [releaseWhere_channels]
    rfl
  rw [released, Channel.release_eq_afterRelease]
  unfold pulseEnergised
  by_cases pulse : (s.loops.get i).cls = .pulse
  · by_cases energised : (s.channels.get i).energised = true
    · simp [pulse, energised]
    · rw [Bool.not_eq_true] at energised
      simp [pulse, energised, Channel.afterRelease_of_released]
  · simp [pulse]

theorem closeOut_sinceGrant (s : State) : (closeOut s).arb.sinceGrant = s.arb.sinceGrant := by
  simp [closeOut, clearStarts]

/-- What a boundary plans from after the close-out (R72). -/
theorem ClosedOut.of_closeOut {old x s : State} (read : ReadAs old x) (loops : s.loops = x.loops)
    (channels : s.channels = (closeOut x).channels) (arb : s.arb = (closeOut x).arb) : ClosedOut old s where
  channels i := by rw [channels, closeOut_channels, read.channels, read.cls i, read.tClose]
  enabled i := by rw [loops, read.enabled i]
  queue := by rw [arb, closeOut_queue]
  sinceGrant := by rw [arb, closeOut_sinceGrant, read.sinceGrant]

theorem forcedClose_arb (m : Mode) (s : State) : (forcedClose m s).arb = (closeOut s).arb := by
  unfold forcedClose
  split <;> simp

theorem forcedClose_closedOut {old x : State} (m : Mode) (read : ReadAs old x) :
    ClosedOut old (forcedClose m x) :=
  .of_closeOut read (forcedClose_loops m x) (forcedClose_channels m x) (forcedClose_arb m x)

/-- A forced boundary begins a period from the part as it found it (R77). -/
theorem forcedBoundary_begins {m : Mode} {old x u : State} (read : ReadAs old x)
    (same : SameStarts (forcedBoundary m x) u) : PeriodBegins old u :=
  periodBegins_of_planned (forcedClose_closedOut m read) same

theorem planPeriod_test_idle {v : Variant} {s : State} (test : s.test = .idle) (queue : s.arb.queue = []) :
    (planPeriod v s).test = .idle := by
  rw [planPeriod_eq, opportunity_test (firstGrants_test_free v s queue)]
  have carried : (carryOver (latched v s)).test = .idle :=
    releaseWhere_test_idle (by unfold latched; simpa using test) _
  simpa [firstGrants, buildPlan, openPeriod, joinDue, setPlan] using carried

theorem forcedBoundary_test_idle {m : Mode} {s : State} (test : s.test = .idle) :
    (forcedBoundary m s).test = .idle := by
  rw [forcedBoundary_eq]
  refine planPeriod_test_idle ?_ ?_
  · have closed := closeOut_test_idle test
    unfold forcedClose
    split <;> simpa using closed
  · rw [forcedClose_arb, closeOut_queue]

/-- The pass of a variant without a K update leaves the summary of stage 3. -/
theorem planPeriod_summary_of_ne_full {v : Variant} (h : v ≠ .full) (s : State) :
    (planPeriod v s).period.summary = s.period.summary := by
  rw [planPeriod_summary]
  cases v with
  | full => exact absurd rfl h
  | forced => simp [runPass]
  | flush => simp [runPass]
  | noPass => simp [runPass]

/-- From STOPPED a forced boundary leaves the summary (R77). -/
theorem forcedBoundary_summary_stopped {s : State} (stopped : s.period.mode = .stopped) (m : Mode) :
    (forcedBoundary m s).period.summary = s.period.summary := by
  rw [forcedBoundary_eq, planPeriod_summary_of_ne_full (forcedVariant_ne_full m), forcedClose, if_pos stopped]
  exact (closeOut_period s).summary

/-- From every other mode it summarises the period as shortened (R77, R82). -/
theorem forcedBoundary_summary {s : State} (running : s.period.mode ≠ .stopped) (m : Mode) :
    (forcedBoundary m s).period.summary =
      some (Bank.ofFn fun i => summaryEntry true (closeOut s) i) := by
  rw [forcedBoundary_eq, planPeriod_summary_of_ne_full (forcedVariant_ne_full m), forcedClose, if_neg running]
  rfl

/-! ## Classes -/

theorem takesPart_iff (s : State) (i : LoopIx) :
    takesPart s i = true ↔ (s.loops.get i).cfg.enabled = true ∧ (s.channels.get i).condition = .ready := by
  simp [takesPart]

/-- The class and the on-time of a loop after a forced boundary into RUNNING (R97 to R102). -/
theorem forcedBoundary_running_class (s : State) (i : LoopIx) :
    if (s.loops.get i).cfg.enabled ∧ (s.channels.get i).condition = .ready then
      ClassedAs s.params.timing (s.loops.get i).cfg.policy (loopDemand s i) (s.loops.get i).k
        ((forcedBoundary .running s).loops.get i).cls ((forcedBoundary .running s).loops.get i).onTime
    else ((forcedBoundary .running s).loops.get i).cls = .off
      ∧ ((forcedBoundary .running s).loops.get i).onTime = 0 := by
  rw [forcedBoundary_loops]
  split
  · rename_i part
    have yes : (unlearned s i).part = true := (takesPart_iff s i).mpr part
    have planned : planned (forcedVariant .running) s.params.timing (s.loops.get i).cfg.policy (unlearned s i) =
        classify s.params.timing (s.loops.get i).cfg.policy (duty (loopDemand s i) (s.loops.get i).k) :=
      if_pos yes
    simp only [Loop.withPass, planned]
    exact classify_classedAs _ _ _ _
  · rename_i no
    have not_part : (unlearned s i).part = false := Bool.eq_false_iff.mpr fun h => no ((takesPart_iff s i).mp h)
    have planned : planned (forcedVariant .running) s.params.timing (s.loops.get i).cfg.policy (unlearned s i) =
        (.off, 0) := if_neg (by simp [not_part])
    simp only [Loop.withPass, planned, and_self]

/-- The record of a loop after a forced boundary into FLUSH (R103). -/
theorem forcedBoundary_flush_loop (s : State) (i : LoopIx) :
    (forcedBoundary .flush s).loops.get i = { s.loops.get i with
      sigma := 0, n := 0
      cls := if (s.loops.get i).cfg.enabled ∧ (s.channels.get i).condition = .ready
        then .continuous else .off
      onTime := if (s.loops.get i).cfg.enabled ∧ (s.channels.get i).condition = .ready
        then s.params.timing.period else 0 } := by
  rw [forcedBoundary_loops]
  have planned : planned (forcedVariant .flush) s.params.timing (s.loops.get i).cfg.policy (unlearned s i) =
      if takesPart s i then (.continuous, s.params.timing.period) else (.off, 0) := rfl
  simp only [Loop.withPass, planned]
  split
  · rename_i part
    rw [if_pos ((takesPart_iff s i).mp part), if_pos ((takesPart_iff s i).mp part)]
    rfl
  · rename_i no
    rw [if_neg (fun h => no ((takesPart_iff s i).mpr h)), if_neg (fun h => no ((takesPart_iff s i).mpr h))]
    rfl

/-! ## SET_MODE -/

/-- A good SET_MODE through any of its rows. -/
theorem exec_setMode_good {row : SendFrame → Instr}
    (meaning : ∀ f s, exec (row f) s = whenPowered (ownSend .setMode ownSetMode f) s) {x : Byte} (m : Mark)
    {s : State} (listens : s.listens) {r : Result} {t : State} (decided : ownSetMode [x] s = (r, t))
    (own : t.house.own = s.house.own) :
    exec (row (goodFrame s .setMode [x] m)) s
      = .next (driveLines { t with house := t.house.afterSend .setMode [x] r m }) :=
  exec_ownSend_good meaning m listens (by simp [SendKind.lengths]) rfl decided own

/-- Settles O23, by the release of every channel and, from OVERHEAT, the end of the lockout. -/
theorem stopReleasesAndClears : Obligations.StopReleasesAndClears := by
  intro m s listens
  have decided : ownSetMode [0] s = (.ok, stopManifold s) := rfl
  have flows : flowCount (s.channels.imap fun _ c => c.afterRelease s.period.eff.tClose) = flowCount s.channels := by
    refine flowCount_congr fun i => ?_
    rw [Bank.get_imap, ← Channel.release_eq_afterRelease, Channel.release_valve_flows]
  have stopped : stopManifold s = { s with
      loops := s.loops.imap fun _ l => { l with cls := .off, onTime := 0, sigma := 0, n := 0 }
      channels := s.channels.imap fun _ c => c.afterRelease s.period.eff.tClose
      test := .idle
      arb := { s.arb with plan := [], queue := [] }
      period := { s.period with
        mode := .stopped, time := 0, flushTimer := none, flushDue := false, flushRanOut := none
        records := none
        lastTick := 0, drops := [] }
      supply :=
        if s.period.mode = .overheat then
          { s.supply with
            latch := false, exitFlag := false, holdTimer := none
            pump := if 0 < flowCount s.channels then .on else .off }
        else s.supply } := by
    unfold stopManifold
    rw [releaseWhere_eq]
    dsimp only
    split
    · rw [← flows]
      rfl
    · rfl
  rw [stopped] at decided
  exact exec_setMode_good (fun _ _ => rfl) m listens decided rfl

end Sys2Proof.Machine

/-! SET_MODE RUN and FLUSH (R65, R77, R79, R102, R103). -/

namespace Sys2Proof.Machine

/-! ## The state after an answered command -/

/-- The part after a command whose result is recorded, its lines driven (R138, R154). -/
def concluded (h : House) (s : State) : State := driveLines { s with house := h }

section
variable (h : House) (s : State)

@[simp] theorem concluded_house : (concluded h s).house = h := by simp [concluded]
@[simp] theorem concluded_powered : (concluded h s).powered = s.powered := by simp [concluded]
@[simp] theorem concluded_params : (concluded h s).params = s.params := by simp [concluded]
@[simp] theorem concluded_loops : (concluded h s).loops = s.loops := by simp [concluded]
@[simp] theorem concluded_channels : (concluded h s).channels = s.channels := by simp [concluded]
@[simp] theorem concluded_test : (concluded h s).test = s.test := by simp [concluded]
@[simp] theorem concluded_probes : (concluded h s).probes = s.probes := by simp [concluded]
@[simp] theorem concluded_rooms : (concluded h s).rooms = s.rooms := by simp [concluded]
@[simp] theorem concluded_seg : (concluded h s).seg = s.seg := by simp [concluded]
@[simp] theorem concluded_toolRequest : (concluded h s).toolRequest = s.toolRequest := by simp [concluded]
@[simp] theorem concluded_period : (concluded h s).period = s.period := by simp [concluded]
@[simp] theorem concluded_arb : (concluded h s).arb = s.arb := by simp [concluded]
@[simp] theorem concluded_store : (concluded h s).store = s.store := by simp [concluded]

theorem concluded_bias : (concluded h s).supply.bias = s.supply.bias := by simp [concluded, driveLines]

theorem concluded_starts : SameStarts s (concluded h s) := by constructor <;> simp

theorem SameStarts.concluded {x u : State} (same : SameStarts x u) : SameStarts x (concluded h u) := by
  obtain ⟨loops, channels, test, arb, eff, time, records⟩ := same
  constructor <;> simpa

end

/-! ## What a forced boundary is entered from -/

/-- The channel test ended as the mode leaves STOPPED (R20, R65). -/
theorem endTest_readAs (s : State) : ReadAs s.afterTestEnds (endTest s) where
  channels := by
    apply Bank.ext_get
    intro i
    unfold endTest State.afterTestEnds
    cases s.test with
    | idle => rfl
    | queued j d => rfl
    | active j d r =>
      dsimp only
      rw [State.setTest_channels, releaseWhere_channels, Bank.get_set, Channel.release_eq_afterRelease]
      by_cases same : i = j
      · rw [if_pos (decide_eq_true same), if_pos same, same]
      · rw [if_neg (by simpa using same), if_neg same]
  cls _ := by rw [endTest_loops]; rfl
  enabled _ := by rw [endTest_loops]; rfl
  tClose := by rw [endTest_period]; rfl
  sinceGrant := by
    unfold endTest
    split <;> simp [State.afterTestEnds, setQueue]

theorem stopFlush_readAs (s : State) : ReadAs s (stopFlush s) := ⟨rfl, fun _ => rfl, fun _ => rfl, rfl, rfl⟩

theorem closeOut_supply (s : State) : (closeOut s).supply = s.supply := by simp [closeOut]

theorem closeOut_energisedSeconds (s : State) (i : LoopIx) :
    ((closeOut s).channels.get i).energisedSeconds = (s.channels.get i).energisedSeconds := by
  rw [closeOut_channels]
  split
  · rw [← Channel.release_eq_afterRelease, Channel.release_energisedSeconds]
  · rfl

/-- The records that the close-out leaves: a loop still waiting has missed its start (R72). -/
theorem closeOut_records {s : State} {b : Bank PeriodRecord 16} (h : s.period.records = some b) :
    (closeOut s).period.records =
      some (b.imap fun i r => if waitsToStart s i then { r with missed := true } else r) := by
  unfold closeOut
  rw [releaseWhere_period]
  exact congrArg (Option.map _) h

/-! ## RUN -/

/-- The state from which SET_MODE RUN takes its forced boundary (R65, R20). -/
def beforeRun (s : State) : State := if s.period.mode = .stopped then endTest s else stopFlush s

theorem anyEnabled_iff (s : State) : anyEnabled s = true ↔ ∃ i, (s.loops.get i).cfg.enabled = true := by
  simp [anyEnabled]

theorem ownSetMode_run (s : State) : ownSetMode [1] s = setRun s := rfl

theorem ownSetMode_flush (s : State) : ownSetMode [2] s = setFlush s := rfl

theorem ownSetMode_unknown {x : Byte} (h : 2 < x.toNat) (s : State) : ownSetMode [x] s = (.refusedRange, s) := by
  have code : byteAt [x] 0 = x.toNat := rfl
  unfold ownSetMode
  rw [code]
  split <;> first | omega | rfl

theorem setRun_refused {s : State} (h : s.period.mode = .overheat
    ∨ ((s.period.mode = .stopped ∨ s.period.mode = .flush) ∧ ∀ i, (s.loops.get i).cfg.enabled = false)) :
    setRun s = (.refusedState, s) := by
  have none (off : ∀ i, (s.loops.get i).cfg.enabled = false) : ¬ anyEnabled s = true := by
    simp [anyEnabled_iff, off]
  unfold setRun
  obtain hot | ⟨stopped | flush, off⟩ := h
  · simp only [hot]
  · simp only [stopped, if_neg (none off)]
  · simp only [flush, if_neg (none off)]

theorem setRun_enters {s : State} (mode : s.period.mode = .stopped ∨ s.period.mode = .flush)
    (enabled : ∃ i, (s.loops.get i).cfg.enabled = true) :
    setRun s = (.ok, forcedBoundary .running (beforeRun s)) := by
  have some := (anyEnabled_iff s).mpr enabled
  unfold setRun beforeRun
  obtain stopped | flush := mode
  · simp only [stopped, if_pos some, if_true]
  · simp only [flush, if_pos some, reduceCtorEq, if_false]

section
variable (s : State)

@[simp] theorem beforeRun_loops : (beforeRun s).loops = s.loops := by unfold beforeRun; split <;> simp
@[simp] theorem beforeRun_params : (beforeRun s).params = s.params := by unfold beforeRun; split <;> simp
@[simp] theorem beforeRun_rooms : (beforeRun s).rooms = s.rooms := by unfold beforeRun; split <;> simp
@[simp] theorem beforeRun_probes : (beforeRun s).probes = s.probes := by unfold beforeRun; split <;> simp
@[simp] theorem beforeRun_powered : (beforeRun s).powered = s.powered := by unfold beforeRun; split <;> simp
@[simp] theorem beforeRun_seg : (beforeRun s).seg = s.seg := by unfold beforeRun; split <;> simp
@[simp] theorem beforeRun_toolRequest : (beforeRun s).toolRequest = s.toolRequest := by
  unfold beforeRun; split <;> simp
@[simp] theorem beforeRun_store : (beforeRun s).store = s.store := by unfold beforeRun; split <;> simp
@[simp] theorem beforeRun_house : (beforeRun s).house = s.house := by unfold beforeRun; split <;> simp

theorem beforeRun_condition (i : LoopIx) :
    ((beforeRun s).channels.get i).condition = (s.channels.get i).condition := by
  unfold beforeRun
  split
  · exact endTest_condition s i
  · rfl

theorem beforeRun_readAs :
    ReadAs (if s.period.mode = .stopped then s.afterTestEnds else s) (beforeRun s) := by
  unfold beforeRun
  split
  · exact endTest_readAs s
  · exact stopFlush_readAs s

end

/-- Settles O24, by the mode that the command finds. -/
theorem runEntersRunning : Obligations.RunEntersRunning := by
  intro m s listens same noneEnabled
  refine ⟨fun refused => ?refused, fun x unknown => ?unknown, fun running => ?running, fun mode enabled => ?enters⟩
  case refused =>
    exact exec_setMode_good (fun _ _ => rfl) m listens ((ownSetMode_run s).trans (setRun_refused refused)) rfl
  case unknown => exact exec_setMode_good (fun _ _ => rfl) m listens (ownSetMode_unknown unknown s) rfl
  case running =>
    exact exec_setMode_good (fun _ _ => rfl) m listens
      ((ownSetMode_run s).trans (show setRun s = (.ok, s) by unfold setRun; rw [running])) rfl
  case enters =>
    have decided := (ownSetMode_run s).trans (setRun_enters mode enabled)
    have limit := HoldingLimitKept.forcedBoundary .running (beforeRun s)
    refine ⟨concluded (s.house.afterSend .setMode [1] .ok m) (forcedBoundary .running (beforeRun s)), ?exec, ?mode,
      ?time, ?eff, ?limit, fun i => ?loop, fun stopped => ?stopped, fun flush => ?flush, ?begins, ?house, ?rest⟩
    case exec =>
      rw [exec_setMode_good (fun _ _ => rfl) m listens decided (by simp)]
      simp [concluded]
    case mode => simp
    case time => simp
    case eff => simp
    case limit =>
      unfold HoldingLimitKept at limit
      simpa [energisedCount] using limit
    case loop =>
      have cls := forcedBoundary_running_class (beforeRun s) i
      simp only [beforeRun_loops, beforeRun_params, beforeRun_condition,
        loopDemand_congr (s := s) (t := beforeRun s) (i := i) (by simp) (by simp)] at cls
      refine ⟨?_, ?_, ?_, ?_, by rw [concluded_loops]; exact cls⟩ <;>
        simp [forcedBoundary_loops, Loop.withPass, unlearned]
    case stopped =>
      have ended : beforeRun s = endTest s := if_pos stopped
      rw [concluded_test, concluded_period, ended]
      exact ⟨forcedBoundary_test_idle (endTest_test s), by
        rw [forcedBoundary_summary_stopped (by simpa using stopped), endTest_period]⟩
    case flush =>
      have ended : beforeRun s = stopFlush s := if_neg (by simp [flush])
      rw [concluded_period, ended]
      refine ⟨by simp [stopFlush], _, forcedBoundary_summary (by simp [stopFlush, flush]) .running, fun i => ?_⟩
      rw [Bank.get_ofFn]
      exact ⟨rfl, rfl, by simp [summaryEntry]⟩
    case begins => exact forcedBoundary_begins (beforeRun_readAs s) (concluded_starts _ _)
    case house => simp
    case rest => simp

/-! ## FLUSH -/

/-- The state from which SET_MODE FLUSH takes its forced boundary (R65, R20). -/
def beforeFlush (s : State) : State := if s.period.mode = .stopped then endTest s else s

section
variable (s : State)

@[simp] theorem beforeFlush_loops : (beforeFlush s).loops = s.loops := by unfold beforeFlush; split <;> simp
@[simp] theorem beforeFlush_params : (beforeFlush s).params = s.params := by unfold beforeFlush; split <;> simp
@[simp] theorem beforeFlush_rooms : (beforeFlush s).rooms = s.rooms := by unfold beforeFlush; split <;> simp
@[simp] theorem beforeFlush_probes : (beforeFlush s).probes = s.probes := by unfold beforeFlush; split <;> simp
@[simp] theorem beforeFlush_powered : (beforeFlush s).powered = s.powered := by
  unfold beforeFlush; split <;> simp
@[simp] theorem beforeFlush_seg : (beforeFlush s).seg = s.seg := by unfold beforeFlush; split <;> simp
@[simp] theorem beforeFlush_toolRequest : (beforeFlush s).toolRequest = s.toolRequest := by
  unfold beforeFlush; split <;> simp
@[simp] theorem beforeFlush_store : (beforeFlush s).store = s.store := by unfold beforeFlush; split <;> simp
@[simp] theorem beforeFlush_house : (beforeFlush s).house = s.house := by unfold beforeFlush; split <;> simp
@[simp] theorem beforeFlush_supply : (beforeFlush s).supply = s.supply := by unfold beforeFlush; split <;> simp

theorem beforeFlush_condition (i : LoopIx) :
    ((beforeFlush s).channels.get i).condition = (s.channels.get i).condition := by
  unfold beforeFlush
  split
  · exact endTest_condition s i
  · rfl

theorem beforeFlush_readAs :
    ReadAs (if s.period.mode = .stopped then s.afterTestEnds else s) (beforeFlush s) := by
  unfold beforeFlush
  split
  · exact endTest_readAs s
  · exact .refl s

end

theorem setFlush_enters {s : State} (mode : s.period.mode = .stopped ∨ s.period.mode = .running) :
    setFlush s = (.ok, startFlush (forcedBoundary .flush (beforeFlush s))) := by
  unfold setFlush beforeFlush
  obtain stopped | running := mode
  · simp only [stopped, if_true]
  · simp only [running, reduceCtorEq, if_false]

/-- Only a boundary that enters RUNNING recomputes the supply bias (R73, R131). -/
theorem planPeriod_supply_of_mode {v : Variant} {s : State} (mode : s.period.mode ≠ .running) :
    (planPeriod v s).supply = s.supply := by
  rw [planPeriod_supply, stagePass, if_neg (by rw [runPass_mode]; exact mode)]
  cases v <;> simp [runPass, writeSteps]

theorem forcedBoundary_flush_supply (s : State) : (forcedBoundary .flush s).supply = s.supply := by
  rw [forcedBoundary_eq, planPeriod_supply_of_mode (by simp [forcedClose, setMode])]
  unfold forcedClose setMode
  split <;> simp [closeOut_supply, recordSummary]

theorem startFlush_starts (s : State) : SameStarts s (startFlush s) := ⟨rfl, rfl, rfl, rfl, rfl, rfl, rfl⟩

/-- Settles O25, by the mode that the command finds. -/
theorem flushRunsEveryLoop : Obligations.FlushRunsEveryLoop := by
  intro m s listens
  refine ⟨fun hot => ?refused, fun flush => ?again, fun mode => ?enters⟩
  case refused =>
    exact exec_setMode_good (fun _ _ => rfl) m listens
      ((ownSetMode_flush s).trans (show setFlush s = (.refusedState, s) by unfold setFlush; rw [hot])) rfl
  case again =>
    exact exec_setMode_good (fun _ _ => rfl) m listens
      ((ownSetMode_flush s).trans (show setFlush s = (.ok, startFlush s) by unfold setFlush; rw [flush])) rfl
  case enters =>
    have decided := (ownSetMode_flush s).trans (setFlush_enters mode)
    have limit := HoldingLimitKept.forcedBoundary .flush (beforeFlush s)
    refine ⟨concluded (s.house.afterSend .setMode [2] .ok m) (startFlush (forcedBoundary .flush (beforeFlush s))),
      ?exec, ?mode, ?time, ?eff, ?timer, ?limit, fun i => ?loop, ?bias, fun stopped => ?stopped,
      fun rec running records => ?running, ?begins, ?house, ?rest⟩
    case exec =>
      rw [exec_setMode_good (fun _ _ => rfl) m listens decided (by simp [startFlush])]
      simp [concluded, startFlush]
    case mode => simp [startFlush]
    case time => simp [startFlush]
    case eff => simp [startFlush]
    case timer => simp [startFlush]
    case limit =>
      unfold HoldingLimitKept at limit
      simpa [energisedCount, startFlush] using limit
    case loop =>
      have record := forcedBoundary_flush_loop (beforeFlush s) i
      simp only [beforeFlush_loops, beforeFlush_params, beforeFlush_condition] at record
      rw [concluded_loops, startFlush_loops, record]
    case bias =>
      rw [concluded_bias, startFlush_supply, forcedBoundary_flush_supply, beforeFlush_supply]
    case stopped =>
      have ended : beforeFlush s = endTest s := if_pos stopped
      rw [concluded_test, concluded_period, ended]
      refine ⟨forcedBoundary_test_idle (endTest_test s), ?_⟩
      have kept := forcedBoundary_summary_stopped (s := endTest s) (by simpa using stopped) .flush
      rwa [endTest_period] at kept
    case running =>
      have same : beforeFlush s = s := if_neg (by simp [running])
      rw [concluded_period, same]
      refine ⟨_, forcedBoundary_summary (by simp [running]) .flush, fun i => ?_⟩
      rw [Bank.get_ofFn]
      have planned : (summaryEntry true (closeOut s) i).planned =
          if waitsToStart s i then { rec.get i with missed := true } else rec.get i := by
        simp [summaryEntry, currentRecords, closeOut_records records]
      refine ⟨rfl, rfl, by simp [summaryEntry], by simp [summaryEntry], by simp [summaryEntry],
        closeOut_energisedSeconds s i, ?_⟩
      rw [planned]
      split <;> exact ⟨rfl, rfl, rfl⟩
    case begins =>
      exact forcedBoundary_begins (beforeFlush_readAs s) ((startFlush_starts _).concluded _)
    case house => simp
    case rest => simp [startFlush]

end Sys2Proof.Machine

/-! The room segment: when a cycle ends, what an idle controller chooses, and what a transaction's end leaves
(R53 to R55). -/

namespace Sys2Proof.Machine

/-! ## Only the segment changes -/

/-- The second state differs from the first in the room segment at most. -/
def SegOnly (s t : State) : Prop := t = { s with seg := t.seg }

namespace SegOnly

theorem refl (s : State) : SegOnly s s := rfl

theorem setSeg (seg : Segment) (s : State) : SegOnly s (s.setSeg seg) := rfl

theorem trans {s t u : State} (a : SegOnly s t) (b : SegOnly t u) : SegOnly s u := by
  unfold SegOnly at *
  rw [a] at b
  exact b

theorem endCycle (s : State) : SegOnly s (endCycle s) := by
  unfold Machine.endCycle
  split
  · exact refl s
  · split
    · exact refl s
    · split <;> exact setSeg _ s

theorem arbitrate (s : State) : SegOnly s (arbitrate s) := by
  unfold Machine.arbitrate
  split
  · split
    · exact setSeg _ s
    · split
      · exact (setSeg _ s).trans (setSeg _ _)
      all_goals
        dsimp only
        split
        · exact endCycle s
        · split
          · exact (endCycle s).trans (setSeg _ _)
          · exact endCycle s
  all_goals exact refl s

theorem cycleDue (s : State) : SegOnly s (cycleDue s) := by
  have looked : SegOnly s (if s.seg.activity.polls then s else Machine.endCycle s) := by
    split
    · exact refl s
    · exact endCycle s
  unfold Machine.cycleDue
  dsimp only
  split
  · exact looked.trans ((setSeg _ _).trans (arbitrate _))
  · exact looked.trans (setSeg _ _)

end SegOnly

/-! ## The rooms a cycle has left -/

theorem pollable_iff (s : State) (c : Nat) (q : RoomIx) :
    ((s.rooms.get q).cfg.inUse && decide (c ≤ roomNumber q)) = true ↔ PollableAt s c q := by
  rw [Bool.and_eq_true, decide_eq_true_iff]
  exact and_congr_left' (by simp [RoomConfig.inUse])

theorem pollTarget_isSome (s : State) (c : Nat) : (pollTarget s c).isSome = true ↔ ∃ r, PollableAt s c r := by
  rw [pollTarget, List.find?_isSome]
  simp only [pollable_iff, allRooms, List.mem_finRange, true_and]

theorem pollTarget_eq_none {s : State} {c : Nat} (h : ∀ r, ¬ PollableAt s c r) : pollTarget s c = none := by
  rw [← Option.not_isSome_iff_eq_none, pollTarget_isSome]
  rintro ⟨r, at_r⟩
  exact h r at_r

theorem allRooms_rising : allRooms.Pairwise (· < ·) := List.pairwise_lt_finRange 12

/-- The poll is of the lowest room that the cycle has left (R54). -/
theorem pollTarget_eq_some {s : State} {c : Nat} {r : RoomIx} (here : PollableAt s c r)
    (lowest : ∀ q, q < r → ¬ PollableAt s c q) : pollTarget s c = some r := by
  obtain ⟨target, found⟩ := Option.isSome_iff_exists.mp ((pollTarget_isSome s c).mpr ⟨r, here⟩)
  obtain ⟨at_target, before, after, split, skipped⟩ := List.find?_eq_some_iff_append.mp found
  rw [pollable_iff] at at_target
  have member : r ∈ before ++ target :: after := split ▸ List.mem_finRange r
  have sorted : (before ++ target :: after).Pairwise (· < ·) := split ▸ allRooms_rising
  rw [found, Option.some.injEq]
  rcases List.mem_append.mp member with early | late
  · have := skipped r early
    rw [Bool.not_eq_true', Bool.eq_false_iff, Ne, pollable_iff] at this
    exact absurd here this
  · rcases List.mem_cons.mp late with same | later
    · exact same.symm
    · have less : target < r := by
        obtain ⟨-, tail, -⟩ := List.pairwise_append.mp sorted
        exact (List.pairwise_cons.mp tail).1 r later
      exact absurd at_target (lowest target less)

/-- What a cycle and the controller's choice read beside the segment is the same in both states. -/
structure SegReads (s t : State) : Prop where
  address : ∀ r, (t.rooms.get r).cfg.address = (s.rooms.get r).cfg.address
  toolRequest : t.toolRequest = s.toolRequest
  holdLimit : t.params.g2.holdLimit = s.params.g2.holdLimit

namespace SegReads

variable {s t u : State}

theorem refl (s : State) : SegReads s s := ⟨fun _ => rfl, rfl, rfl⟩

theorem of_segOnly (h : SegOnly s t) : SegReads s t := by
  rw [h]
  exact ⟨fun _ => rfl, rfl, rfl⟩

theorem trans (a : SegReads s t) (b : SegReads t u) : SegReads s u :=
  ⟨fun r => (b.address r).trans (a.address r), b.toolRequest.trans a.toolRequest, b.holdLimit.trans a.holdLimit⟩

theorem pollable (h : SegReads s t) (c : Nat) (r : RoomIx) : PollableAt t c r ↔ PollableAt s c r := by
  unfold PollableAt
  rw [h.address r]

theorem cycleChecked (h : SegReads s t) (pending : t.seg.pendingCycle = s.seg.pendingCycle)
    {cursor cursor' : Option Nat} {pending' : Bool} (checked : CycleChecked t cursor cursor' pending') :
    CycleChecked s cursor cursor' pending' := by
  unfold CycleChecked at *
  simpa only [h.pollable, pending] using checked

theorem chosen (h : SegReads s t) {cursor : Option Nat} {slot : Slot} {seg : Segment}
    (chosen : Chosen t cursor slot seg) : Chosen s cursor slot seg := by
  unfold Chosen at *
  simpa only [h.pollable, h.address, h.toolRequest, h.holdLimit] using chosen

end SegReads

/-! ## The end of a cycle -/

/-- A cycle that is looked at: ended, or as it was (R53, R54). -/
theorem endCycle_checked (s : State) :
    CycleChecked s s.seg.cursor (endCycle s).seg.cursor (endCycle s).seg.pendingCycle := by
  refine ⟨fun c cursor none => ?_, fun stays => ?_⟩
  · have target := pollTarget_eq_none none
    unfold endCycle startCursor
    simp only [cursor, target, Option.isSome_none, Bool.false_eq_true, if_false]
    cases pending : s.seg.pendingCycle with
    | false =>
      refine ⟨by simp, fun h => ?_, fun _ => rfl⟩
      cases h
    | true =>
      refine ⟨rfl, fun _ some => if_pos ((pollTarget_isSome s 1).mpr some), fun h => ?_⟩
      have empty := h.resolve_left (by simp)
      simp [pollTarget_eq_none empty]
  · unfold endCycle
    rcases stays with none | ⟨c, r, cursor, here⟩
    · simp only [none, and_self]
    · have target := (pollTarget_isSome s c).mpr ⟨r, here⟩
      simp only [cursor, target, if_true, and_self]

/-- Only the cursor and the pending flag can change as a cycle is looked at. -/
theorem endCycle_seg (s : State) : (endCycle s).seg =
    { s.seg with cursor := (endCycle s).seg.cursor, pendingCycle := (endCycle s).seg.pendingCycle } := by
  unfold endCycle
  split
  · rfl
  · split
    · rfl
    · split <;> rfl

/-- A cycle has been looked at: it has ended, or has a room left. -/
def Settled (s : State) : Prop := ∀ c, s.seg.cursor = some c → (pollTarget s c).isSome = true

theorem endCycle_of_settled {s : State} (h : Settled s) : endCycle s = s := by
  unfold endCycle
  split
  · rfl
  · rename_i c cursor
    rw [if_pos (h c cursor)]

theorem endCycle_settled (s : State) : Settled (endCycle s) := by
  intro c cursor
  have target (c : Nat) : pollTarget (endCycle s) c = pollTarget s c := by
    rw [SegOnly.endCycle s]
    rfl
  rw [target]
  unfold endCycle at cursor
  split at cursor
  · rename_i none
    rw [none] at cursor
    cases cursor
  · rename_i c' old
    split at cursor
    · rename_i some
      rw [old, Option.some.injEq] at cursor
      rwa [← cursor]
    · split at cursor
      · simp only [State.setSeg, startCursor, Option.ite_none_right_eq_some, Option.some.injEq] at cursor
        rw [← cursor.2]
        exact cursor.1
      · cases cursor

/-! ## The choice of an idle controller -/

/-- What an idle controller chooses, its cycle having been looked at (R55). -/
theorem arbitrate_chosen {s : State} (idle : s.seg.activity = .idle) (settled : Settled s) :
    Chosen s s.seg.cursor s.seg.slot (arbitrate s).seg := by
  refine ⟨fun tool => ?_, fun a f tool waiting => ?_, fun tool waits => ?_⟩
  · simp [arbitrate, idle, tool, setActivity]
  · simp [arbitrate, idle, tool, waiting, beginForward, setActivity, setSlot]
  · have poll : arbitrate s =
        (match s.seg.cursor with
        | none => s
        | some c => match pollTarget s c with
          | some r => beginPoll r s
          | none => s) := by
      unfold arbitrate
      simp only [idle, tool, Bool.false_eq_true, if_false, endCycle_of_settled settled]
      cases slot : s.seg.slot with
      | waiting a f => exact absurd slot (waits a f)
      | empty => rfl
      | active a f o => rfl
    rw [poll]
    refine ⟨?_, fun none => ?_, fun c r cursor here lowest => ?_⟩
    · split
      · rfl
      · split <;> rfl
    · simp only [none, idle]
    · simp only [cursor, pollTarget_eq_some here lowest]
      rfl

/-- The choice leaves the poll timer and the cycle, which has been looked at, and what the segment carried. -/
theorem arbitrate_cycle {s : State} (settled : Settled s) :
    (arbitrate s).seg.cursor = s.seg.cursor ∧ (arbitrate s).seg.pendingCycle = s.seg.pendingCycle
      ∧ (arbitrate s).seg.pollTimer = s.seg.pollTimer := by
  unfold arbitrate
  rw [endCycle_of_settled settled]
  dsimp only
  split
  · split
    · exact ⟨rfl, rfl, rfl⟩
    · split
      · exact ⟨rfl, rfl, rfl⟩
      all_goals
        split
        · exact ⟨rfl, rfl, rfl⟩
        · split <;> exact ⟨rfl, rfl, rfl⟩
  all_goals exact ⟨rfl, rfl, rfl⟩

/-- A controller that is not IDLE chooses nothing (R55). -/
theorem arbitrate_of_busy {s : State} (busy : s.seg.activity ≠ .idle) : arbitrate s = s := by
  unfold arbitrate
  split
  · rename_i idle
    exact absurd idle busy
  all_goals rfl

/-- What the end of a transaction leaves of the segment, from a state `u` that it has left IDLE (R54, R55). -/
theorem afterTransactionEnd_of {s u : State} (reads : SegReads s u) (idle : u.seg.activity = .idle)
    (pending : u.seg.pendingCycle = s.seg.pendingCycle) (timer : u.seg.pollTimer = s.seg.pollTimer) :
    AfterTransactionEnd s u.seg.cursor u.seg.slot (arbitrate (endCycle u)).seg := by
  have settled := endCycle_settled u
  have kept := endCycle_seg u
  obtain ⟨cursor', pending', timer'⟩ := arbitrate_cycle settled
  have idle' : (endCycle u).seg.activity = .idle := by rw [kept]; exact idle
  have slot' : (endCycle u).seg.slot = u.seg.slot := by rw [kept]
  have choice := arbitrate_chosen idle' settled
  rw [slot'] at choice
  refine ⟨?_, ?_, ?_⟩
  · rw [timer', kept]
    exact timer
  · rw [cursor', pending']
    exact reads.cycleChecked pending (endCycle_checked u)
  · rw [cursor']
    exact (reads.trans (.of_segOnly (.endCycle u))).chosen choice

end Sys2Proof.Machine

/-! Rows of the room segment: the hold-off, the tool request and the poll timer (R52 to R55, R60, R61). -/

namespace Sys2Proof.Machine

/-! ## Commands under power -/

/-- Under power a command makes its change, and the lines follow. -/
theorem exec_of_powered {c : Instr} {s : State} (powered : s.powered = true)
    (other : ∀ straps, c ≠ .powerOn straps) :
    exec c s = .next (driveLines (commandEffect c (pinFollows c s))) := by
  rw [exec_eq_whenPowered other, whenPowered_of_powered (by rw [pinFollows_powered, powered])]

/-! ## Hold-off -/

/-- Settles O40, by the activity and by the limit that the transaction began with. -/
theorem holdOffBeyondLimitTimesOut : Obligations.HoldOffBeyondLimitTimesOut := by
  intro held r x s powered
  have row : exec (.roomHoldTimeout held) s = .next (driveLines (holdOff held s)) :=
    exec_of_powered powered nofun
  rw [row]
  refine ⟨fun polling beyond => ?_, fun forwarding beyond => ?_, fun busy within => ?_⟩
  · simp only [holdOff, polling, if_pos beyond]
    rfl
  · simp only [holdOff, forwarding, if_pos beyond]
    rfl
  · have short : ¬ x.holdLimit < held := Nat.not_lt.mpr within
    obtain polling | forwarding := busy
    · simp only [holdOff, polling, if_neg short]
    · simp only [holdOff, forwarding, if_neg short]

/-! ## The tool request -/

/-- The transaction of a poll of the room at the address that it holds (R52, R54). -/
def pollOf (s : State) (r : RoomIx) : Transaction where
  address := (s.rooms.get r).cfg.address
  sent := [headerByte (s.rooms.get r).cfg.address true, 0x21, 0]
  holdLimit := s.params.g2.holdLimit
  timedOut := false
  ended := false
  stale := false

/-- An idle controller with no tool request and no forward waiting, its cycle at the cursor `c`, polls the
lowest room that the cycle has left (R54, R55). -/
theorem arbitrate_polls {s : State} {c : Nat} {r : RoomIx} (idle : s.seg.activity = .idle)
    (tool : s.toolRequest = false) (slot : ∀ a f, s.seg.slot ≠ .waiting a f) (cursor : s.seg.cursor = some c)
    (here : PollableAt s c r) (lowest : ∀ q, q < r → ¬ PollableAt s c q) :
    arbitrate s = beginPoll r s := by
  have target := pollTarget_eq_some here lowest
  have settled : Settled s := fun d cursor' => by
    rw [cursor, Option.some.injEq] at cursor'
    rw [← cursor', target]
    rfl
  unfold arbitrate
  simp only [idle, tool, Bool.false_eq_true, if_false, endCycle_of_settled settled, cursor, target]
  cases taken : s.seg.slot with
  | waiting a f => exact absurd taken (slot a f)
  | empty => rfl
  | active a f o => rfl

/-- Settles O41, by the activity and by what the controller then chooses. -/
theorem toolGrantFollowsRequest : Obligations.ToolGrantFollowsRequest := by
  intro s powered
  have raised : exec .toolRequestRaised s = .next (driveLines (arbitrate (s.setToolRequest true))) :=
    exec_of_powered powered nofun
  have dropped : exec .toolRequestDropped s = .next (driveLines (dropRequest (s.setToolRequest false))) :=
    exec_of_powered powered nofun
  have ends (granted : s.seg.activity = .granted) : dropRequest (s.setToolRequest false) =
      arbitrate { s with toolRequest := false, seg := { s.seg with activity := .idle } } := by
    have act : ((s.setToolRequest false).setToolRequest false).seg.activity = .granted := granted
    unfold dropRequest
    simp only [act]
    rfl
  rw [raised, dropped]
  refine ⟨fun idle => ?_, fun busy => ?_, fun a f granted waiting => ?_, fun granted empty none => ?_,
    fun r c granted empty cursor used above lowest => ?_, fun other => ?_⟩
  · unfold arbitrate
    simp only [State.setToolRequest_seg, idle, State.setToolRequest_toolRequest, if_true]
    rfl
  · rw [arbitrate_of_busy (by simpa using busy)]
    rfl
  · rw [ends granted]
    unfold arbitrate
    simp only [waiting, Bool.false_eq_true, if_false]
    rfl
  · rw [ends granted]
    unfold arbitrate
    simp only [empty, Bool.false_eq_true, if_false, endCycle, none]
  · rw [ends granted]
    let idled : State := { s with toolRequest := false, seg := { s.seg with activity := .idle } }
    have waits (a : BitVec 7) (f : ForwardFrame) : idled.seg.slot ≠ .waiting a f := by simp [idled, empty]
    have skipped (q : RoomIx) (less : q < r) : ¬ PollableAt idled c q := by
      rintro ⟨inUse, atOrAbove⟩
      rcases lowest q less with free | below
      · exact inUse free
      · omega
    have polls : arbitrate idled = beginPoll r idled :=
      arbitrate_polls rfl rfl waits cursor ⟨used, above⟩ skipped
    rw [polls]
    rfl
  · unfold dropRequest
    have act : ((s.setToolRequest false).setToolRequest false).seg.activity = s.seg.activity := rfl
    simp only [act]
    cases activity : s.seg.activity with
    | granted => exact absurd activity other
    | idle => rfl
    | polling r x => rfl
    | forwarding x => rfl

/-! ## The poll timer -/

theorem secondsOf_ge (a : Nat) (s : State) : a ≤ secondsOf (1000 * a) s := by
  unfold secondsOf
  omega

section
variable (a : Nat) (s : State)

theorem elapse_channels : (elapse a s).channels = s.channels.imap fun _ c =>
    c.elapse (secondsOf (1000 * a) s) (periodSeconds (secondsOf (1000 * a) s) s.period) := by
  unfold elapse
  exact elapseMs_channels _ s

theorem elapse_test : (elapse a s).test = s.test.elapse (secondsOf (1000 * a) s) := by
  unfold elapse
  exact elapseMs_test _ s

theorem elapse_rooms : (elapse a s).rooms = s.rooms.imap fun _ r => r.elapse (secondsOf (1000 * a) s) := by
  unfold elapse
  exact elapseMs_rooms _ s

theorem elapse_seg :
    (elapse a s).seg = { s.seg with pollTimer := s.seg.pollTimer - secondsOf (1000 * a) s } := by
  unfold elapse
  exact elapseMs_seg _ s

theorem elapse_period : (elapse a s).period = s.period.elapse (secondsOf (1000 * a) s) := by
  unfold elapse
  exact elapseMs_period _ s

theorem elapse_arb : (elapse a s).arb = { s.arb with
    sinceGrant := s.arb.sinceGrant.map fun t => saturate Config.count16 t (secondsOf (1000 * a) s) } := by
  unfold elapse
  exact elapseMs_arb _ s

theorem elapse_supply : (elapse a s).supply =
    { s.supply with holdTimer := s.supply.holdTimer.map (· - secondsOf (1000 * a) s) } := by
  unfold elapse
  exact elapseMs_supply _ s

theorem elapse_store : (elapse a s).store =
    { s.store with saveLeft := s.store.saveLeft - secondsOf (1000 * a) s } := by
  unfold elapse
  exact elapseMs_store _ s

theorem elapse_house : (elapse a s).house =
    { s.house with timeout := s.house.timeout.map (· - 1000 * a) } := by
  unfold elapse
  exact elapseMs_house _ s

theorem elapse_reads : SegReads s (elapse a s) where
  address r := by
    rw [elapse_rooms, Bank.get_imap]
    unfold Room.elapse
    split <;> rfl
  toolRequest := elapse_toolRequest a s
  holdLimit := by rw [elapse_params]

end

theorem startCursor_of_some {s : State} {r : RoomIx} (here : PollableAt s 1 r) : startCursor s = some 1 :=
  if_pos ((pollTarget_isSome s 1).mpr ⟨r, here⟩)

theorem startCursor_of_none {s : State} (unused : ∀ r, ¬ PollableAt s 1 r) : startCursor s = none := by
  simp [startCursor, pollTarget_eq_none unused]

/-- A cycle that falls due with one running is pending (R53). -/
theorem cycleDue_running {s t : State} {c : Nat}
    (looked : (if s.seg.activity.polls then s else endCycle s) = t) (cursor : t.seg.cursor = some c) :
    cycleDue s = { t with seg := { t.seg with pendingCycle := true } } := by
  unfold cycleDue
  simp only [looked, cursor]
  rfl

/-- With no cycle running it starts, and the controller chooses (R53). -/
theorem cycleDue_starts {s t : State} (looked : (if s.seg.activity.polls then s else endCycle s) = t)
    (none : t.seg.cursor = none) :
    cycleDue s = arbitrate { t with seg := { t.seg with cursor := startCursor t } } := by
  unfold cycleDue
  simp only [looked, none]
  rfl

theorem settled_start (t : State) : Settled { t with seg := { t.seg with cursor := startCursor t } } := by
  intro c cursor
  simp only [startCursor, Option.ite_none_right_eq_some, Option.some.injEq] at cursor
  rw [← cursor.2]
  exact cursor.1

/-- A cycle that falls due leaves the poll timer (R53). -/
theorem cycleDue_timer (s : State) : (cycleDue s).seg.pollTimer = s.seg.pollTimer := by
  have looked : ∃ t, (if s.seg.activity.polls then s else endCycle s) = t
      ∧ t.seg.pollTimer = s.seg.pollTimer := by
    split
    · exact ⟨s, rfl, rfl⟩
    · exact ⟨endCycle s, rfl, by rw [endCycle_seg]⟩
  obtain ⟨t, looked, timer⟩ := looked
  cases cursor : t.seg.cursor with
  | none =>
    rw [cycleDue_starts looked cursor, (arbitrate_cycle (settled_start t)).2.2]
    exact timer
  | some c =>
    rw [cycleDue_running looked cursor]
    exact timer

section Expiry

variable {s u : State}

/-- With no cycle running and an idle controller that has nothing else to do, the lowest room in use is polled
(R53 to R55). -/
theorem cycleDue_polls {r : RoomIx} (idle : u.seg.activity = .idle) (cursor : u.seg.cursor = none)
    (tool : u.toolRequest = false) (slot : ∀ a f, u.seg.slot ≠ .waiting a f)
    (used : (u.rooms.get r).cfg.address ≠ 0) (lowest : ∀ q, q < r → (u.rooms.get q).cfg.address = 0) :
    (cycleDue u).seg = { u.seg with cursor := some 1, activity := .polling r (pollOf u r) } := by
  have looked : (if u.seg.activity.polls then u else endCycle u) = u := by
    rw [idle]
    exact endCycle_of_settled fun c some => absurd (cursor.symm.trans some) (by simp)
  have here : PollableAt u 1 r := ⟨used, by omega⟩
  have skipped (q : RoomIx) (less : q < r) : ¬ PollableAt u 1 q := fun at_q => at_q.1 (lowest q less)
  have polls := arbitrate_polls (s := { u with seg := { u.seg with cursor := some 1 } }) (c := 1) (r := r)
    idle tool slot rfl here skipped
  rw [cycleDue_starts looked cursor, startCursor_of_some here, polls]
  rfl

/-- While a poll runs its cycle is running, and another is pending (R53, R54). -/
theorem cycleDue_polling {c : Nat} (polls : u.seg.activity.polls = true) (cursor : u.seg.cursor = some c) :
    (cycleDue u).seg = { u.seg with pendingCycle := true } := by
  rw [cycleDue_running (if_pos polls) cursor]

/-- Unless a poll runs, the cycle is looked at first; one that is over starts again, and the controller chooses
(R53 to R55). -/
theorem cycleDue_looked (reads : SegReads s u) (quiet : u.seg.activity.polls = false) :
    ((endCycle u).seg.cursor ≠ none → (cycleDue u).seg =
        { u.seg with cursor := (endCycle u).seg.cursor, pendingCycle := true })
      ∧ ((endCycle u).seg.cursor = none → (cycleDue u).seg.pendingCycle = (endCycle u).seg.pendingCycle
        ∧ ((∃ r, PollableAt s 1 r) → (cycleDue u).seg.cursor = some 1)
        ∧ ((∀ r, ¬ PollableAt s 1 r) → (cycleDue u).seg.cursor = none)
        ∧ (u.seg.activity ≠ .idle →
            (cycleDue u).seg.activity = u.seg.activity ∧ (cycleDue u).seg.slot = u.seg.slot)
        ∧ (u.seg.activity = .idle → Chosen s (cycleDue u).seg.cursor u.seg.slot (cycleDue u).seg)) := by
  obtain ⟨e, ended⟩ : ∃ e, endCycle u = e := ⟨_, rfl⟩
  have looked : (if u.seg.activity.polls then u else endCycle u) = e := (if_neg (by simp [quiet])).trans ended
  have kept := endCycle_seg u
  rw [ended] at kept ⊢
  have activity : e.seg.activity = u.seg.activity := by rw [kept]
  have slot : e.seg.slot = u.seg.slot := by rw [kept]
  have reads' : SegReads s e := reads.trans (.of_segOnly (ended ▸ .endCycle u))
  refine ⟨fun still => ?_, fun finished => ?_⟩
  · obtain ⟨c, cursor⟩ := Option.ne_none_iff_exists'.mp still
    rw [cycleDue_running looked cursor]
    dsimp only
    rw [kept]
  · have settled := settled_start e
    rw [cycleDue_starts looked finished]
    obtain ⟨cursor, pending, -⟩ := arbitrate_cycle settled
    refine ⟨pending, fun ⟨r, here⟩ => ?_, fun unused => ?_, fun busy => ?_, fun idle => ?_⟩
    · rw [cursor]
      exact startCursor_of_some ((reads'.pollable 1 r).mpr here)
    · rw [cursor]
      exact startCursor_of_none fun r at_r => unused r ((reads'.pollable 1 r).mp at_r)
    · rw [arbitrate_of_busy (by rw [← activity] at busy; exact busy)]
      exact ⟨activity, slot⟩
    · have choice := arbitrate_chosen (s := { e with seg := { e.seg with cursor := startCursor e } })
        (activity.trans idle) settled
      have same : SegReads s { e with seg := { e.seg with cursor := startCursor e } } :=
        reads'.trans (.of_segOnly (SegOnly.setSeg _ _))
      rw [cursor, ← slot]
      exact same.chosen choice

end Expiry

/-- Settles O36, by whether a poll is running and by what is left of the cycle. -/
theorem pollTimerStartsCycle : Obligations.PollTimerStartsCycle := by
  intro a s powered timer t
  obtain ⟨u, restarted⟩ : ∃ u : State,
      u = t.setSeg { t.seg with pollTimer := t.params.g2.pollInterval } := ⟨_, rfl⟩
  have due : decide (t.seg.pollTimer = 0) = true := by
    have := secondsOf_ge a s
    rw [decide_eq_true_iff, elapse_seg]
    dsimp only
    omega
  have row : exec (.pollTimerExpiry a) s = .next (driveLines (cycleDue u)) := by
    rw [restarted]
    refine (exec_of_powered (c := .pollTimerExpiry a) powered nofun).trans
      (congrArg (fun t => Host.Outcome.next (driveLines t)) ?_)
    exact timed_of_due (due := fun t => decide (t.seg.pollTimer = 0)) due
  have seg : u.seg = { s.seg with pollTimer := s.params.g2.pollInterval } := by
    rw [restarted, State.setSeg_seg, elapse_params, elapse_seg]
  have only : SegOnly t u := restarted ▸ SegOnly.setSeg _ t
  have reads : SegReads s u := (elapse_reads a s).trans (.of_segOnly only)
  have address (r : RoomIx) := reads.address r
  refine ⟨(cycleDue u).seg, by rw [row, only.trans (.cycleDue u)], ?timer, ?carried,
    fun r unset idle tool slot used lowest => ?starts, fun r x c polling running cursor => ?pending,
    fun ended => ?looked⟩
  case timer => rw [cycleDue_timer, seg]
  case carried => rw [cycleDue_carried, seg]
  case starts =>
    have polls := cycleDue_polls (u := u) (r := r) (by rw [seg]; exact idle) (by rw [seg]; exact unset)
      (by rw [reads.toolRequest]; exact tool) (by rw [seg]; exact slot) (by rw [address]; exact used)
      (fun q less => by rw [address]; exact lowest q less)
    rw [polls, pollOf, address, reads.holdLimit, seg]
  case pending =>
    rw [cycleDue_polling (c := c) (by rw [seg, polling]; simp [Activity.polls, running]) (by rw [seg]; exact cursor), seg]
  case looked =>
    have quiet : u.seg.activity.polls = false := by
      rw [seg]
      cases activity : s.seg.activity with
      | polling r x => simp [Activity.polls, ended r x activity]
      | idle => rfl
      | forwarding x => rfl
      | granted => rfl
    obtain ⟨running, finished⟩ := cycleDue_looked reads quiet
    have checked := reads.cycleChecked (by rw [seg]) (endCycle_checked u)
    rw [seg] at running finished checked
    exact ⟨(endCycle u).seg.cursor, (endCycle u).seg.pendingCycle, checked, running, finished⟩

end Sys2Proof.Machine

/-! The ends of room transactions: polls (R45, R46, R48, R52). -/

namespace Sys2Proof.Machine

/-! ## Replies -/

/-- The bytes behind a reply's length byte, one more than it says: those that the unit does not drive read as
0xFF (log 19). -/
def filledReply (len : Byte) (more : List Byte) : List Byte :=
  more.take (len.toNat + 1) ++ List.replicate (len.toNat + 1 - more.length) 0xFF

theorem receivedReply_line (len : Byte) (more : List Byte) :
    (receivedReply (len :: more)).1 = len
      ∧ (receivedReply (len :: more)).2.1 = (filledReply len more).take len.toNat
      ∧ (receivedReply (len :: more)).2.1 ++ [(receivedReply (len :: more)).2.2] = filledReply len more := by
  have line := undriven_bytes more (len.toNat + 1)
  rw [List.range_succ, List.map_append, List.map_singleton] at line
  have payload : (receivedReply (len :: more)).2.1 = (List.range len.toNat).map fun i => more.getD i 0xFF := rfl
  refine ⟨rfl, ?_, line⟩
  rw [payload, filledReply, ← line, List.take_left' (by simp)]

/-- The length range and the check of a reply (R52). -/
theorem checkedReply_eq (sent : List Byte) (low high : Nat) (len : Byte) (more : List Byte) :
    checkedReply sent low high (len :: more) =
      if low ≤ len.toNat ∧ len.toNat ≤ high ∧ sum8 (sent ++ len :: filledReply len more) = 0 then
        some ((filledReply len more).take len.toNat, len :: filledReply len more)
      else none := by
  obtain ⟨first, payload, whole⟩ := receivedReply_line len more
  unfold checkedReply
  rw [show receivedReply (len :: more) = ((receivedReply (len :: more)).1, (receivedReply (len :: more)).2.1,
    (receivedReply (len :: more)).2.2) from rfl]
  dsimp only
  rw [List.append_assoc, List.cons_append, whole, first, payload]

/-- A reply of the length that its length byte says is received as it came. -/
theorem filledReply_whole {n : Nat} {payload : List Byte} (length : payload.length = n) (short : n ≤ 255)
    (check : Byte) : filledReply (byteOf n) (payload ++ [check]) = payload ++ [check]
      ∧ (byteOf n).toNat = n := by
  have size : (byteOf n).toNat = n := by simp [byteOf]; omega
  refine ⟨?_, size⟩
  rw [filledReply, size, List.take_of_length_le (by simp [length])]
  simp [length]

theorem filledReply_short {len : Byte} {more : List Byte} (short : more.length ≤ len.toNat) :
    filledReply len more = more ++ List.replicate (len.toNat + 1 - more.length) 0xFF := by
  rw [filledReply, List.take_of_length_le (by omega)]

/-- A unit that drives nothing has a length byte that no reply has (log 19). -/
theorem checkedReply_nil (sent : List Byte) {low high : Nat} (small : high < 255) :
    checkedReply sent low high [] = none := by
  unfold checkedReply receivedReply
  refine if_neg ?_
  rintro ⟨-, most, -⟩
  have : ([] : List Byte).getD 0 0xFF = 0xFF := rfl
  rw [this] at most
  exact absurd most (by simp; omega)

/-! ## A poll's end -/

/-- What a mark apart from a frame makes of the House Port (R142). -/
theorem takeMark_eq (m : Mark) (s : State) : takeMark m s = { s with house := s.house.marked m } := by
  unfold takeMark House.marked
  split <;> rfl

/-- The state in which a poll's outcome is delivered: the bytes carried, the controller IDLE. -/
theorem leaveSegment_eq (x : Transaction) (lengths : Option (Nat × Nat)) (e : RoomEnding) (s : State) :
    leaveSegment x lengths e s =
      { s with seg := { s.seg with activity := .idle, carried := carriedBytes x lengths e } } := rfl

/-- A poll has ended, and `v` is the part with its outcome delivered (R52): what the row leaves. -/
theorem exec_pollEnd {r : RoomIx} {x : Transaction} {e : RoomEnding} {k : Option Nat} {m : Mark} {s v : State}
    (powered : s.powered = true) (polling : s.seg.activity = .polling r x) (running : x.ended = false)
    (delivered : deliverPoll r x e (leaveSegment x pollLengths e s) = v)
    (seg : v.seg = { s.seg with activity := .idle, carried := carriedBytes x pollLengths e })
    (house : v.house = s.house) (reads : SegReads s v) :
    ∃ seg, exec (.roomTransactionEnd e ⟨k, m⟩) s
        = .next (driveLines { v with seg := seg, house := s.house.marked m })
      ∧ AfterTransactionEnd s (some (r.val + 2)) s.seg.slot seg ∧ seg.carried = carriedBytes x pollLengths e := by
  obtain ⟨w, moved⟩ : ∃ w : State, w = { v with seg := { v.seg with cursor := some (roomNumber r + 1) } } :=
    ⟨_, rfl⟩
  have ended : endTransaction e k s = arbitrate (endCycle w) := by
    unfold endTransaction
    simp only [polling, running, Bool.false_eq_true, if_false, delivered]
    rw [moved]
    rfl
  have only : SegOnly v (endTransaction e k s) := by
    rw [ended]
    exact SegOnly.trans (moved ▸ SegOnly.setSeg _ v) ((SegOnly.endCycle w).trans (.arbitrate _))
  have wseg : w.seg = { s.seg with
      activity := .idle, carried := carriedBytes x pollLengths e, cursor := some (r.val + 2) } := by
    rw [moved, seg]
    rfl
  have after := afterTransactionEnd_of (s := s) (u := w)
    (reads.trans (.of_segOnly (moved ▸ SegOnly.setSeg _ v))) (by rw [wseg]) (by rw [wseg]) (by rw [wseg])
  rw [← ended, wseg] at after
  refine ⟨(endTransaction e k s).seg, ?_, after, endTransaction_carried_poll polling e k⟩
  have marked : commandEffect (.roomTransactionEnd e ⟨k, m⟩) s =
      { v with seg := (endTransaction e k s).seg, house := s.house.marked m } := by
    have unfolded : commandEffect (.roomTransactionEnd e ⟨k, m⟩) s = takeMark m (endTransaction e k s) := rfl
    rw [unfolded, takeMark_eq, only]
    rw [← house]
  rw [← marked]
  exact exec_of_powered powered nofun

/-- A poll whose outcome changes its room by `f` (R45, R46). -/
theorem exec_pollDelivered {r : RoomIx} {x : Transaction} {e : RoomEnding} {k : Option Nat} {m : Mark}
    {s : State} {f : Room → Room} (powered : s.powered = true) (polling : s.seg.activity = .polling r x)
    (running : x.ended = false) (cfg : ∀ v, (f v).cfg = v.cfg)
    (delivered : deliverPoll r x e (leaveSegment x pollLengths e s)
      = changeRoom r f (leaveSegment x pollLengths e s)) :
    ∃ t, exec (.roomTransactionEnd e ⟨k, m⟩) s = .next t
      ∧ t.rooms = s.rooms.set r (f (s.rooms.get r)) ∧ t.house = s.house.marked m
      ∧ AfterTransactionEnd s (some (r.val + 2)) s.seg.slot t.seg
      ∧ t.seg.carried = carriedBytes x pollLengths e
      ∧ (¬ (s.period.mode = .running ∧ 0 < derivedDemand (s.rooms.get r)
            ∧ derivedDemand (f (s.rooms.get r)) = 0) →
          t = driveLines { s with
            rooms := s.rooms.set r (f (s.rooms.get r)), seg := t.seg, house := s.house.marked m }) := by
  have rooms := changeRoom_rooms r f (leaveSegment x pollLengths e s)
  have reads : SegReads s (changeRoom r f (leaveSegment x pollLengths e s)) := {
    address := fun q => by
      rw [rooms, Bank.get_set]
      split
      · rename_i same
        rw [same, cfg]
        rfl
      · rfl
    toolRequest := by simp [leaveSegment]
    holdLimit := by simp [leaveSegment] }
  obtain ⟨seg, row, after, carried⟩ := exec_pollEnd (k := k) (m := m) powered polling running delivered
    (by rw [changeRoom_seg, leaveSegment_eq]) (by rw [changeRoom_house, leaveSegment_eq]) reads
  refine ⟨_, row, ?_, by simp, by rw [driveLines_seg]; exact after, by rw [driveLines_seg]; exact carried,
    fun no => ?_⟩
  · rw [driveLines_rooms]
    exact rooms
  · rw [changeRoom_of_no_closing (s := leaveSegment x pollLengths e s) no, driveLines_seg]
    rfl

/-! ## Good polls -/

theorem pollResult_good {x : Transaction} {payload : List Byte} {check : Byte} {v : Report}
    (inTime : x.timedOut = false) (len : payload.length = 6 ∨ payload.length = 8)
    (report : reportOf payload = some v)
    (sum : sum8 (x.sent ++ byteOf payload.length :: payload ++ [check]) = 0) :
    pollResult x (.reply (byteOf payload.length :: payload ++ [check])) = (.answered, some v) := by
  obtain ⟨whole, size⟩ := filledReply_whole (n := payload.length) rfl (by omega) check
  have good : checkedReply x.sent 6 8 (byteOf payload.length :: (payload ++ [check])) =
      some (payload, byteOf payload.length :: (payload ++ [check])) := by
    rw [checkedReply_eq, whole, size, if_pos ⟨by omega, by omega, by
      rw [List.append_assoc, List.cons_append] at sum
      exact sum⟩, List.take_left]
  unfold pollResult
  simp only [inTime, leftUnacked, endingBytes, List.cons_append, good, Option.bind_some, report,
    Bool.false_eq_true, if_false]

theorem carriedBytes_good {x : Transaction} {payload : List Byte} {check : Byte} (inTime : x.timedOut = false)
    (running : x.ended = false) (len : payload.length = 6 ∨ payload.length = 8) :
    carriedBytes x pollLengths (.reply (byteOf payload.length :: payload ++ [check])) =
      { sent := x.sent, received := byteOf payload.length :: payload ++ [check]
        acks := List.replicate (payload.length + 1) true ++ [false] } := by
  obtain ⟨whole, size⟩ := filledReply_whole (n := payload.length) rfl (by omega) check
  have cut : x.cut = false := by simp [Transaction.cut, inTime, running]
  have taken := clockedReply_taken (low := 6) (high := 8) (len := byteOf payload.length) (by omega) (by omega)
    (payload ++ [check]) false
  have unfolded : carriedBytes x pollLengths (.reply (byteOf payload.length :: payload ++ [check])) =
      { sent := x.sent
        received := (clockedReply 6 8 x.cut (byteOf payload.length :: (payload ++ [check]))).1
        acks := (clockedReply 6 8 x.cut (byteOf payload.length :: (payload ++ [check]))).2 } := rfl
  rw [filledReply] at whole
  rw [unfolded, cut, taken, List.cons_append, whole, size]
  simp

theorem floorAfter_eq (limit floor : Option Int) (state : FloorState) :
    floorAfter limit floor state =
      match state, limit, floor with
      | .normal, some l, some z => if l ≤ z then .limited else .normal
      | .limited, some l, some z => if z < l - 100 then .normal else .limited
      | _, _, _ => .normal := by
  cases state <;> cases limit <;> cases floor <;> rfl

/-- Settles O37, by the report that the reply holds. -/
theorem goodPollReplacesReport : Obligations.GoodPollReplacesReport := by
  intro r x v payload check k m s powered polling running inTime fresh address len report sum room floor room'
  have result := pollResult_good inTime len report sum
  have goodRoom : room' = Room.goodPoll v room :=
    congrArg (fun f : FloorState =>
        ({ room with
          report := some v, freshness := .fresh, failures := 0, age := 0, floor := f
          lastPoll := .answered } : Room))
      (floorAfter_eq room.cfg.floorLimit v.floor room.floor).symm
  have delivered : deliverPoll r x (.reply (byteOf payload.length :: payload ++ [check]))
      (leaveSegment x pollLengths (.reply (byteOf payload.length :: payload ++ [check])) s)
        = changeRoom r (Room.goodPoll v)
          (leaveSegment x pollLengths (.reply (byteOf payload.length :: payload ++ [check])) s) := by
    unfold deliverPoll
    rw [if_pos ⟨address, fresh⟩, result]
  rw [goodRoom, ← carriedBytes_good (check := check) inTime running len]
  exact exec_pollDelivered powered polling running (fun _ => rfl) delivered

/-! ## Failed polls -/

/-- The outcomes that a failed poll can have, by what the unit did (R52). -/
def FailsWith (x : Transaction) (e : RoomEnding) (o : PollOutcome) : Prop :=
  x.timedOut = true ∧ o = .timeout
    ∨ x.timedOut = false ∧ (∃ j, e = .nack j) ∧ o = .noAck
    ∨ x.timedOut = false ∧ o = .checkError ∧ ∃ payload check, payload.length ≤ 255
        ∧ e = .reply (byteOf payload.length :: payload ++ [check])
        ∧ (payload.length < 6 ∨ 8 < payload.length ∨ reportOf payload = none
          ∨ sum8 (x.sent ++ byteOf payload.length :: payload ++ [check]) ≠ 0)
    ∨ x.timedOut = false ∧ o = .checkError ∧ (e = .acked ∨ e = .reply [])
    ∨ x.timedOut = false ∧ o = .checkError ∧ ∃ len more, e = .reply (len :: more)
        ∧ more.length ≤ len.toNat
        ∧ (let body := more ++ List.replicate (len.toNat + 1 - more.length) 0xFF
          len.toNat < 6 ∨ 8 < len.toNat ∨ reportOf (body.take len.toNat) = none
            ∨ sum8 (x.sent ++ len :: body) ≠ 0)

/-- A reply that fails the length range, the check or the form of a REPORT is a check error (R45, R52). -/
theorem pollResult_checkError {x : Transaction} {len : Byte} {more : List Byte} (inTime : x.timedOut = false)
    (bad : len.toNat < 6 ∨ 8 < len.toNat ∨ reportOf ((filledReply len more).take len.toNat) = none
      ∨ sum8 (x.sent ++ len :: filledReply len more) ≠ 0) :
    pollResult x (.reply (len :: more)) = (.checkError, none) := by
  have none : ((checkedReply x.sent 6 8 (len :: more)).bind fun p => reportOf p.1) = none := by
    rw [checkedReply_eq]
    split
    · rename_i good
      obtain ⟨least, most, sum⟩ := good
      rcases bad with short | long | form | check
      · omega
      · omega
      · exact form
      · exact absurd sum check
    · rfl
  unfold pollResult
  simp only [inTime, leftUnacked, endingBytes, none, Bool.false_eq_true, if_false]

theorem pollResult_failed {x : Transaction} {e : RoomEnding} {o : PollOutcome} (h : FailsWith x e o) :
    pollResult x e = (o, none) := by
  obtain ⟨late, outcome⟩ | ⟨inTime, ⟨j, rfl⟩, outcome⟩ | ⟨inTime, outcome, payload, check, ⟨short, rfl, bad⟩
      | ⟨-, -, silent⟩ | ⟨-, -, len, more, rfl, short, bad⟩⟩ := h <;> subst outcome
  · exact if_pos late
  · exact (if_neg (by simp [inTime])).trans (if_pos rfl)
  · obtain ⟨whole, size⟩ := filledReply_whole (n := payload.length) rfl short check
    refine pollResult_checkError (len := byteOf payload.length) (more := payload ++ [check]) inTime ?_
    rw [whole, size, List.take_left]
    rwa [List.append_assoc, List.cons_append] at bad
  · have none : ((checkedReply x.sent 6 8 []).bind fun p => reportOf p.1) = none := by
      rw [checkedReply_nil _ (by decide)]
      rfl
    obtain rfl | rfl := silent <;>
      simp only [pollResult, inTime, leftUnacked, endingBytes, none, Bool.false_eq_true, if_false]
  · refine pollResult_checkError inTime ?_
    rw [filledReply_short short]
    exact bad

theorem Room.failedPoll_eq (o : PollOutcome) (lossThreshold : Nat) (room : Room) :
    room.failedPoll o lossThreshold =
      { room with
        lastPoll := o
        failures := min 255 (room.failures + 1)
        freshness :=
          if lossThreshold ≤ min 255 (room.failures + 1) then .lost
          else if room.freshness = .fresh then .aged else room.freshness } := by
  unfold Room.failedPoll saturate
  cases room.freshness <;> rfl

/-- Settles O38, by whether the room still has the address that was polled. -/
theorem failedPollAgesRoom : Obligations.FailedPollAgesRoom := by
  intro r x e o k m s powered polling running room n room'
  refine ⟨fun fails address fresh => ?failed, fun changed => ?discarded⟩
  case failed =>
    have failedRoom : room' = Room.failedPoll o s.params.g2.lossThreshold room := (room.failedPoll_eq _ _).symm
    have delivered : deliverPoll r x e (leaveSegment x pollLengths e s)
        = changeRoom r (Room.failedPoll o s.params.g2.lossThreshold) (leaveSegment x pollLengths e s) := by
      unfold deliverPoll
      rw [if_pos ⟨address, fresh⟩, pollResult_failed fails]
      rfl
    obtain ⟨t, row, rooms, house, after, carried, kept⟩ :=
      exec_pollDelivered (f := Room.failedPoll o s.params.g2.lossThreshold) (k := k) (m := m) powered polling
        running (fun _ => rfl) delivered
    rw [failedRoom]
    refine ⟨t, row, rooms, house, after, ?_, kept⟩
    rw [carried]
    exact carriedBytes_carriedIn x pollLengths e
  case discarded =>
    have delivered : deliverPoll r x e (leaveSegment x pollLengths e s) = leaveSegment x pollLengths e s := by
      refine if_neg ?_
      rintro ⟨address, fresh⟩
      rcases changed with other | stale
      · exact other address
      · rw [fresh] at stale
        cases stale
    obtain ⟨seg, row, after, carried⟩ := exec_pollEnd (k := k) (m := m) powered polling running delivered rfl rfl
      ⟨fun _ => rfl, rfl, rfl⟩
    refine ⟨seg, row, after, ?_⟩
    rw [carried]
    exact carriedBytes_carriedIn x pollLengths e

end Sys2Proof.Machine

/-! Time and the reset state: what whole seconds move, and the invariants after reset. -/

namespace Sys2Proof.Machine

/-! ## Whole seconds (O5) -/

/-- Whole seconds stay whole while the running second is sound (log 2). -/
theorem secondsOf_whole {s : State} (phase : s.msPhase < 1000) (k : Nat) : secondsOf (1000 * k) s = k := by
  unfold secondsOf
  omega

theorem elapse_msPhase {s : State} (phase : s.msPhase < 1000) (k : Nat) :
    (elapse k s).msPhase = s.msPhase := by
  have moved : (elapseMs (1000 * k) s).msPhase = (s.msPhase + 1000 * k) % 1000 := rfl
  unfold elapse
  omega

theorem periodSeconds_eq (k : Nat) (p : PeriodEngine) :
    periodSeconds k p = if p.mode = .stopped then 0 else min k (p.eff.period - p.time) := by
  unfold periodSeconds
  cases p.mode <;> rfl

theorem Valve.elapse_eq (k : Nat) (v : Valve) :
    v.elapse k = match v with
      | .closed => .closed
      | .opening r => .opening (r - k)
      | .isOpen x => .isOpen (min 65535 (x + k))
      | .closing r => .closing (r - k) := by
  cases v <;> rfl

theorem Channel.elapse_eq (k d : Nat) (c : Channel) :
    c.elapse k d = { c with
      energisedSeconds := c.energisedSeconds + if c.energised then d else 0
      loadCheck := c.loadCheck.map fun x => x - k
      valve := c.valve.elapse k } := by
  unfold Channel.elapse
  split <;> rfl

theorem Room.elapse_eq (k : Nat) (r : Room) :
    r.elapse k = { r with age := if r.report.isSome then min 65535 (r.age + k) else r.age } := by
  unfold Room.elapse
  split <;> rfl

theorem PeriodEngine.ranOut_eq (k : Nat) (p : PeriodEngine) :
    p.ranOut k = match p.flushTimer with
      | some x =>
        if 0 < x ∧ x ≤ k then
          some (p.time + if p.mode = .stopped then 0 else min x (p.eff.period - p.time))
        else p.flushRanOut
      | none => p.flushRanOut := by
  cases timer : p.flushTimer <;> simp only [PeriodEngine.ranOut, timer, periodSeconds_eq]

/-- What whole seconds move, field by field: everything else stays. -/
theorem elapse_frame {s : State} (phase : s.msPhase < 1000) (k : Nat) :
    elapse k s = { s with
      channels := (elapse k s).channels, rooms := (elapse k s).rooms, test := (elapse k s).test
      period := (elapse k s).period, seg := (elapse k s).seg, arb := (elapse k s).arb
      supply := (elapse k s).supply, store := (elapse k s).store, house := (elapse k s).house } := by
  have powered := elapse_powered k s
  have params := elapse_params k s
  have loops := elapse_loops k s
  have probes := elapse_probes k s
  have toolRequest := elapse_toolRequest k s
  have msPhase := elapse_msPhase phase k
  have draws := elapse_draws k s
  have pending := elapse_pending k s
  generalize elapse k s = t at *
  cases t
  subst powered params loops probes toolRequest msPhase draws pending
  rfl

/-- Settles O5, count by count. -/
theorem secondsMoveTheCounts : Obligations.SecondsMoveTheCounts := by
  intro k s phase t d
  have whole := secondsOf_whole phase k
  have seconds : periodSeconds k s.period = d := periodSeconds_eq k s.period
  have channels := elapse_channels k s
  have rooms := elapse_rooms k s
  have period := elapse_period k s
  have test := elapse_test k s
  rw [whole, seconds] at channels
  rw [whole] at rooms period test
  refine ⟨elapse_frame phase k, fun i => ?_, fun r => ?_, ?_, ?_, ?_, ?_, ?_, ?_, elapse_house k s⟩
  · rw [show t.channels = _ from channels, Bank.get_imap, Channel.elapse_eq, Valve.elapse_eq] <;> rfl
  · rw [show t.rooms = _ from rooms, Bank.get_imap, Room.elapse_eq]
  · rw [show t.test = _ from test]
    cases s.test <;> rfl
  · rw [show t.period = _ from period]
    unfold PeriodEngine.elapse
    rw [PeriodEngine.ranOut_eq, seconds] <;> rfl
  · rw [show t.seg = _ from elapse_seg k s, whole]
  · rw [show t.arb = _ from elapse_arb k s, whole]
    rfl
  · rw [show t.supply = _ from elapse_supply k s, whole]
  · rw [show t.store = _ from elapse_store k s, whole]

/-! ## The reset state (O54) -/

theorem reset_channel (i : LoopIx) : State.reset.channels.get i = Channel.afterReset 240 :=
  Bank.get_fill _ i

/-- Settles O54: after reset every table holds its factory values, every channel is released and nothing
waits. -/
theorem resetMeetsInvariants : Obligations.ResetMeetsInvariants := by
  have loop (i : LoopIx) : State.reset.loops.get i = Loop.factory := Bank.get_fill _ i
  have room (r : RoomIx) : State.reset.rooms.get r = Room.initial RoomConfig.factory := Bank.get_fill _ r
  refine ⟨fun i => ?factors, ⟨fun r => ?address, fun r q _ used => ?distinct, fun i r names => ?named⟩, ?supply,
    fun saving => ?store, fun i => ?coherent, ?limit, ?pump, ?starts, ?lines, ?clocks⟩
  case factors =>
    rw [loop]
    decide
  case address =>
    rw [room]
    decide
  case distinct =>
    rw [room] at used
    exact absurd rfl used
  case named =>
    rw [loop] at names
    cases names
  case supply => exact ⟨by decide, by decide⟩
  case store => cases saving
  case coherent =>
    rw [reset_channel]
    exact ⟨rfl, fun _ => ⟨rfl, rfl⟩⟩
  case limit =>
    unfold HoldingLimitKept
    decide
  case pump =>
    exact ⟨by decide, nofun, fun _ => by decide, by decide⟩
  case starts =>
    refine ⟨⟨List.nodup_nil, nofun⟩, nofun, fun _ => rfl, fun _ i energised => ?_, rfl, by decide⟩
    rw [reset_channel] at energised
    cases energised
  case lines => exact fun _ => by decide
  case clocks => exact ⟨by decide, by decide, fun _ => rfl, rfl, le_refl _, nofun, by decide, nofun, nofun⟩

end Sys2Proof.Machine

/-! One second on an empty queue: what falls due is queued, as often as it is due (log 3, log 4). -/

namespace Sys2Proof.Machine

/-! ## Counting the due events -/

theorem count_whenDue (due : Bool) (d c : Instr) :
    (whenDue due d).count c = if due = true ∧ d = c then 1 else 0 := by
  unfold whenDue
  cases due
  · simp
  · simp [List.count_singleton]

/-- An event of one record's list is counted there alone, when no other record's list holds it. -/
theorem count_flatMap_of_others {n : Nat} {f : Fin n → List Instr} {c : Instr} (i : Fin n)
    (others : ∀ j, j ≠ i → (f j).count c = 0) : ((List.finRange n).flatMap f).count c = (f i).count c := by
  rw [List.count_flatMap]
  rw [List.sum_map_eq_nsmul_single i (List.count c ∘ f) fun j other _ => others j other]
  simp [List.count_finRange]

theorem count_flatMap_of_none {n : Nat} {f : Fin n → List Instr} {c : Instr}
    (never : ∀ j, (f j).count c = 0) : ((List.finRange n).flatMap f).count c = 0 := by
  rw [List.count_eq_zero, List.mem_flatMap]
  rintro ⟨j, -, member⟩
  exact List.count_eq_zero.mp (never j) member

/-- What a channel's events count for a command of any kind. -/
theorem count_dueOfChannel (s : State) (i : LoopIx) (c : Instr) :
    (dueOfChannel s i).count c =
      (if openingOver i s = true ∧ Instr.openingEnds i 0 = c then 1 else 0)
      + (if closingOver i s = true ∧ Instr.closingEnds i 0 = c then 1 else 0)
      + (if closeReached i s = true ∧ Instr.closeTimeReached i 0 = c then 1 else 0)
      + (if loadCheckDue i s = true
          ∧ Instr.loadCheck i (Config.senseShowsLoad s.draws i) 0 = c then 1 else 0) := by
  unfold dueOfChannel
  simp only [List.count_append, count_whenDue]

theorem count_dueJoins (s : State) (c : Instr) :
    (dueJoins s).count c = if Instr.join 0 = c then
      if s.period.mode.heats then
        s.arb.plan.countP fun e => decide (e.joinTime ≤ s.period.time ∧ e.joinTime < s.period.eff.period)
      else 0 else 0 := by
  unfold dueJoins
  split
  · rw [List.map_const', List.count_replicate, ← List.countP_eq_length_filter]
    simp
  · simp

/-- The counts of the events that belong to no loop and no room. -/
theorem count_dueEvents (s : State) (c : Instr) : (dueEvents s).count c =
    (allLoops.flatMap (dueOfChannel s)).count c
      + (allRooms.flatMap fun r => whenDue (ageDue r s) (.ageExpiry r 0)).count c
      + (if testOver s = true ∧ Instr.testEnd 0 = c then 1 else 0)
      + (if s.seg.pollTimer = 0 ∧ Instr.pollTimerExpiry 0 = c then 1 else 0)
      + (if forwardExpired s = true ∧ Instr.forwardTimeoutExpiry ⟨0, .absent⟩ = c then 1 else 0)
      + (if flushExpired s = true ∧ Instr.flushTimerExpiry 0 = c then 1 else 0)
      + (if Instr.measurementTick 0 = c then ticksOwed s else 0)
      + (if boundaryDue s = true ∧ Instr.regularBoundary 0 = c then 1 else 0)
      + (dueJoins s).count c
      + (if spacingReached s = true ∧ Instr.spacingExpiry 0 = c then 1 else 0)
      + (if holdOver s = true ∧ Instr.pumpHoldExpiry 0 = c then 1 else 0)
      + (if saveDue s = true ∧ Instr.saveCompletes 0 = c then 1 else 0) := by
  unfold dueEvents
  simp only [List.count_append, count_whenDue, List.count_replicate, decide_eq_true_iff, beq_iff_eq]


theorem Mode.runs_iff (m : Mode) : m.runs = true ↔ m ≠ .stopped := by cases m <;> decide

theorem Mode.heats_iff (m : Mode) : m.heats = true ↔ m = .running ∨ m = .flush := by cases m <;> decide

theorem forwardExpired_iff (s : State) :
    forwardExpired s = true ↔ s.house.held = true ∧ s.house.timeout = some 0 := by
  unfold forwardExpired House.held
  cases s.house.state <;> simp

theorem testOver_iff (s : State) : testOver s = true ↔ ∃ i d, s.test = .active i d 0 := by
  unfold testOver
  cases s.test with
  | active i d r => simp [eq_comm]
  | idle => simp
  | queued i d => simp

theorem ticksOwed_eq (s : State) : ticksOwed s =
    if s.period.mode = .stopped then 0
    else (min s.period.time (s.period.eff.period - 1) - s.period.lastTick) / 10 := by
  unfold ticksOwed
  cases s.period.mode <;> rfl

/-- The events that fall due are counted as the table of due times says (R9 to R171). -/
theorem count_dueEvents_eq (s : State) (c : Instr) : (dueEvents s).count c = dueTimes s c := by
  have loops := count_flatMap_of_none (f := dueOfChannel s) (c := c)
  have rooms := count_flatMap_of_none (f := fun r => whenDue (ageDue r s) (.ageExpiry r 0)) (c := c)
  have loop := count_flatMap_of_others (f := dueOfChannel s) (c := c)
  have room := count_flatMap_of_others (f := fun r => whenDue (ageDue r s) (.ageExpiry r 0)) (c := c)
  rw [count_dueEvents, allLoops, allRooms, count_dueJoins]
  simp only [count_dueOfChannel, count_whenDue] at loops rooms loop room
  cases c with
  | openingEnds i n =>
    rw [loop i (by simp +contextual), rooms (by simp)]
    cases n <;> simp [dueTimes, openingOver]
  | closingEnds i n =>
    rw [loop i (by simp +contextual), rooms (by simp)]
    cases n <;> simp [dueTimes, closingOver]
  | closeTimeReached i n =>
    rw [loop i (by simp +contextual), rooms (by simp)]
    cases n <;> simp [dueTimes, closeReached]
  | loadCheck i load n =>
    rw [loop i (by simp +contextual), rooms (by simp)]
    cases n <;> simp [dueTimes, loadCheckDue, and_assoc, @eq_comm _ load]
  | ageExpiry r n =>
    rw [loops (by simp), room r (by simp +contextual)]
    cases n <;> simp [dueTimes, ageDue]
  | testEnd n =>
    rw [loops (by simp), rooms (by simp)]
    cases n with
    | succ n => simp [dueTimes]
    | zero =>
      cases test : s.test with
      | active i d r => cases r <;> simp [dueTimes, testOver_iff, test]
      | idle => simp [dueTimes, testOver_iff, test]
      | queued i d => simp [dueTimes, testOver_iff, test]
  | measurementTick n =>
    rw [loops (by simp), rooms (by simp)]
    cases n <;> simp [dueTimes, ticksOwed_eq]
  | pollTimerExpiry n =>
    rw [loops (by simp), rooms (by simp)]
    cases n <;> simp [dueTimes]
  | forwardTimeoutExpiry run =>
    rw [loops (by simp), rooms (by simp)]
    obtain ⟨after, mark⟩ := run
    simp [dueTimes, forwardExpired_iff, @eq_comm _ after, @eq_comm _ mark, and_comm, and_assoc, and_left_comm]
  | flushTimerExpiry n =>
    rw [loops (by simp), rooms (by simp)]
    cases n <;> simp [dueTimes, flushExpired, and_assoc]
  | regularBoundary n =>
    rw [loops (by simp), rooms (by simp)]
    cases n <;> simp [dueTimes, boundaryDue, Mode.runs_iff]
  | join n =>
    rw [loops (by simp), rooms (by simp)]
    cases n <;> simp [dueTimes, Mode.heats_iff]
  | spacingExpiry n =>
    rw [loops (by simp), rooms (by simp)]
    cases n <;> simp [dueTimes, spacingReached]
  | pumpHoldExpiry n =>
    rw [loops (by simp), rooms (by simp)]
    cases n <;> simp [dueTimes, holdOver]
  | saveCompletes n =>
    rw [loops (by simp), rooms (by simp)]
    cases n <;> simp [dueTimes, saveDue, saving]
  | _ =>
    rw [loops (by simp), rooms (by simp)]
    simp [dueTimes]

/-! ## The free order -/

/-- The free order rearranges the events and loses none (log 4). -/
theorem inFreeOrder_perm (draw : Nat) (l : List Instr) : (inFreeOrder draw l).Perm l := by
  induction l with
  | nil => exact .refl _
  | cons c rest ih =>
    unfold inFreeOrder
    cases ordered : inFreeOrder draw rest with
    | nil =>
      rw [ordered] at ih
      exact ih.cons c
    | cons d more =>
      rw [ordered] at ih
      dsimp only
      exact (List.perm_insertIdx c _ (by
        have place : Config.orderChoice draw rest.length % (more.length + 2) < more.length + 2 :=
          Nat.mod_lt _ (by omega)
        simp only [List.length_cons]
        omega)).trans (ih.cons c)

theorem queued_eq (t : State) (q : List Instr) (n : Nat) :
    (t.setPending q).setDraws n = { t with pending := q, draws := n } := rfl

/-- Settles O2, by the counts of the due events and the free order being one of them. -/
theorem emptyQueuePassesOneSecond : Obligations.EmptyQueuePassesOneSecond := by
  intro s empty
  have idles : step s = .next (idleSecond s) := by
    unfold step
    rw [empty]
  rw [idles]
  unfold idleSecond
  refine ⟨fun unpowered => by rw [if_neg (by simp [unpowered])], fun powered => ?_⟩
  rw [if_pos powered]
  refine ⟨inFreeOrder s.draws (dueEvents (elapse 1 s)), fun c => ?_, ?_⟩
  · rw [(inFreeOrder_perm _ _).count_eq, count_dueEvents_eq]
  · dsimp only
    rw [queued_eq, elapse_draws]

end Sys2Proof.Machine

/-! The ends of forwards: what the held slot is answered, and when the forward timeout runs out (R57 to R59, R151,
R152). -/

namespace Sys2Proof.Machine

/-! ## A transaction's end -/

/-- A transaction has ended, and `u` is the part with its outcome given to its owner (R52): what the row
leaves. -/
theorem exec_transactionEnd {e : RoomEnding} {k : Option Nat} {m : Mark} {s u : State}
    (powered : s.powered = true) (ended : endTransaction e k s = arbitrate (endCycle u))
    (owner : u = { s with seg := u.seg, house := u.house }) (idle : u.seg.activity = .idle)
    (pending : u.seg.pendingCycle = s.seg.pendingCycle) (timer : u.seg.pollTimer = s.seg.pollTimer) :
    exec (.roomTransactionEnd e ⟨k, m⟩) s
        = .next (driveLines { s with seg := (endTransaction e k s).seg, house := u.house.marked m })
      ∧ AfterTransactionEnd s u.seg.cursor u.seg.slot (endTransaction e k s).seg := by
  have only : SegOnly u (endTransaction e k s) := by
    rw [ended]
    exact (SegOnly.endCycle u).trans (.arbitrate _)
  have reads : SegReads s u := by
    rw [owner]
    exact ⟨fun _ => rfl, rfl, rfl⟩
  have after := afterTransactionEnd_of reads idle pending timer
  rw [← ended] at after
  refine ⟨?_, after⟩
  have row : exec (.roomTransactionEnd e ⟨k, m⟩) s = .next (driveLines (takeMark m (endTransaction e k s))) :=
    exec_of_powered powered nofun
  rw [row, takeMark_eq, only, owner]

/-- A transaction that a restart has ended has no outcome (R63). -/
theorem endTransaction_ended {e : RoomEnding} {k : Option Nat} {s : State} {x : Transaction} (ended : x.ended = true)
    (busy : s.seg.activity = .forwarding x ∨ ∃ r, s.seg.activity = .polling r x) :
    ∃ lengths, endTransaction e k s = arbitrate (endCycle (leaveSegment x lengths e s)) := by
  obtain forwarding | ⟨r, polling⟩ := busy
  · refine ⟨forwardLengths x, ?_⟩
    unfold endTransaction
    simp only [forwarding, ended, if_true]
  · refine ⟨pollLengths, ?_⟩
    unfold endTransaction
    simp only [polling, ended, if_true]

/-! ## The outcome of a forward -/

section Outcome

variable {x : Transaction} {f : ForwardFrame} {e : RoomEnding}

theorem forwardResult_failed (bad : x.timedOut = true ∨ ∃ j, e = .nack j) :
    (forwardResult x f e).1 ≠ .answered := by
  unfold forwardResult
  split
  · nofun
  · next inTime =>
    obtain late | ⟨j, rfl⟩ := bad
    · exact absurd late inTime
    · exact nofun

theorem forwardResult_send {kind : Byte} {payload : List Byte} (inTime : x.timedOut = false) :
    forwardResult x (.send kind payload) .acked = (.answered, none) := by
  simp [forwardResult, inTime, leftUnacked]

theorem forwardResult_fetch {kind sel : Byte} {bytes : List Byte} (inTime : x.timedOut = false) :
    forwardResult x (.fetch kind sel) (.reply bytes) =
      (checkedReply x.sent 0 32 bytes).elim (.checkError, none) fun p => (.answered, some p.2) := by
  simp only [forwardResult, inTime, leftUnacked, endingBytes, Bool.false_eq_true, if_false]
  cases checkedReply x.sent 0 32 bytes <;> rfl

/-- A length byte above 32 makes the outcome a check error (R57). -/
theorem forwardResult_long {kind sel len : Byte} {more : List Byte} (inTime : x.timedOut = false)
    (long : 32 < len.toNat) : forwardResult x (.fetch kind sel) (.reply (len :: more)) = (.checkError, none) := by
  have failed : checkedReply x.sent 0 32 (len :: more) = none := by
    rw [checkedReply_eq]
    exact if_neg fun ⟨_, short, _⟩ => absurd short (by omega)
  rw [forwardResult_fetch inTime, failed]
  rfl

/-- A reply of at most 32 payload bytes is answered exactly as received, when its check is right (R57, R58). -/
theorem forwardResult_reply {kind sel check : Byte} {payload : List Byte} (inTime : x.timedOut = false)
    (short : payload.length ≤ 32) :
    forwardResult x (.fetch kind sel) (.reply (byteOf payload.length :: payload ++ [check])) =
      if sum8 (x.sent ++ (byteOf payload.length :: payload ++ [check])) = 0 then
        (.answered, some (byteOf payload.length :: payload ++ [check]))
      else (.checkError, none) := by
  obtain ⟨whole, size⟩ := filledReply_whole (n := payload.length) rfl (by omega) check
  have checked : checkedReply x.sent 0 32 (byteOf payload.length :: payload ++ [check]) =
      if sum8 (x.sent ++ (byteOf payload.length :: payload ++ [check])) = 0 then
        some (payload, byteOf payload.length :: payload ++ [check]) else none := by
    rw [List.cons_append, checkedReply_eq, whole, size, List.take_left]
    simp only [Nat.zero_le, short, true_and]
  rw [forwardResult_fetch inTime, checked]
  split <;> rfl

end Outcome

/-! ## The held slot -/

/-- The House Port after the held slot was left unacknowledged (R151, R152). -/
def House.heldRefused (h : House) : House :=
  { h with state := .ignoring, sent := [], acks := h.acks ++ [false], timeout := none }

/-- What follows an acknowledged slot: a SEND's nothing, a FETCH's reply sent on (R151). -/
def heldReply (r : RoomIx) (mode : ProxyMode) (fetch : Bool) (reply : Option (List Byte)) (k : Option Nat) :
    List Byte × HouseState :=
  if fetch then sendReply (reply.getD []) k (.proxyCache r mode) else ([], .proxyCache r mode)

/-- The House Port after the held slot was acknowledged, with the bytes sent on (R151). -/
def House.heldAcked (h : House) (out : List Byte × HouseState) : House :=
  { h with state := out.2, sent := out.1, acks := h.acks ++ [true], timeout := none }

section Held

variable {s : State} {r : RoomIx} {mode : ProxyMode} {fetch : Bool}

theorem handOver_refused {o : PollOutcome} {reply : Option (List Byte)} {k : Option Nat}
    (held : s.house.state = .proxyHeld r mode fetch) (bad : o ≠ .answered) :
    handOver o reply k s = { s with house := s.house.heldRefused } := by
  simp only [handOver, held, if_neg bad]
  rfl

theorem handOver_answered {reply : Option (List Byte)} {k : Option Nat}
    (held : s.house.state = .proxyHeld r mode fetch) :
    handOver .answered reply k s = { s with house := s.house.heldAcked (heldReply r mode fetch reply k) } := by
  simp only [handOver, held, if_true]
  rfl

end Held

/-- Where an outcome finds the House Port: changed there alone (R151). -/
theorem handOver_house (o : PollOutcome) (reply : Option (List Byte)) (k : Option Nat) (s : State) :
    handOver o reply k s = { s with house := (handOver o reply k s).house } := by
  unfold handOver
  split
  · split <;> rfl
  all_goals rfl

/-- The state in which a forward's outcome is handed over: the controller IDLE, the slot EMPTY (R58). -/
def forwardLeft (x : Transaction) (e : RoomEnding) (s : State) : State :=
  { s with seg := { s.seg with activity := .idle, carried := carriedBytes x (forwardLengths x) e, slot := .empty } }

theorem endTransaction_forward {e : RoomEnding} {k : Option Nat} {s : State} {x : Transaction} {a : BitVec 7}
    {f : ForwardFrame} {orphan : Bool} (forwarding : s.seg.activity = .forwarding x) (running : x.ended = false)
    (slot : s.seg.slot = .active a f orphan) :
    endTransaction e k s = arbitrate (endCycle
      (if orphan then forwardLeft x e s
       else handOver (forwardResult x f e).1 (forwardResult x f e).2 k (forwardLeft x e s))) := by
  have active : (leaveSegment x (forwardLengths x) e s).seg.slot = .active a f orphan := slot
  unfold endTransaction
  simp only [forwarding, running, Bool.false_eq_true, if_false, endForward, active]
  rfl

/-- The forward timeout that runs out while the clock is held (R59, R152). -/
theorem expireForward_eq (s : State) : expireForward s = { s with
    seg := { s.seg with slot :=
      match s.seg.slot with
      | .empty => .empty
      | .waiting _ _ => .empty
      | .active a f _ => .active a f true }
    house := s.house.heldRefused } := by
  have unfolded : expireForward s = answerHeld false [] .ignoring
      (match s.seg.slot with
      | .empty => s
      | .waiting _ _ => setSlot .empty s
      | .active a f _ => setSlot (.active a f true) s) := rfl
  rw [unfolded]
  cases slot : s.seg.slot <;> simp only [answerHeld, setSlot, State.setHouse, State.setSeg, House.heldRefused]
  rw [← slot]

theorem exec_forwardTimeout {n : Nat} {m : Mark} {s : State} {r : RoomIx} {mode : ProxyMode} {fetch : Bool}
    (powered : s.powered = true) (held : s.house.state = .proxyHeld r mode fetch) (runs : s.house.timeout = some n) :
    exec (.forwardTimeoutExpiry ⟨n, m⟩) s =
      .next (driveLines (takeMark m (expireForward (elapseMs n s)))) := by
  have expired : forwardExpired (elapseMs n s) = true := by
    rw [forwardExpired_iff, elapseMs_house]
    simp [House.held, held, runs]
  refine (exec_of_powered (c := .forwardTimeoutExpiry ⟨n, m⟩) powered nofun).trans
    (congrArg (fun t => Host.Outcome.next (driveLines (takeMark m t))) ?_)
  exact if_pos expired

/-- Settles O35: the outcome of the forward decides what the held slot is answered. -/
theorem heldSlotIsAnswered : Obligations.HeldSlotIsAnswered := by
  intro m s powered
  refine ⟨fun r mode fetch held => ⟨fun e k x a f forwarding running slot kind => ?answered,
    fun n runs => ?timeout⟩, fun e k x a f forwarding running slot => ?orphan, fun e k x busy ended => ?restarted⟩
  case answered =>
    intro failed
    have left := endTransaction_forward (e := e) (k := k) forwarding running slot
    have given : ∃ h, handOver (forwardResult x f e).1 (forwardResult x f e).2 k (forwardLeft x e s) =
        { forwardLeft x e s with house := h } := ⟨_, handOver_house _ _ _ _⟩
    obtain ⟨h, given⟩ := given
    rw [if_neg (by simp), given] at left
    obtain ⟨row, after⟩ := exec_transactionEnd (m := m) powered left rfl rfl rfl rfl
    have refuses (bad : (forwardResult x f e).1 ≠ .answered) : h = failed := by
      have refused := handOver_refused (s := forwardLeft x e s) (reply := (forwardResult x f e).2) (k := k) held bad
      exact congrArg State.house (given.symm.trans refused)
    have answers {reply : Option (List Byte)} (good : forwardResult x f e = (.answered, reply)) :
        h = s.house.heldAcked (heldReply r mode fetch reply k) := by
      have answered := handOver_answered (s := forwardLeft x e s) (reply := reply) (k := k) held
      rw [good] at given
      exact congrArg State.house (given.symm.trans answered)
    refine ⟨_, h, row, after, ?_, fun bad => refuses (forwardResult_failed bad), fun inTime sends acked => ?sent,
      fun len more inTime fetches same long => ?long, fun payload check inTime fetches short => ?_⟩
    · rw [endTransaction_carried_forward forwarding]
      exact carriedBytes_carriedIn x _ e
    case sent =>
      cases f with
      | send kind payload =>
        subst acked sends
        exact answers (forwardResult_send inTime)
      | fetch kind' sel => exact absurd (kind.mpr ⟨kind', sel, rfl⟩) (by simp [sends])
    case long =>
      obtain ⟨kind', sel, rfl⟩ := kind.mp fetches
      subst same
      exact refuses (by rw [forwardResult_long inTime long]; nofun)
    · intro reply same
      obtain ⟨kind', sel, rfl⟩ := kind.mp fetches
      subst same fetches
      have result := forwardResult_reply (x := x) (kind := kind') (sel := sel) (check := check) inTime short
      refine ⟨fun sum => ⟨fun whole => ?_, fun j cut within => ?_⟩, fun sum => refuses ?_⟩
      · subst whole
        exact answers (result.trans (if_pos sum))
      · subst cut
        rw [answers (result.trans (if_pos sum))]
        have early : j + 1 < reply.length := by
          simp [reply]
          omega
        have out : heldReply r mode true (some reply) (some j) = (reply.take (j + 1), .ignoring) := if_pos early
        rw [out]
        rfl
      · rw [result.trans (if_neg sum)]
        nofun
  case timeout =>
    rw [exec_forwardTimeout powered held runs, takeMark_eq, expireForward_eq, elapseMs_house, elapseMs_seg]
    rfl
  case orphan =>
    have left := endTransaction_forward (e := e) (k := k) forwarding running slot
    obtain ⟨row, after⟩ := exec_transactionEnd (m := m) powered left rfl rfl rfl rfl
    refine ⟨_, row, after, ?_⟩
    rw [endTransaction_carried_forward forwarding]
    exact carriedBytes_carriedIn x _ e
  case restarted =>
    obtain ⟨lengths, left⟩ := endTransaction_ended (e := e) (k := k) ended busy
    obtain ⟨row, after⟩ := exec_transactionEnd (m := m) powered left rfl rfl rfl rfl
    refine ⟨_, row, after, fun forwarding => ?_, fun r polling => ?_⟩
    · rw [endTransaction_carried_forward forwarding]
      exact carriedBytes_carriedIn x _ e
    · rw [endTransaction_carried_poll polling]
      exact carriedBytes_carriedIn x _ e

end Sys2Proof.Machine

/-! House transactions at addresses that are not the own one: headers that are not served, reports from the cache,
and forwards offered (R143, R147 to R149). -/

namespace Sys2Proof.Machine

/-! ## Header bytes -/

theorem headerAddress_headerByte (a : BitVec 7) (fetch : Bool) : headerAddress (headerByte a fetch) = a := by
  revert a
  cases fetch <;> decide

theorem headerIsFetch_headerByte (a : BitVec 7) (fetch : Bool) : headerIsFetch (headerByte a fetch) = fetch := by
  revert a
  cases fetch <;> decide

theorem headerByte_of_header (header : Byte) : headerByte (headerAddress header) (headerIsFetch header) = header := by
  revert header
  decide

/-! ## Who is served (R143) -/

/-- The part answers for no room at the address, nor for itself (R143). -/
def Silent (s : State) (a : BitVec 7) : Prop :=
  a ≠ s.house.own ∧ ∀ r, (s.rooms.get r).cfg.address = 0 ∨ (s.rooms.get r).cfg.address ≠ a
    ∨ (s.rooms.get r).cfg.proxy = .off

section Served

variable {s : State} {a : BitVec 7} {mode : ProxyMode} {r : RoomIx}

theorem proxiedRoom_silent (silent : Silent s a) : proxiedRoom s a = none := by
  obtain ⟨-, rooms⟩ := silent
  unfold proxiedRoom
  rw [List.find?_eq_none]
  intro q _
  have := rooms q
  simp only [RoomConfig.inUse]
  grind

theorem proxiedRoom_proxied (proxied : ProxiedAt s r a mode) : proxiedRoom s a = some r := by
  obtain ⟨used, -, address, proxy, on, others⟩ := proxied
  have here : ((s.rooms.get r).cfg.inUse && decide ((s.rooms.get r).cfg.address = a)
      && decide ((s.rooms.get r).cfg.proxy ≠ .off)) = true := by
    have used' : a ≠ 0#7 := used
    simp [RoomConfig.inUse, address, used', proxy, on]
  have some : (proxiedRoom s a).isSome = true := List.find?_isSome.mpr ⟨r, List.mem_finRange r, here⟩
  obtain ⟨q, found⟩ := Option.isSome_iff_exists.mp some
  have same : q = r := by
    by_contra other
    have := List.find?_some found
    simp [others q other] at this
  rw [← same]
  exact found

section
variable (header : Byte) (bytes : List Byte) (k : Option Nat) (m : Mark) (held : s.house.held = false)
include held

theorem houseTransaction_silent (silent : Silent s (headerAddress header)) :
    houseTransaction header bytes k m s = { s with house := s.house.ignoringAfter [header] m } := by
  unfold houseTransaction
  simp only [held, Bool.false_eq_true, if_false, if_neg silent.1, proxiedRoom_silent silent]
  exact closeExchange_refused _ _ _

theorem houseTransaction_proxied (proxied : ProxiedAt s r (headerAddress header) mode) :
    houseTransaction header bytes k m s = proxyTransaction r header bytes k m s := by
  unfold houseTransaction
  simp only [held, Bool.false_eq_true, if_false, if_neg proxied.2.1, proxiedRoom_proxied proxied]

end

end Served

theorem exec_forwardOffer {header : Byte} {bytes : List Byte} {k : Option Nat} {m : Mark} {s : State}
    (powered : s.powered = true) : exec (.forwardOffer (some header) bytes k m) s =
      .next (driveLines (houseTransaction header bytes k m s)) :=
  exec_of_powered powered nofun

theorem exec_report {a : BitVec 7} {f : FetchFrame} {s : State} (powered : s.powered = true) :
    exec (.report a f) s =
      .next (driveLines (houseTransaction (headerByte a true) [0x21, f.selector] f.nackAt f.mark s)) :=
  exec_of_powered powered nofun

/-- Settles O32, by the address match and, under CACHE, by the kind byte. -/
theorem unservedHeadersAreIgnored : Obligations.UnservedHeadersAreIgnored := by
  refine ⟨fun header bytes k f m s ⟨powered, held⟩ => ⟨fun silent => ?_, fun a silent => ?_,
    fun r kind rest shape proxied other => ?_⟩, fun m s powered => ?mark⟩
  · rw [exec_forwardOffer powered, houseTransaction_silent header bytes k m held silent]
  · have silent' : Silent s (headerAddress (headerByte a true)) := by
      rw [headerAddress_headerByte]
      exact silent
    rw [exec_report powered, houseTransaction_silent _ _ _ _ held silent']
  · subst shape
    rw [exec_forwardOffer powered, houseTransaction_proxied _ _ _ _ held proxied]
    have forwards : ¬ (headerIsFetch header = true ∧ kind = reportKind) := by
      rintro ⟨fetch, report⟩
      obtain send | kind' := other
      · rw [fetch] at send
        cases send
      · exact kind' report
    have cached : (s.rooms.get r).cfg.proxy ≠ .full := by simp [proxied.2.2.2.1]
    unfold proxyTransaction
    simp only [if_neg forwards, if_pos cached]
    rw [closeExchange_refused]
  case mark =>
    have row : exec (.forwardOffer none [] none m) s = .next (driveLines (takeMark m s)) :=
      exec_of_powered powered nofun
    rw [row, takeMark_eq]
    refine congrArg (fun h => Host.Outcome.next (driveLines { s with house := h })) ?_
    generalize s.house = h
    obtain ⟨own, state, received, sent, acks, timeout, errors, lastResult, lastKind⟩ := h
    cases state <;> cases m <;> rfl

/-! ## Reports from the cache (R147) -/

/-- Settles O33, by whether the cache serves the report. -/
theorem reportIsServedFromCache : Obligations.ReportIsServedFromCache := by
  rintro r a mode ⟨sel, nackAt, m⟩ s ⟨powered, held⟩ proxied whole head
  subst whole
  have proxied' : ProxiedAt s r (headerAddress (headerByte a true)) mode := by
    rw [headerAddress_headerByte]
    exact proxied
  have serves : houseTransaction (headerByte a true) [0x21, sel] none m s = serveReport r head sel none m s := by
    rw [houseTransaction_proxied _ _ _ _ held proxied']
    unfold proxyTransaction
    exact if_pos ⟨headerIsFetch_headerByte a true, rfl⟩
  rw [exec_report powered, serves]
  refine ⟨fun refused => ?_, fun v selector served report => ?_⟩
  · have nothing : (if sel = 0 then servedReport (s.rooms.get r) else none) = none := by
      rcases refused with other | stale | lost
      · exact if_neg other
      all_goals simp [servedReport, *]
    simp only [serveReport, nothing, closeExchange_refused]
  · intro payload
    have something : (if sel = 0 then servedReport (s.rooms.get r) else none) = some v := by
      rw [if_pos selector, ← report]
      unfold servedReport
      rcases served with fresh | aged
      · simp only [fresh]
      · simp only [aged]
    have bytes : reportBytes v = payload := by
      unfold reportBytes
      cases v with
      | mk air setpoint demand floor => cases floor <;> rfl
    simp only [serveReport, something, bytes, proxied.2.2.2.1]
    rfl

/-! ## Forwards offered (R149) -/

/-- The check byte is the one that brings the sum to zero (R141). -/
theorem checkByte_of_sum {l : List Byte} {c : Byte} (sum : sum8 (l ++ [c]) = 0) : checkByte l = c := by
  have single : sum8 [c] = c := by simp [sum8]
  rw [sum8_append, single] at sum
  exact neg_eq_of_add_eq_zero_right sum

section Offer

variable {r : RoomIx} {header kind : Byte} {rest : List Byte} {k : Option Nat} {m : Mark} {s : State}
  {frame : ForwardFrame} {bytes : List Byte}

/-- The frame is one that is offered, and its bytes are those that a forward of it sends (R57, R149). -/
structure Offers (header kind : Byte) (rest : List Byte) (frame : ForwardFrame) : Prop where
  sent : forwardBytes (headerAddress header) frame = header :: kind :: rest
  offered : ∀ (r : RoomIx) (k : Option Nat) (m : Mark) (s : State), (s.rooms.get r).cfg.proxy = .full →
    proxyTransaction r header (kind :: rest) k m s =
      offerForward r (headerAddress header) frame (header :: kind :: rest) (headerIsFetch header) m s

theorem Offers.fetch {sel : Byte} (fetch : headerIsFetch header = true) (other : kind ≠ 0x21) :
    Offers header kind [sel] (.fetch kind sel) where
  sent := by
    have same := headerByte_of_header header
    rw [fetch] at same
    simp only [forwardBytes, same]
  offered r k m s full := by
    have other' : ¬ kind = reportKind := other
    have passes : ¬ (s.rooms.get r).cfg.proxy ≠ .full := fun h => h full
    unfold proxyTransaction
    simp only [other', and_false, if_neg passes, fetch, if_true, if_false]

/-- A SEND at a FULL address goes on behind its kind byte (R149). -/
theorem proxyTransaction_send (send : headerIsFetch header = false) (full : (s.rooms.get r).cfg.proxy = .full) :
    proxyTransaction r header (kind :: rest) k m s = forwardSend r header kind rest m s := by
  have passes : ¬ (s.rooms.get r).cfg.proxy ≠ .full := fun h => h full
  unfold proxyTransaction
  simp only [if_neg passes, send, Bool.false_eq_true, false_and, if_false]

/-- A SEND whose payload is complete is tested at its check byte (R149). -/
theorem forwardSend_whole {payload : List Byte} {check : Byte} (short : payload.length ≤ 32) :
    forwardSend r header kind (byteOf payload.length :: payload ++ [check]) m s =
      if sum8 (header :: kind :: (byteOf payload.length :: payload ++ [check])) ≠ 0 then
        closeExchange (refusedBytes (header :: kind :: (byteOf payload.length :: payload ++ [check]))) m s
      else offerForward r (headerAddress header) (.send kind payload)
        (header :: kind :: (byteOf payload.length :: payload ++ [check])) false m s := by
  have size : (byteOf payload.length).toNat = payload.length := by simp [byteOf]; omega
  have fits : ¬ 32 < payload.length := Nat.not_lt.mpr short
  simp only [forwardSend, List.cons_append, size, if_neg fits, List.drop_left, List.take_left]

theorem Offers.send {payload : List Byte} {check : Byte} (send : headerIsFetch header = false)
    (sum : sum8 (header :: kind :: (byteOf payload.length :: payload ++ [check])) = 0)
    (short : payload.length ≤ 32) :
    Offers header kind (byteOf payload.length :: payload ++ [check]) (.send kind payload) where
  sent := by
    have same := headerByte_of_header header
    rw [send] at same
    have last := checkByte_of_sum (l := header :: kind :: byteOf payload.length :: payload) sum
    simp only [forwardBytes, same, List.cons_append, List.nil_append, last]
  offered r k m s full := by
    rw [proxyTransaction_send send full, forwardSend_whole short, if_neg (by simpa using sum), send]

/-- An offer that is not taken (R56). -/
theorem offerForward_refused {a : BitVec 7} {f : ForwardFrame} {fetch : Bool}
    (busy : s.seg.slot ≠ .empty ∨ s.seg.activity = .granted) :
    offerForward r a f bytes fetch m s = { s with house := s.house.ignoringAfter bytes m } := by
  have full : ¬ (s.seg.slot = .empty ∧ s.seg.activity ≠ .granted) := by tauto
  exact (if_neg full).trans (closeExchange_refused _ _ _)

/-- The part that holds the clock for a forward that waits (R56, R149, R150). -/
def offerTaken (a : BitVec 7) (f : ForwardFrame) (h : House) (s : State) : State :=
  { s with house := h, seg := { s.seg with slot := .waiting a f } }

/-- The controller carries a waiting forward at once when it is IDLE without a tool request, gives the segment to
the tool when that asks, and else lets it wait (R55, R57). -/
theorem arbitrate_offerTaken (a : BitVec 7) (f : ForwardFrame) (h : House) (s : State) :
    ∃ seg, arbitrate (offerTaken a f h s) = { s with house := h, seg := seg }
      ∧ (s.seg.activity = .idle → s.toolRequest = false → seg = { s.seg with
          activity := .forwarding
            { address := a, sent := forwardBytes a f, holdLimit := s.params.g2.holdLimit
              timedOut := false, ended := false, stale := false }
          slot := .active a f false })
      ∧ (s.seg.activity = .idle → s.toolRequest = true → seg = { s.seg with
          activity := .granted, slot := .waiting a f })
      ∧ (s.seg.activity ≠ .idle → seg = { s.seg with slot := .waiting a f }) := by
  by_cases idle : s.seg.activity = .idle
  · have idle' : (offerTaken a f h s).seg.activity = .idle := idle
    by_cases tool : s.toolRequest = true
    · have tool' : (offerTaken a f h s).toolRequest = true := tool
      refine ⟨{ s.seg with activity := .granted, slot := .waiting a f }, ?_, fun _ off => ?_, fun _ _ => rfl,
        fun busy => absurd idle busy⟩
      · simp only [arbitrate, idle', tool', if_true]
        rfl
      · rw [tool] at off
        cases off
    · have tool' : (offerTaken a f h s).toolRequest = false := Bool.eq_false_iff.mpr tool
      have waits : (offerTaken a f h s).seg.slot = .waiting a f := rfl
      refine ⟨_, ?_, fun _ _ => rfl, fun _ on => absurd on tool, fun busy => absurd idle busy⟩
      simp only [arbitrate, idle', tool', waits, Bool.false_eq_true, if_false]
      rfl
  · refine ⟨{ s.seg with slot := .waiting a f }, arbitrate_of_busy idle, fun now => absurd now idle,
      fun now => absurd now idle, fun _ => rfl⟩

/-- A SEND that a mark cuts off before its check byte (R149). -/
theorem forwardSend_cut {len : Byte} {more : List Byte} (fits : len.toNat ≤ 32) (short : more.length ≤ len.toNat) :
    forwardSend r header kind (len :: more) m s =
      closeExchange (takenBytes (header :: kind :: len :: more) (.proxyCache r (s.rooms.get r).cfg.proxy)) m s := by
  simp only [forwardSend, if_neg (Nat.not_lt.mpr fits), List.drop_of_length_le short,
    List.take_of_length_le short]

/-- A frame that a mark cuts off at its kind byte (R149). -/
theorem proxyTransaction_kind (full : (s.rooms.get r).cfg.proxy = .full) :
    proxyTransaction r header [kind] k m s =
      closeExchange (takenBytes [header, kind] (.proxyCache r (s.rooms.get r).cfg.proxy)) m s := by
  have passes : ¬ (s.rooms.get r).cfg.proxy ≠ .full := fun h => h full
  unfold proxyTransaction
  simp only [if_neg passes]
  split
  · rfl
  · split <;> rfl

end Offer

/-- Settles O34: an offered frame is taken or refused, and every other one is refused or cut off before it is
offered. -/
theorem forwardOfferIsTakenOrRefused : Obligations.ForwardOfferIsTakenOrRefused := by
  rintro r header kind rest k m s frame ⟨powered, held⟩ proxied bytes a refusedAt cutOff
  have full : (s.rooms.get r).cfg.proxy = .full := proxied.2.2.2.1
  have row (bs : List Byte) : exec (.forwardOffer (some header) bs k m) s =
      .next (driveLines (proxyTransaction r header bs k m s)) := by
    rw [exec_forwardOffer powered, houseTransaction_proxied _ _ _ _ held proxied]
  have cut (bs : List Byte) : Host.Outcome.next (driveLines (closeExchange
      (takenBytes bs (.proxyCache r (s.rooms.get r).cfg.proxy)) m s)) = cutOff bs := by
    rw [full]
    rfl
  refine ⟨fun good => ?offered, fun send => ⟨fun len more shape long => ?_, fun payload check short shape sum => ?_,
    fun len more shape fits short => ?_⟩, ?_, ?_⟩
  case offered =>
    have offers : Offers header kind rest frame := by
      rcases good with ⟨fetch, other, sel, rfl, rfl⟩ | ⟨send, sum, payload, check, short, rfl, rfl⟩
      · exact .fetch fetch other
      · exact .send send sum short
    rw [row, offers.offered r k m s full]
    refine ⟨fun busy => ?_, fun empty free => ?_⟩
    · rw [offerForward_refused busy]
    · obtain ⟨seg, chosen, idle, tool, busy⟩ := arbitrate_offerTaken a frame
        { s.house with
          state := .proxyHeld r (s.rooms.get r).cfg.proxy (headerIsFetch header)
          received := bytes
          sent := []
          acks := acked (bytes.length - 1)
          timeout := some s.params.g2.forwardTimeout } s
      have taken : offerForward r (headerAddress header) frame bytes (headerIsFetch header) m s = _ :=
        (if_pos ⟨empty, free⟩).trans chosen
      rw [offers.sent] at idle
      refine ⟨seg, ?_, idle, tool, busy⟩
      rw [taken, full]
      rfl
  · have refused : forwardSend r header kind (len :: more) m s =
        closeExchange (refusedBytes [header, kind, len]) m s := if_pos long
    rw [row, proxyTransaction_send send full, shape, refused, closeExchange_refused]
  · have wrong : sum8 (header :: kind :: (byteOf payload.length :: payload ++ [check])) ≠ 0 := shape ▸ sum
    rw [row, proxyTransaction_send send full, shape, forwardSend_whole short, if_pos wrong, closeExchange_refused,
      ← shape]
  · rw [row, proxyTransaction_send send full, shape, forwardSend_cut fits short, cut, ← shape]
  · rw [row, proxyTransaction_kind full, cut]
  · rw [row]
    exact cut [header]

end Sys2Proof.Machine

/-! Probes: the line filter, the capture, and what a completed cycle or a STUCK error leaves (R24 to R33). -/

namespace Sys2Proof.Machine

/-! ## The rows -/

/-- The part after one run of samples at a fitted probe whose accepted level is set (R24). -/
theorem sampleLine_run {i : ProbeIx} {run : LineRun} {s : State} (fitted : (s.probes.get i).cfg.fitted = true)
    (adopted : (s.probes.get i).adopting = false) (some : run.samples ≠ 0) :
    sampleLine i [run] s = s.setProbes (s.probes.set i
      ((s.probes.get i).feed s.params.g3.errorThreshold run.level (feedFuel run.samples) run.samples)) := by
  have taken : (s.probes.get i).takeRun s.params.g3.errorThreshold run =
      (s.probes.get i).feed s.params.g3.errorThreshold run.level (feedFuel run.samples) run.samples := by
    simp [Probe.takeRun, fitted, adopted, some]
  rw [← taken]
  rfl

theorem Depth.samples_eq (d : Depth) : d.samples = if d = .two then 2 else 4 := by cases d <;> rfl

section Feed

variable {threshold fuel k : Nat} {level : Bool} {p : Probe}

/-- A line that has settled at the accepted level has no event left to take (R24, R26). -/
theorem Probe.feed_settled (accepted : p.accepted = level) (run : p.run = 0) (below : p.counter < 65535) :
    p.feed threshold level (fuel + 1) 0 = p := by
  have quiet : p.toEdge level = none := if_pos accepted.symm
  have early : 0 < Config.stuckCount - p.counter := by
    have : Config.stuckCount = 65535 := rfl
    omega
  simp only [Probe.feed, quiet, if_pos early, Probe.count, if_pos accepted.symm, Nat.add_zero]
  rw [← run]

section Other

variable (other : level ≠ p.accepted) (fresh : p.run = 0)
include other fresh

theorem Probe.toEdge_other : p.toEdge level = some p.cfg.depth.samples := by
  rw [Probe.toEdge, if_neg other, fresh, Nat.sub_zero]

/-- Fewer samples than the depth make no edge (R24). -/
theorem Probe.feed_short (short : k < p.cfg.depth.samples)
    (below : p.counter + p.cfg.depth.samples < 65535) :
    p.feed threshold level (fuel + 1) k = { p with counter := p.counter + k, run := k } := by
  have early : p.cfg.depth.samples < Config.stuckCount - p.counter := by
    have : Config.stuckCount = 65535 := rfl
    omega
  simp only [Probe.feed, Probe.toEdge_other other fresh, if_pos early, if_pos short, Probe.count, if_neg other,
    fresh, Nat.zero_add]

/-- As many samples of the other level as the depth make an edge at the last of them (R24, R25). -/
theorem Probe.feed_edge (below : p.counter + p.cfg.depth.samples < 65535) {q : Probe}
    (edge : { p with
      counter := p.counter + p.cfg.depth.samples, run := p.cfg.depth.samples }.edge threshold = q)
    (accepted : q.accepted = level) (run : q.run = 0) (counter : q.counter < 65535) :
    p.feed threshold level (fuel + 2) p.cfg.depth.samples = q := by
  have early : p.cfg.depth.samples < Config.stuckCount - p.counter := by
    have : Config.stuckCount = 65535 := rfl
    omega
  have counted : p.count level p.cfg.depth.samples =
      { p with counter := p.counter + p.cfg.depth.samples, run := p.cfg.depth.samples } := by
    rw [Probe.count, if_neg other, fresh, Nat.zero_add]
  rw [Probe.feed]
  simp only [Probe.toEdge_other other fresh, if_pos early, lt_irrefl, if_false, Nat.sub_self, counted, edge]
  exact Probe.feed_settled accepted run counter

end Other

/-- The counter reaches 65,535 on a line that shows the accepted level (R26). -/
theorem Probe.feed_stuck {q : Probe}
    (stuck : { p with counter := 0, run := 0, phase := .wait }.error threshold .stuck = q)
    (accepted : q.accepted = p.accepted) (run : q.run = 0) (counter : q.counter = 0) :
    p.feed threshold p.accepted (fuel + 2) (65535 - p.counter) = q := by
  have quiet : p.toEdge p.accepted = none := if_pos rfl
  have late : ¬ 65535 - p.counter < Config.stuckCount - p.counter := lt_irrefl _
  have counted : (p.count p.accepted (Config.stuckCount - p.counter)).stuck threshold = q := by
    rw [← stuck]
    simp [Probe.stuck, Probe.count]
  rw [Probe.feed]
  simp only [quiet, if_neg late, counted]
  have rest : 65535 - p.counter - (Config.stuckCount - p.counter) = 0 := Nat.sub_self _
  rw [rest]
  exact Probe.feed_settled accepted run (by omega)

end Feed

/-! ## Errors and good samples -/

/-- An error of a fitted probe (R31, R32). -/
theorem Probe.error_eq {p : Probe} (known : p.status ≠ .absent) (threshold : Nat) (e : ProbeError) :
    p.error threshold e =
      (let n := if p.status = .ok then 1 else min 255 (p.errors + 1)
      if p.status = .failed then { p with errors := n, lastError := e, recovery := 0 }
      else if threshold ≤ n then
        { p with errors := n, lastError := e, recovery := 0, status := .failed }
      else { p with errors := n, lastError := e, status := .suspect }) := by
  unfold Probe.error saturate
  cases status : p.status with
  | absent => exact absurd status known
  | suspect => simp
  | ok => simp
  | failed => simp

/-- What holds after an error holds of the probe that the table of R31 and R32 gives. -/
theorem Probe.of_error {P : Probe → Prop} {p : Probe} {threshold : Nat} {e : ProbeError}
    (known : p.status ≠ .absent) (after : P (p.error threshold e)) :
    let n := if p.status = .ok then 1 else min 255 (p.errors + 1)
    if p.status = .failed then P { p with errors := n, lastError := e, recovery := 0 }
    else if threshold ≤ n then
      P { p with errors := n, lastError := e, recovery := 0, status := .failed }
    else P { p with errors := n, lastError := e, status := .suspect } := by
  rw [Probe.error_eq known] at after
  dsimp only at after ⊢
  rwa [apply_ite P, apply_ite P] at after

/-- What holds after a good sample holds of the probe that the table of R29, R31 and R33 gives. -/
theorem Probe.goodSample_eq {p : Probe} (known : p.status ≠ .absent) (x : Int) :
    p.goodSample x =
      if p.status = .failed then
        if p.recovery + 1 < 16 then
          { p with sample := some x, errors := 0, recovery := p.recovery + 1 }
        else { p with sample := some x, filtered := some x, errors := 0, recovery := 0, status := .ok }
      else
        { p with
          sample := some x, filtered := some (filterStep p.cfg.shift p.filtered x), errors := 0, status := .ok } := by
  have limit : Config.recoveryCount = 16 := rfl
  unfold Probe.goodSample
  cases status : p.status with
  | absent => exact absurd status known
  | suspect => rfl
  | ok => rfl
  | failed =>
    by_cases few : p.recovery + 1 < 16
    · simp only [limit, if_neg (Nat.not_le.mpr few), if_pos few, if_true, ← status]
    · simp only [limit, if_pos (Nat.not_lt.mp few), if_neg few, if_true]

/-- The line filter and the counter are the same in both. -/
structure Probe.SameLine (p q : Probe) : Prop where
  accepted : q.accepted = p.accepted
  run : q.run = p.run
  counter : q.counter = p.counter

theorem Probe.SameLine.error (p : Probe) (threshold : Nat) (e : ProbeError) : p.SameLine (p.error threshold e) := by
  unfold Probe.error
  dsimp only
  repeat' split
  all_goals exact ⟨rfl, rfl, rfl⟩

theorem Probe.SameLine.goodSample (p : Probe) (x : Int) : p.SameLine (p.goodSample x) := by
  unfold Probe.goodSample
  repeat' split
  all_goals exact ⟨rfl, rfl, rfl⟩

theorem Probe.SameLine.checkCycle (p : Probe) (threshold h c : Nat) :
    p.SameLine (p.checkCycle threshold h c) := by
  unfold Probe.checkCycle
  dsimp only
  split
  · exact .error p _ _
  · split
    · exact .error p _ _
    · exact .goodSample p _

theorem filterStep_some (shift : Nat) (v x : Int) :
    filterStep shift (some v) x =
      if shift = 0 then x else v + Int.fdiv (x - v + 2 ^ (shift - 1)) (2 ^ shift) := by
  rw [filterStep, Int.fdiv_eq_ediv_of_nonneg _ (by positivity)]

/-- Settles O43, by the checks of the cycle and by the probe's status. -/
theorem completedCycleIsChecked : Obligations.CompletedCycleIsChecked := by
  intro i h s powered p depth c ratio x fitted adopted fresh low phase high below known p' becomes error
  have samples : p.cfg.depth.samples = depth := p.cfg.depth.samples_eq
  have row : becomes (p'.checkCycle s.params.g3.errorThreshold h c) := by
    have some : depth ≠ 0 := by
      rw [← samples]
      cases p.cfg.depth <;> decide
    have rising : { p with counter := c, run := depth }.edge s.params.g3.errorThreshold =
        p'.checkCycle s.params.g3.errorThreshold h c := by
      have next : p' = { p with accepted := true, period := .some c, counter := 0, phase := .high, run := 0 } :=
        congrArg (fun n : Nat =>
          { p with accepted := true, period := .some c, counter := 0, phase := .high, run := n }) fresh
      rw [next]
      simp only [Probe.edge, Probe.risingEdge, low, phase, high, Bool.not_false, if_true, Option.getD_some]
    have line := Probe.SameLine.checkCycle p' s.params.g3.errorThreshold h c
    have fed := Probe.feed_edge (p := p) (level := true) (threshold := s.params.g3.errorThreshold)
      (fuel := depth / Config.stuckCount + 1) (by simp [low]) fresh (by rw [samples]; exact below)
      (by rw [samples]; exact rising) line.accepted (line.run.trans fresh) (line.counter.trans_lt (by norm_num [p']))
    rw [samples] at fed
    have taken := sampleLine_run (i := i) (run := { level := true, samples := depth }) (s := s) fitted adopted some
    have effect := taken.trans (congrArg (fun q => s.setProbes (s.probes.set i q)) fed)
    exact (exec_of_powered (c := .probeCycleComplete i [{ level := true, samples := depth }]) powered nofun).trans
      (congrArg (fun t => Host.Outcome.next (driveLines t)) effect)
  have errs (e : ProbeError) (shown : becomes (p'.error s.params.g3.errorThreshold e)) : error e :=
    Probe.of_error (p := p') known shown
  refine ⟨fun bad => errs _ ?_, fun least most bad => errs _ ?_, fun least most low high => ?good⟩
  · rwa [Probe.checkCycle, if_pos bad] at row
  · have timely : ¬ (c < 5000 ∨ 20000 < c) := by omega
    rw [Probe.checkCycle, if_neg timely] at row
    rwa [if_pos (show highRatio h c < 6554 ∨ 58982 < highRatio h c from bad)] at row
  case good =>
    have timely : ¬ (c < 5000 ∨ 20000 < c) := by omega
    have inRange : ¬ (highRatio h c < 6554 ∨ 58982 < highRatio h c) :=
      not_or.mpr ⟨Nat.not_lt.mpr low, Nat.not_lt.mpr high⟩
    rw [Probe.checkCycle, if_neg timely] at row
    dsimp only at row
    rw [if_neg inRange, Probe.goodSample_eq (p := p') known] at row
    by_cases failed : p.status = .failed
    · rw [if_pos failed]
      rw [if_pos (show p'.status = .failed from failed), apply_ite becomes] at row
      exact row
    · rw [if_neg failed]
      rw [if_neg (show ¬ p'.status = .failed from failed)] at row
      refine ⟨_, row, fun empty => ?_, fun v filtered => ?_⟩
      · rw [show p'.filtered = none from empty]
        rfl
      · rw [show p'.filtered = some v from filtered, filterStep_some]
        split
        · rfl
        · rfl

/-! ## The line filter and the capture (O44) -/

/-- Settles O44, event by event. -/
theorem captureFollowsLine : Obligations.CaptureFollowsLine := by
  intro i n s powered p depth becomes line errors stuck fitted adopted
  have samples : p.cfg.depth.samples = depth := p.cfg.depth.samples_eq
  have some : depth ≠ 0 := by
    rw [← samples]
    cases p.cfg.depth <;> decide
  have edges {q : Probe} (least : n ≠ 0)
      (fed : p.feed s.params.g3.errorThreshold (!p.accepted) (feedFuel n) n = q) :
      exec (.acceptedEdge i line) s = becomes q := by
    have taken := sampleLine_run (i := i) (run := { level := !p.accepted, samples := n }) (s := s) fitted adopted least
    have effect := taken.trans (congrArg (fun q => s.setProbes (s.probes.set i q)) fed)
    exact (exec_of_powered (c := .acceptedEdge i line) powered nofun).trans
      (congrArg (fun t => Host.Outcome.next (driveLines t)) effect)
  have other : (!p.accepted) ≠ p.accepted := by simp
  have whole {q : Probe} (all : n = depth) (fresh : p.run = 0) (below : p.counter + depth < 65535)
      (edge : { p with counter := p.counter + depth, run := depth }.edge s.params.g3.errorThreshold = q)
      (accepted : q.accepted = !p.accepted) (run : q.run = 0) (counter : q.counter < 65535) :
      exec (.acceptedEdge i line) s = becomes q := by
    refine edges (all ▸ some) ?_
    rw [all, ← samples]
    exact Probe.feed_edge other fresh (by rw [samples]; exact below) (by rw [samples]; exact edge) accepted run counter
  refine ⟨fun least short fresh below => edges (by omega) ?_, fun all fresh below low phase => ?_,
    fun all fresh below high phase => ?_, fun all fresh below high phase => ?_, fun below known => ?stuck⟩
  · exact Probe.feed_short other fresh (by omega) (by omega)
  · refine whole all fresh below ?_ (by simp [low]) fresh (Nat.zero_lt_succ _)
    simp [Probe.edge, Probe.risingEdge, low, phase, fresh]
  · refine whole all fresh below ?_ (by simp [high]) fresh below
    simp [Probe.edge, Probe.fallingEdge, high, phase, fresh]
  · refine whole all fresh below ?_ (by simp [high]) fresh below
    simp [Probe.edge, Probe.fallingEdge, high, phase, fresh]
  case stuck =>
    obtain ⟨q, failed⟩ : ∃ q, { p with counter := 0, run := 0, phase := .wait }.error s.params.g3.errorThreshold
        .stuck = q := ⟨_, rfl⟩
    have line := Probe.SameLine.error { p with counter := 0, run := 0, phase := .wait }
      s.params.g3.errorThreshold .stuck
    rw [failed] at line
    have fed := Probe.feed_stuck (fuel := (65535 - p.counter) / Config.stuckCount + 1) failed line.accepted line.run
      line.counter
    have taken := sampleLine_run (i := i) (run := { level := p.accepted, samples := 65535 - p.counter }) (s := s)
      fitted adopted (by dsimp only; omega)
    have effect := taken.trans (congrArg (fun q => s.setProbes (s.probes.set i q)) fed)
    have row : exec (.stuckError i [{ level := p.accepted, samples := 65535 - p.counter }]) s = becomes q :=
      (exec_of_powered (c := .stuckError i _) powered nofun).trans
        (congrArg (fun t => Host.Outcome.next (driveLines t)) effect)
    rw [row, ← failed]
    exact congrArg becomes (Probe.error_eq (p := { p with counter := 0, run := 0, phase := .wait }) known _ _)

end Sys2Proof.Machine

/-! Timer events of channels, valves, the pump hold and the start queue (R8 to R20, R110, R116, R127, R128). -/

namespace Sys2Proof.Machine

/-! ## Timer events -/

/-- A timer event that is due is taken, and the lines follow (log 2). -/
theorem exec_timed_due {c : Instr} {a : Nat} {s : State} {due : State → Bool} {f : State → State}
    (row : exec c s = .next (driveLines (timed a due f s))) (now : due (elapse a s) = true) :
    exec c s = .next (driveLines (f (elapse a s))) := by
  rw [row, timed_of_due now]

/-- Of an event that is not due only its seconds are taken (log 2). -/
theorem exec_timed_not_due {c : Instr} {a : Nat} {s : State} {due : State → Bool} {f : State → State}
    (row : exec c s = .next (driveLines (timed a due f s))) (later : due (elapse a s) = false) :
    exec c s = .next (driveLines (elapse a s)) := by
  rw [row, timed_of_not_due later]

section Elapsed

variable (a : Nat) (s : State) (i : LoopIx)

theorem elapse_energised : ((elapse a s).channels.get i).energised = (s.channels.get i).energised := by
  rw [elapse_channels, Bank.get_imap]
  rfl

theorem elapse_closeTime : ((elapse a s).channels.get i).closeTime = (s.channels.get i).closeTime := by
  rw [elapse_channels, Bank.get_imap]
  rfl

theorem elapse_condition : ((elapse a s).channels.get i).condition = (s.channels.get i).condition := by
  rw [elapse_channels, Bank.get_imap]
  rfl

theorem elapse_flows : ((elapse a s).channels.get i).valve.flows = (s.channels.get i).valve.flows := by
  rw [elapse_channels, Bank.get_imap, Channel.elapse]
  cases (s.channels.get i).valve <;> rfl

theorem elapse_eff : (elapse a s).period.eff = s.period.eff := by
  rw [elapse_period]
  rfl

theorem elapse_mode : (elapse a s).period.mode = s.period.mode := by
  rw [elapse_period]
  rfl

theorem elapse_plan : (elapse a s).arb.plan = s.arb.plan := by
  rw [elapse_arb]

theorem elapse_queue : (elapse a s).arb.queue = s.arb.queue := by
  rw [elapse_arb]

end Elapsed

/-! ## Joins and grants -/

/-- Settles O50: what joins, and that a grant opportunity follows. -/
theorem joinsAndGrants : Obligations.JoinsAndGrants := by
  intro a s powered t
  have joins : exec (.join a) s = .next (driveLines (timed a joinReached joinFirst s)) := exec_of_powered powered nofun
  have spaces : exec (.spacingExpiry a) s = .next (driveLines (timed a spacingReached opportunity s)) :=
    exec_of_powered powered nofun
  have heats (mode : s.period.mode = .running ∨ s.period.mode = .flush) : t.period.mode.heats = true := by
    rw [Mode.heats_iff, elapse_mode]
    exact mode
  have waits (later : ∀ e, s.arb.plan.head? = some e → ¬ (e.joinTime ≤ t.period.time ∧ e.joinTime < s.period.eff.period)) :
      joinReached t = false := by
    rw [joinReached, elapse_plan, elapse_eff, Bool.and_eq_false_iff]
    refine .inr ?_
    cases first : s.arb.plan.head? with
    | none => rfl
    | some e => simpa using later e first
  refine ⟨fun e rest mode plan now below => ?_, fun mode later => ?_, fun e first late => ?_,
    fun x queue since spacing => ?_⟩
  · have due : joinReached t = true := by
      rw [joinReached, heats mode, elapse_plan, elapse_eff, plan]
      simp [now, below, t]
    refine ⟨joinFirst t, exec_timed_due joins due, ?_⟩
    have first : joinFirst t = opportunity { t with
        arb := { t.arb with plan := rest, queue := s.arb.queue ++ [.loop e.loop] } } := by
      have plan' : t.arb.plan = e :: rest := (elapse_plan a s).trans plan
      have queue : t.arb.queue = s.arb.queue := elapse_queue a s
      unfold joinFirst
      simp only [plan', queue]
      rfl
    rw [first]
    exact opportunity_after _
  · refine exec_timed_not_due joins (waits fun e first now => ?_)
    exact absurd (later e first) (Nat.not_lt.mpr now.1)
  · refine exec_timed_not_due joins (waits fun d first' now => ?_)
    rw [first, Option.some.injEq] at first'
    rw [← first'] at now
    omega
  · have due : spacingReached t = true := by
      rw [spacingReached, elapse_queue, elapse_eff, since]
      simp [spacing, queue]
    exact ⟨opportunity t, exec_timed_due spaces due, opportunity_after t⟩

/-! ## Releases of one channel -/

theorem imap_single {b : Bank Channel 16} (i : LoopIx) (f : Channel → Channel) :
    (b.imap fun j c => if decide (j = i) then f c else c) = b.set i (f (b.get i)) := by
  refine Bank.ext_get fun j => ?_
  rw [Bank.get_imap, Bank.get_set]
  by_cases same : j = i
  · subst same
    simp
  · simp [same]

theorem testAfterRelease_single {s : State} {i : LoopIx} (energised : (s.channels.get i).energised = true) :
    testAfterRelease (fun j => j = i) s = match s.test with
      | .active j d r => if j = i then .idle else .active j d r
      | .queued j d => .queued j d
      | .idle => .idle := by
  unfold testAfterRelease
  cases s.test with
  | active j d r =>
    by_cases same : j = i
    · subst same
      simp [energised]
    · simp [same]
  | idle => rfl
  | queued j d => rfl

theorem releaseWhere_single {s : State} {i : LoopIx} (energised : (s.channels.get i).energised = true) :
    releaseWhere (fun j => j = i) s = s.afterReleaseOf i := by
  rw [releaseWhere_eq, imap_single i fun c => c.afterRelease s.period.eff.tClose, testAfterRelease_single energised]
  rfl

/-- An energised channel released is a grant opportunity of the state after it (R8, R116). -/
theorem releaseOne_eq {s : State} {i : LoopIx} (energised : (s.channels.get i).energised = true) :
    releaseOne i s = opportunity (s.afterReleaseOf i) := by
  have some : anyEnergised (fun j => j = i) s = true := by
    simp only [anyEnergised, List.any_eq_true]
    exact ⟨i, List.mem_finRange i, by simp [energised]⟩
  rw [releaseOne, releaseAndOffer, if_pos some, releaseWhere_single energised]

/-- Settles O51, by the close time and by the test's remaining seconds. -/
theorem channelsReleaseThemselves : Obligations.ChannelsReleaseThemselves := by
  intro i a s powered energised t
  have closes : exec (.closeTimeReached i a) s = .next (driveLines (timed a (closeReached i) (releaseOne i) s)) :=
    exec_of_powered powered nofun
  have ends : exec (.testEnd a) s = .next (driveLines (timed a testOver finishTest s)) := exec_of_powered powered nofun
  have energised' : (t.channels.get i).energised = true := (elapse_energised a s i).trans energised
  refine ⟨fun c close now below => ?_, fun c close late => ?_, fun d test queue => ?_⟩
  · have due : closeReached i t = true := by
      rw [closeReached, energised', elapse_closeTime, elapse_eff, close]
      simp [now, below, t]
    exact ⟨releaseOne i t, exec_timed_due closes due, releaseOne_eq energised' ▸ opportunity_after _⟩
  · refine exec_timed_not_due closes ?_
    rw [closeReached, elapse_closeTime, elapse_eff, close]
    simp only [Option.any_some, Bool.and_eq_false_iff, decide_eq_false_iff_not]
    exact .inr (.inr (Nat.not_lt.mpr late))
  · have gone : a - secondsOf (1000 * a) s = 0 := Nat.sub_eq_zero_of_le (secondsOf_ge a s)
    have test' : t.test = .active i d 0 := by
      rw [elapse_test, test, ChannelTest.elapse, gone]
    have due : testOver t = true := (testOver_iff t).mpr ⟨i, d, test'⟩
    have finished : finishTest t = (releaseOne i t).setTest .idle := by
      unfold finishTest
      simp only [test']
    have released : releaseOne i t = t.afterReleaseOf i := by
      rw [releaseOne, releaseAndOffer_of_empty _ ((elapse_queue a s).trans queue), releaseWhere_single energised']
    rw [exec_timed_due ends due, finished, released, ← elapse_eff a s]
    rfl

/-! ## Load checks and overcurrents -/

theorem faultChannel_eq {s : State} {i : LoopIx} (energised : (s.channels.get i).energised = true) (c : Condition) :
    faultChannel i c s = opportunity (s.afterFault i c) := by
  have dropped : dropLoops (fun j => j = i)
      (s.setChannels (s.channels.set i { s.channels.get i with condition := c })) =
      { s with
        channels := s.channels.set i { s.channels.get i with condition := c }
        arb := { s.arb with
          plan := s.arb.plan.filter fun e => e.loop ≠ i
          queue := s.arb.queue.filter fun e => e ≠ QueueEntry.loop i } } := by
    have queue : (s.arb.queue.filter fun e => match e with
        | .loop j => !decide (j = i)
        | .test _ => true) = s.arb.queue.filter fun e => e ≠ QueueEntry.loop i :=
      List.filter_congr fun e _ => by cases e <;> simp
    have plan : (s.arb.plan.filter fun e => !decide (e.loop = i)) = s.arb.plan.filter fun e => e.loop ≠ i :=
      List.filter_congr fun e _ => by simp
    rw [← queue, ← plan]
    rfl
  have unfolded : faultChannel i c s = releaseOne i (dropLoops (fun j => j = i)
      (s.setChannels (s.channels.set i { s.channels.get i with condition := c }))) := rfl
  rw [unfolded, dropped]
  exact releaseOne_eq (by simpa using energised)

/-- A load at the check: an ABSENT channel under test becomes READY (R11, R19). -/
theorem checkLoad_load (i : LoopIx) (s : State) : checkLoad i true s = { s with
    channels := s.channels.set i { s.channels.get i with
      loadCheck := none
      condition := if (s.channels.get i).condition = .absent ∧ underTest i s = true then .ready
        else (s.channels.get i).condition } } := by
  unfold checkLoad
  simp only [if_true, Bool.and_eq_true, decide_eq_true_iff]
  rfl

/-- Settles O52, by what the sense input shows and by the channel's state. -/
theorem faultsReleaseChannel : Obligations.FaultsReleaseChannel := by
  intro i a s powered t
  have trips : exec (.overcurrent i) s = .next (driveLines (tripChannel i s)) := exec_of_powered powered nofun
  refine ⟨fun energised check => ?loadCheck, fun energised => ?_, fun released => ?_⟩
  case loadCheck =>
    intro passed
    have checks (load : Bool) : exec (.loadCheck i load a) s =
        .next (driveLines (timed a (loadCheckDue i) (checkLoad i load) s)) := exec_of_powered powered nofun
    have energised' : (t.channels.get i).energised = true := (elapse_energised a s i).trans energised
    have gone : a - secondsOf (1000 * a) s = 0 := Nat.sub_eq_zero_of_le (secondsOf_ge a s)
    have check' : (t.channels.get i).loadCheck = some 0 := by
      rw [elapse_channels, Bank.get_imap, Channel.elapse, check, Option.map_some, gone]
    have due : loadCheckDue i t = true := by
      rw [loadCheckDue, energised', check']
      rfl
    have under : underTest i t = true ↔ ∃ d x, s.test = .active i d x := by
      rw [underTest, elapse_test]
      cases s.test with
      | active j d r => simp [ChannelTest.elapse]
      | idle => simp [ChannelTest.elapse]
      | queued j d => simp [ChannelTest.elapse]
    have loaded (c : Condition) (becomes : (if (s.channels.get i).condition = .absent ∧ underTest i t = true then
        Condition.ready else (s.channels.get i).condition) = c) : exec (.loadCheck i true a) s = passed c := by
      rw [exec_timed_due (checks true) due, ← becomes, ← elapse_condition a s i, checkLoad_load]
    refine ⟨fun absent tested => loaded _ (if_pos ⟨absent, under.mpr tested⟩), fun other => loaded _ (if_neg ?_),
      faultChannel i .absent t, exec_timed_due (checks false) due, ?_⟩
    · rintro ⟨absent, tested⟩
      obtain ⟨d, x, test⟩ := under.mp tested
      rcases other with present | untested
      · exact present absent
      · exact untested d x test
    · rw [faultChannel_eq energised']
      exact opportunity_after _
  · refine ⟨faultChannel i .tripped s, trips.trans ?_, ?_⟩
    · rw [tripChannel, if_pos energised]
    · rw [faultChannel_eq energised]
      exact opportunity_after _
  · rw [trips, tripChannel, if_neg (by simp [released])]

/-! ## Valves and the pump request -/

theorem othersFlow_iff (s : State) (i : LoopIx) :
    othersFlow s i = true ↔ ∃ j, j ≠ i ∧ (s.channels.get j).valve.flows = true := by
  simp [othersFlow, allLoops]

section Flow

variable {s t : State} {i : LoopIx} {c : Channel}

/-- A valve that comes to flow moves the pump request, unless another valve flows already (R127, R128). -/
theorem pumpMove_rises (closed : (s.channels.get i).valve.flows = false) (flows : c.valve.flows = true) (hold : Nat)
    (p : Supply) : pumpMove (flowCount s.channels) (flowCount (s.channels.set i c)) hold p =
      p.afterFlow true (othersFlow s i) hold := by
  have after : 0 < flowCount (s.channels.set i c) :=
    (flowCount_pos _).mpr ⟨i, by rw [Bank.get_set_self]; exact flows⟩
  have before : flowCount s.channels = 0 ↔ ¬ othersFlow s i = true := by
    rw [flowCount_zero, othersFlow_iff]
    constructor
    · rintro none ⟨j, -, flowing⟩
      rw [none j] at flowing
      cases flowing
    · intro none j
      by_cases same : j = i
      · rw [same, closed]
      · exact Bool.eq_false_iff.mpr fun flowing => none ⟨j, same, flowing⟩
  unfold pumpMove Supply.afterFlow
  cases others : othersFlow s i with
  | true =>
    have some : ¬ flowCount s.channels = 0 := fun zero => before.mp zero others
    simp [some, after.ne']
  | false => simp [before.mpr (by simp [others]), after]

/-- A valve that ceases to flow moves the pump request, unless another valve still flows (R127, R128). -/
theorem pumpMove_falls (flows : (s.channels.get i).valve.flows = true) (closed : c.valve.flows = false) (hold : Nat)
    (p : Supply) : pumpMove (flowCount s.channels) (flowCount (s.channels.set i c)) hold p =
      p.afterFlow false (othersFlow s i) hold := by
  have before : 0 < flowCount s.channels := (flowCount_pos _).mpr ⟨i, flows⟩
  have after : flowCount (s.channels.set i c) = 0 ↔ ¬ othersFlow s i = true := by
    rw [flowCount_zero, othersFlow_iff]
    constructor
    · rintro none ⟨j, other, flowing⟩
      have := none j
      rw [Bank.get_set_ne _ _ other, flowing] at this
      cases this
    · intro none j
      by_cases same : j = i
      · rw [same, Bank.get_set_self, closed]
      · rw [Bank.get_set_ne _ _ same]
        exact Bool.eq_false_iff.mpr fun flowing => none ⟨j, same, flowing⟩
  unfold pumpMove Supply.afterFlow
  cases others : othersFlow s i with
  | true =>
    have some : ¬ flowCount (s.channels.set i c) = 0 := fun zero => after.mp zero others
    simp [before.ne', some]
  | false =>
    simp only [before.ne', before, after.mpr (by simp [others])]
    cases p.pump <;> simp

theorem othersFlow_elapse (a : Nat) (s : State) (i : LoopIx) : othersFlow (elapse a s) i = othersFlow s i := by
  unfold othersFlow
  simp only [elapse_flows]

theorem putChannel_eq (i : LoopIx) (c : Channel) (s : State) : putChannel i c s = { s with
    channels := s.channels.set i c
    supply := pumpMove (flowCount s.channels) (flowCount (s.channels.set i c)) s.params.g3.pumpHold s.supply } := rfl

end Flow

/-- Settles O53, by the estimate that ends and by whether another valve flows. -/
theorem valvesMovePump : Obligations.ValvesMovePump := by
  intro i a s powered t
  have gone : a - secondsOf (1000 * a) s = 0 := Nat.sub_eq_zero_of_le (secondsOf_ge a s)
  refine ⟨fun opening => ?_, fun closing => ?_, fun hold timer => ?_⟩
  · have row : exec (.openingEnds i a) s = .next (driveLines (timed a (openingOver i) (finishOpening i) s)) :=
      exec_of_powered powered nofun
    have opening' : (t.channels.get i).valve = .opening 0 := by
      rw [elapse_channels, Bank.get_imap, Channel.elapse, opening, Valve.elapse, gone]
    have due : openingOver i t = true := decide_eq_true opening'
    rw [exec_timed_due row due, finishOpening, putChannel_eq,
      pumpMove_rises (s := t) (by rw [opening']; rfl) rfl, othersFlow_elapse, elapse_params]
  · have row : exec (.closingEnds i a) s = .next (driveLines (timed a (closingOver i) (finishClosing i) s)) :=
      exec_of_powered powered nofun
    have closing' : (t.channels.get i).valve = .closing 0 := by
      rw [elapse_channels, Bank.get_imap, Channel.elapse, closing, Valve.elapse, gone]
    have due : closingOver i t = true := decide_eq_true closing'
    rw [exec_timed_due row due, finishClosing, putChannel_eq,
      pumpMove_falls (s := t) (by rw [closing']; rfl) rfl, othersFlow_elapse, elapse_params]
  · have row : exec (.pumpHoldExpiry a) s = .next (driveLines (timed a holdOver finishHold s)) :=
      exec_of_powered powered nofun
    have due : holdOver t = true := by
      rw [holdOver, elapse_supply, timer, Option.map_some, gone]
      simp [hold]
    rw [exec_timed_due row due]
    rfl

end Sys2Proof.Machine

/-! TEST_CHANNEL and SAVE (R18, R163, R171). -/

namespace Sys2Proof.Machine

/-! ## TEST_CHANNEL -/

theorem exec_testChannel_good {p : List Byte} (m : Mark) {s : State} (listens : s.listens) (len : p.length = 3)
    {r : Result} {t : State} (decided : ownTestChannel p s = (r, t)) (own : t.house.own = s.house.own) :
    exec (.testChannel (goodFrame s .testChannel p m)) s
      = .next (driveLines { t with house := t.house.afterSend .testChannel p r m }) :=
  exec_ownSend_good (fun _ _ => rfl) m listens (by simp [SendKind.lengths, len]) rfl decided own

/-- A test's entry alone in the queue (R113). -/
def withTest (i : LoopIx) (d : Nat) (s : State) : State :=
  { s with test := .queued i d, arb := { s.arb with queue := [.test i] } }

section QueueTest

variable {i : LoopIx} {d : Nat} {s : State}

theorem queueTest_of_empty (empty : s.arb.queue = []) : queueTest i d s = opportunity (withTest i d s) := by
  unfold queueTest withTest
  rw [empty]
  rfl

/-- The entry is granted at once where a grant can be made (R18, R113). -/
theorem queueTest_granted (empty : s.arb.queue = []) (below : energisedCount s < s.period.eff.limit)
    (spaced : ∀ x, s.arb.sinceGrant = some x → s.period.eff.spacing ≤ x) :
    queueTest i d s = { s with
      channels := s.channels.set i ((s.channels.get i).afterGrant s.period.eff.tOpen none)
      test := .active i d d
      arb := { s.arb with sinceGrant := some 0 } } := by
  have one : (if (withTest i d s).period.eff.spacing = 0 then (withTest i d s).arb.queue.length else 1) = 1 := by
    split <;> rfl
  have ready : grantReady (withTest i d s) = true :=
    (grantReady_iff _).mpr ⟨by simp [withTest], below, spaced⟩
  rw [queueTest_of_empty empty, opportunity, one, grantsUpTo, if_pos ready, grantsUpTo,
    grantHead_test (s := withTest i d s) (i := i) (q := []) rfl rfl, State.afterTestGrant, ← empty]
  rfl

/-- The entry waits where the last grant was within the start spacing (R113). -/
theorem queueTest_waits (empty : s.arb.queue = []) {x : Nat} (since : s.arb.sinceGrant = some x)
    (early : x < s.period.eff.spacing) : queueTest i d s = withTest i d s := by
  have unready : grantReady (withTest i d s) = false := by
    rw [← Bool.not_eq_true, grantReady_iff]
    rintro ⟨-, -, spaced⟩
    exact absurd (spaced x since) (Nat.not_le.mpr early)
  rw [queueTest_of_empty empty, opportunity_of_not_ready unready]

end QueueTest

/-- Settles O27, check by check, and by the start spacing. -/
theorem testChannelChecksAndQueues : Obligations.TestChannelChecksAndQueues := by
  intro p m s listens len d r refused
  refine ⟨fun outside => ?_, fun i number => ⟨fun mode => ?_, fun stopped busy => ?_, fun stopped idle tripped => ?_,
    fun stopped idle sound empty below => ?_⟩⟩
  · refine exec_testChannel_good m listens len (t := s) ?_ rfl
    rw [ownTestChannel, loopOfNumber_of_outside outside]
  all_goals have named : loopOfNumber (byteAt p 0) = some i := loopOfNumber_of_eq_succ number
  · refine exec_testChannel_good m listens len (t := s) ?_ rfl
    simp only [ownTestChannel, named, if_pos mode]
  · refine exec_testChannel_good m listens len (t := s) ?_ rfl
    simp only [ownTestChannel, named, stopped, not_true_eq_false, if_false, if_pos busy, ne_eq]
  · refine exec_testChannel_good m listens len (t := s) ?_ rfl
    simp only [ownTestChannel, named, stopped, idle, not_true_eq_false, if_false, tripped, if_true, ne_eq]
  · have clamped : clampNat 10 600 (wordAt p 1) = d := rfl
    have decided : ownTestChannel p s = (r, queueTest i d s) := by
      simp only [ownTestChannel, named, stopped, idle, not_true_eq_false, if_false, ne_eq, if_neg sound, clamped]
      exact Prod.ext (Result.ofClamp_ne _ _) rfl
    refine ⟨fun spaced => ?_, fun x since early => ?_⟩
    · rw [queueTest_granted empty below spaced] at decided
      exact exec_testChannel_good m listens len decided rfl
    · rw [queueTest_waits empty since early] at decided
      exact exec_testChannel_good m listens len decided rfl

/-! ## SAVE -/

/-- A written image with its check word loads what its words say (R168, R169). -/
theorem Image.load_checked (b : ImageBody) : (Image.written b (some b.checkWord)).load = b.tables := by
  have passes : b.checks (some b.checkWord) = true := by
    simp [ImageBody.checks, ImageBody.checkWord]
  exact if_pos passes

/-- Settles O28, by whether a save is in progress. -/
theorem saveTakesSnapshotAndCompletes : Obligations.SaveTakesSnapshotAndCompletes := by
  intro m a s listens
  have row {r : Result} {t : State} (decided : ownSave [] s = (r, t)) (own : t.house.own = s.house.own) :
      exec (.save (goodFrame s .save [] m)) s
        = .next (driveLines { t with house := t.house.afterSend .save [] r m }) :=
    exec_ownSend_good (fun _ _ => rfl) m listens (by simp [SendKind.lengths]) rfl decided own
  refine ⟨fun busy => ?_, fun free => ?_, fun b snapshot => ⟨?_, Image.load_checked b⟩⟩
  · have busy' : saving s = true := Option.isSome_iff_ne_none.mpr busy
    exact row (if_pos busy') rfl
  · have free' : ¬ saving s = true := by simp [saving, free]
    refine ⟨_, row (t := beginSave s) (if_neg free') rfl, rfl, ?_⟩
    exact Image.invalidated_load _ _
  · have completes : exec (.saveCompletes a) s = .next (driveLines (timed a saving completeSave s)) :=
      exec_of_powered listens.1 nofun
    have snapshot' : (elapse a s).store.snapshot = some b := by
      rw [elapse_store]
      exact snapshot
    have due : saving (elapse a s) = true := by
      rw [saving, snapshot']
      rfl
    rw [exec_timed_due completes due]
    unfold completeSave
    simp only [snapshot']
    rw [elapse_store]
    rfl

end Sys2Proof.Machine

/-! Every command completes: what it leaves of the queue of commands, and when it draws a free value (log 28,
log 34). -/

namespace Sys2Proof.Machine

/-! ## Nothing drawn -/

/-- The queue of commands and the count of free values are the same in both. -/
structure Undrawn (s t : State) : Prop where
  pending : t.pending = s.pending
  draws : t.draws = s.draws

/-- A command that has completed: the queue is left alone, and a free value is drawn at most for a drop that meets
a boundary (log 28, log 34). -/
structure Completes (s t : State) : Prop where
  pending : t.pending = s.pending
  draws : t.draws = s.draws ∨ t.draws = s.draws + 1 ∧ s.period.mode ≠ .stopped
    ∧ ∃ r, 0 < derivedDemand (s.rooms.get r) ∧ derivedDemand (t.rooms.get r) = 0

namespace Undrawn

theorem refl (s : State) : Undrawn s s := ⟨rfl, rfl⟩

theorem trans {s t u : State} (a : Undrawn s t) (b : Undrawn t u) : Undrawn s u :=
  ⟨b.pending.trans a.pending, b.draws.trans a.draws⟩

theorem completes {s t : State} (h : Undrawn s t) : Completes s t := ⟨h.pending, .inl h.draws⟩

end Undrawn

/-- What the drawing of a free value reads is the same in both: demands, and whether a period runs. -/
structure ReadsDrops (s t : State) : Prop extends Undrawn s t where
  mode : t.period.mode ≠ .stopped → s.period.mode ≠ .stopped
  demand : ∀ r, derivedDemand (t.rooms.get r) = derivedDemand (s.rooms.get r)

namespace Completes

variable {s t u : State}

/-- A drop that is reported when its rooms change: the free value is drawn for a boundary that it meets (R78). -/
theorem changeRooms (f : RoomIx → Room → Room) (s : State) : Completes s (changeRooms f s) := by
  obtain ⟨w, changed⟩ : ∃ w, w = s.setRooms (s.rooms.imap f) := ⟨_, rfl⟩
  obtain ⟨fell, dropped⟩ : ∃ fell : RoomIx → Bool, fell = fun r =>
      (0 < derivedDemand (s.rooms.get r) && derivedDemand (w.rooms.get r) = 0 : Bool) := ⟨_, rfl⟩
  have reported : Machine.changeRooms f s = reportDrops fell w := by
    rw [dropped, changed]
    rfl
  have mode : w.period = s.period := by rw [changed]; rfl
  have draws : w.draws = s.draws := by rw [changed]; rfl
  have pending : w.pending = s.pending := by rw [changed]; rfl
  refine ⟨by rw [reported, reportDrops_pending, pending], ?_⟩
  rw [reported, reportDrops_rooms]
  by_cases free : drawsOrder fell w = true
  · refine .inr ⟨by simp [reportDrops, free, draws], ?_, ?_⟩
    all_goals simp only [drawsOrder, Bool.and_eq_true, decide_eq_true_iff, List.any_eq_true] at free
    all_goals obtain ⟨⟨running, -⟩, r, -, drop⟩ := free
    · rw [← mode, running]
      nofun
    · simp only [dropped, Bool.and_eq_true, decide_eq_true_iff] at drop
      exact ⟨r, drop⟩
  · exact .inl (by simp [reportDrops, free, draws])

theorem before (reads : ReadsDrops s t) (h : Completes t u) : Completes s u := by
  refine ⟨h.pending.trans reads.pending, ?_⟩
  rw [← reads.draws]
  refine h.draws.imp_right fun ⟨drawn, runs, r, fell⟩ => ⟨drawn, reads.mode runs, r, ?_⟩
  rw [← reads.demand]
  exact fell

theorem after (h : Completes s t) (quiet : Undrawn t u) (rooms : u.rooms = t.rooms) : Completes s u := by
  refine ⟨quiet.pending.trans h.pending, ?_⟩
  rw [quiet.draws, rooms]
  exact h.draws

theorem refl (s : State) : Completes s s := (Undrawn.refl s).completes

end Completes

/-! ## Time -/

theorem Room.elapse_demand (k : Nat) (v : Room) : derivedDemand (v.elapse k) = derivedDemand v := by
  unfold Room.elapse
  split <;> rfl

theorem ReadsDrops.elapseMs (n : Nat) (s : State) : ReadsDrops s (elapseMs n s) where
  pending := by simp
  draws := by simp
  mode := by
    rw [elapseMs_period]
    exact id
  demand r := by rw [elapseMs_rooms, Bank.get_imap, Room.elapse_demand]

theorem Completes.timed {a : Nat} {due : State → Bool} {f : State → State}
    (h : ∀ s, due s = true → Completes s (f s)) (s : State) : Completes s (timed a due f s) := by
  have passed : ReadsDrops s (elapse a s) := .elapseMs _ s
  unfold Machine.timed
  dsimp only
  split
  · next now => exact (h _ now).before passed
  · exact passed.toUndrawn.completes

/-! ## The boundary -/

/-- The drops that meet a regular boundary come of the ages that expire at it (R47, R78). -/
theorem Completes.regularBoundary {s : State} (due : boundaryDue s = true) : Completes s (regularBoundary s) := by
  have runs : s.period.mode ≠ .stopped := by
    simp only [boundaryDue, Bool.and_eq_true] at due
    exact (Mode.runs_iff _).mp due.1
  obtain ⟨t, ticked⟩ : ∃ t, takeTicks (ticksOwed s) s = t := ⟨_, rfl⟩
  have reads : ReadsDrops s t := by
    rw [← ticked]
    exact ⟨⟨by simp, by simp⟩, fun _ => runs, fun r => by simp⟩
  unfold Machine.regularBoundary
  rw [ticked]
  dsimp only
  split
  · refine Completes.before reads ?_
    have ages : Completes t (expireAges t) := .changeRooms _ t
    exact ages.after ⟨by simp [boundaryWithDrops], by simp [boundaryWithDrops]⟩ (by simp [boundaryWithDrops])
  · exact reads.toUndrawn.completes

/-! ## Frames -/

theorem Undrawn.restart (scope : Scope) (s : State) : Undrawn s (restart scope s) := by
  constructor <;> cases scope <;> simp [Machine.restart, restartTables]

theorem Undrawn.powerUp (straps : BitVec 2) (s : State) : Undrawn s (powerUp straps s) := by
  constructor <;> simp [Machine.powerUp]

section Owners

variable (p : List Byte) (s : State)

theorem Undrawn.ownWriteLoop : Undrawn s (ownWriteLoop p s).2 := by
  unfold Machine.ownWriteLoop
  split
  · split
    · unfold writeLoopRecord
      dsimp only
      split <;> exact ⟨by simp, by simp⟩
    · exact .refl s
  · exact .refl s

/-- A room's new record can make its demand fall (R50). -/
theorem Completes.ownWriteRoom : Completes s (ownWriteRoom p s).2 := by
  unfold Machine.ownWriteRoom
  split
  · split
    · unfold writeRoomRecord
      refine Completes.before ?_ (.changeRooms _ _)
      split
      · exact ⟨⟨by simp, by simp⟩, by simp, by simp⟩
      · exact ⟨.refl s, id, fun _ => rfl⟩
    · exact .refl s
  · exact .refl s

theorem Undrawn.ownWriteProbe : Undrawn s (ownWriteProbe p s).2 := by
  unfold Machine.ownWriteProbe
  split
  · exact ⟨by simp, by simp⟩
  · exact .refl s

/-- A new hold time can make a room's demand fall (R159). -/
theorem Completes.ownWriteManifold : Completes s (ownWriteManifold p s).2 := by
  unfold Machine.ownWriteManifold
  split
  · exact Undrawn.completes ⟨rfl, rfl⟩
  · unfold writeGroup1
    dsimp only
    split
    · refine Undrawn.completes ?_
      dsimp only
      split <;> exact ⟨rfl, rfl⟩
    · exact .refl s
  · unfold writeGroup2 expireAges
    dsimp only
    refine Completes.before ?_ (.changeRooms _ _)
    exact ⟨⟨rfl, rfl⟩, id, fun _ => rfl⟩
  · unfold writeGroup3
    split
    · exact Undrawn.completes ⟨rfl, rfl⟩
    · exact .refl s
  · exact .refl s

theorem Undrawn.ownSetMode : Undrawn s (ownSetMode p s).2 := by
  unfold Machine.ownSetMode
  split
  · exact ⟨by simp, by simp⟩
  · unfold setRun
    split
    · split
      · exact ⟨by simp, by simp⟩
      · exact .refl s
    · exact .refl s
    · split
      · exact ⟨by simp, by simp⟩
      · exact .refl s
    · exact .refl s
  · unfold setFlush
    split
    · exact ⟨by simp, by simp⟩
    · exact ⟨by simp, by simp⟩
    · exact ⟨by simp, by simp⟩
    · exact .refl s
  · exact .refl s

theorem Undrawn.ownClear : Undrawn s (ownClear p s).2 := by
  unfold Machine.ownClear
  split
  · split
    · exact ⟨rfl, rfl⟩
    · exact .refl s
  · split
    · exact ⟨rfl, rfl⟩
    · exact .refl s
  · exact ⟨rfl, rfl⟩
  · exact .refl s

theorem Undrawn.ownTestChannel : Undrawn s (ownTestChannel p s).2 := by
  unfold Machine.ownTestChannel queueTest
  split
  · exact .refl s
  · dsimp only
    split
    · exact .refl s
    · split
      · exact .refl s
      · split
        · exact .refl s
        · exact ⟨by simp, by simp⟩

theorem Undrawn.ownSave : Undrawn s (ownSave p s).2 := by
  unfold Machine.ownSave
  split
  · exact .refl s
  · exact ⟨by simp, by simp⟩

theorem Undrawn.ownRestart : Undrawn s (ownRestart p s).2 := by
  unfold Machine.ownRestart
  split
  · exact .refl s
  · split
    · exact .refl s
    · exact .restart _ s

theorem Undrawn.ownSeed : Undrawn s (ownSeed p s).2 := by
  unfold Machine.ownSeed
  dsimp only
  split
  · exact .refl s
  · exact ⟨by simp, by simp⟩

/-- What an owner makes of a good frame completes. -/
theorem Completes.owner (k : SendKind) : Completes s (ownerOf k p s).2 := by
  cases k with
  | writeLoop => exact (Undrawn.ownWriteLoop p s).completes
  | writeRoom => exact .ownWriteRoom p s
  | writeProbe => exact (Undrawn.ownWriteProbe p s).completes
  | writeManifold => exact .ownWriteManifold p s
  | setMode => exact (Undrawn.ownSetMode p s).completes
  | clear => exact (Undrawn.ownClear p s).completes
  | testChannel => exact (Undrawn.ownTestChannel p s).completes
  | save => exact (Undrawn.ownSave p s).completes
  | restart => exact (Undrawn.ownRestart p s).completes
  | seed => exact (Undrawn.ownSeed p s).completes

end Owners

theorem Completes.ownSend (k : SendKind) (f : SendFrame) (s : State) :
    Completes s (ownSend k (ownerOf k) f s) := by
  unfold Machine.ownSend
  split
  · exact .refl s
  · dsimp only
    split
    · exact Undrawn.completes ⟨by simp, by simp⟩
    · next len rest _ =>
      split
      · exact Undrawn.completes ⟨by simp, by simp⟩
      · split
        · exact Undrawn.completes ⟨by simp, by simp⟩
        · split
          · exact Undrawn.completes ⟨by simp, by simp⟩
          · split
            · exact Undrawn.completes ⟨by simp, by simp⟩
            · exact (Completes.owner (rest.take len.toNat) s k).after ⟨by simp, by simp⟩ (by simp)

theorem Undrawn.ownSendKind (kind : Byte) (m : Mark) (s : State) : Undrawn s (ownSendKind kind m s) := by
  unfold Machine.ownSendKind
  dsimp only
  repeat' split
  all_goals exact ⟨by simp, by simp⟩

theorem Undrawn.ownFetch (k : FetchKind) (reply : Byte → State → Option (List Byte)) (f : FetchFrame) (s : State) :
    Undrawn s (ownFetch k reply f s) := by
  unfold Machine.ownFetch
  dsimp only
  repeat' split
  all_goals exact ⟨by simp, by simp⟩

theorem Undrawn.ownFetchKind (kind : Byte) (m : Mark) (s : State) : Undrawn s (ownFetchKind kind m s) := by
  unfold Machine.ownFetchKind
  dsimp only
  repeat' split
  all_goals exact ⟨by simp, by simp⟩

theorem Undrawn.offerForward (r : RoomIx) (a : BitVec 7) (f : ForwardFrame) (bytes : List Byte) (fetch : Bool)
    (m : Mark) (s : State) : Undrawn s (offerForward r a f bytes fetch m s) := by
  unfold Machine.offerForward
  dsimp only
  split <;> exact ⟨by simp, by simp⟩

theorem Undrawn.forwardSend (r : RoomIx) (header kind : Byte) (rest : List Byte) (m : Mark) (s : State) :
    Undrawn s (forwardSend r header kind rest m s) := by
  unfold Machine.forwardSend
  dsimp only
  repeat' split
  all_goals first | exact .offerForward .. | exact ⟨by simp, by simp⟩

theorem Undrawn.proxyTransaction (r : RoomIx) (header : Byte) (bytes : List Byte) (k : Option Nat) (m : Mark)
    (s : State) : Undrawn s (proxyTransaction r header bytes k m s) := by
  unfold Machine.proxyTransaction serveReport
  dsimp only
  repeat' split
  all_goals first | exact .offerForward .. | exact .forwardSend .. | exact ⟨by simp, by simp⟩

theorem Completes.houseTransaction (header : Byte) (bytes : List Byte) (k : Option Nat) (m : Mark) (s : State) :
    Completes s (houseTransaction header bytes k m s) := by
  unfold Machine.houseTransaction
  split
  · exact .refl s
  · split
    · unfold ownTransaction
      split
      · exact Undrawn.completes ⟨by simp, by simp⟩
      · split
        · split
          · exact (Undrawn.ownFetch _ _ _ s).completes
          · exact (Undrawn.ownFetchKind _ _ s).completes
        · split
          · exact .ownSend _ _ s
          · exact (Undrawn.ownSendKind _ _ s).completes
    · split
      · exact (Undrawn.proxyTransaction _ _ _ _ _ s).completes
      · exact Undrawn.completes ⟨by simp, by simp⟩

/-! ## Room transactions -/

theorem Completes.deliverPoll (r : RoomIx) (x : Transaction) (e : RoomEnding) (s : State) :
    Completes s (deliverPoll r x e s) := by
  unfold Machine.deliverPoll
  split
  · split
    · exact .changeRooms _ s
    · exact .changeRooms _ s
  · exact .refl s

theorem Completes.endTransaction (e : RoomEnding) (k : Option Nat) (s : State) :
    Completes s (endTransaction e k s) := by
  unfold Machine.endTransaction
  split
  · exact .refl s
  · exact .refl s
  · next r x _ =>
    dsimp only
    split
    · exact Undrawn.completes ⟨by simp, by simp⟩
    · refine Completes.before (t := leaveSegment x pollLengths e s) ⟨⟨rfl, rfl⟩, id, fun _ => rfl⟩ ?_
      exact (Completes.deliverPoll r x e _).after ⟨by simp, by simp⟩ (by simp)
  · dsimp only
    split <;> exact Undrawn.completes ⟨by simp, by simp⟩

/-! ## Every command -/

theorem Completes.takeMark {s t : State} (m : Mark) (h : Completes s t) : Completes s (takeMark m t) :=
  h.after ⟨by simp, by simp⟩ (by simp)

/-- A timer event that draws nothing. -/
theorem Completes.timed_undrawn {a : Nat} {due : State → Bool} {f : State → State}
    (h : ∀ s, Undrawn s (f s)) (s : State) : Completes s (Machine.timed a due f s) :=
  .timed (fun t _ => (h t).completes) s

theorem commandEffect_completes (c : Instr) (s : State) : Completes s (commandEffect c s) := by
  cases c with
  | writeLoop f => exact .ownSend .writeLoop f s
  | writeRoom f => exact .ownSend .writeRoom f s
  | writeProbe f => exact .ownSend .writeProbe f s
  | writeManifoldGroup0 f => exact .ownSend .writeManifold f s
  | writeManifoldGroup1 f => exact .ownSend .writeManifold f s
  | writeManifoldGroup2 f => exact .ownSend .writeManifold f s
  | writeManifoldGroup3 f => exact .ownSend .writeManifold f s
  | setModeRun f => exact .ownSend .setMode f s
  | setModeStop f => exact .ownSend .setMode f s
  | setModeFlush f => exact .ownSend .setMode f s
  | clearChannel f => exact .ownSend .clear f s
  | clearProbe f => exact .ownSend .clear f s
  | clearAll f => exact .ownSend .clear f s
  | testChannel f => exact .ownSend .testChannel f s
  | save f => exact .ownSend .save f s
  | restartRuntime f => exact .ownSend .restart f s
  | restartReload f => exact .ownSend .restart f s
  | restartFactory f => exact .ownSend .restart f s
  | seed f => exact .ownSend .seed f s
  | unknownKind kind m => exact (Undrawn.ownSendKind kind m s).completes
  | manifoldStatus f => exact (Undrawn.ownFetch _ _ f s).completes
  | loopStatus f => exact (Undrawn.ownFetch _ _ f s).completes
  | roomStatus f => exact (Undrawn.ownFetch _ _ f s).completes
  | probeStatus f => exact (Undrawn.ownFetch _ _ f s).completes
  | periodSummary f => exact (Undrawn.ownFetch _ _ f s).completes
  | readLoop f => exact (Undrawn.ownFetch _ _ f s).completes
  | readRoom f => exact (Undrawn.ownFetch _ _ f s).completes
  | readProbe f => exact (Undrawn.ownFetch _ _ f s).completes
  | readManifold f => exact (Undrawn.ownFetch _ _ f s).completes
  | lastResult f => exact (Undrawn.ownFetch _ _ f s).completes
  | unknownFetchKind kind m => exact (Undrawn.ownFetchKind kind m s).completes
  | report a f => exact .houseTransaction _ _ _ _ s
  | forwardOffer header bytes k m =>
    cases header with
    | none => exact (Completes.refl s).takeMark m
    | some x => exact .houseTransaction x _ _ _ s
  | forwardTimeoutExpiry run =>
    have passed := ReadsDrops.elapseMs run.after s
    refine Completes.takeMark _ ?_
    split
    · exact (passed.toUndrawn.trans ⟨by simp, by simp⟩).completes
    · exact passed.toUndrawn.completes
  | pollTimerExpiry a =>
    exact .timed_undrawn (due := fun t => t.seg.pollTimer = 0) (fun _ => ⟨by simp, by simp⟩) s
  | roomTransactionEnd e turn => exact (Completes.endTransaction e turn.nackAt s).takeMark _
  | roomHoldTimeout held => exact Undrawn.completes (t := holdOff held s) ⟨by simp, by simp⟩
  | toolRequestRaised => exact Undrawn.completes (t := raiseRequest s) ⟨by simp, by simp⟩
  | toolRequestDropped => exact Undrawn.completes (t := dropRequest s) ⟨by simp, by simp⟩
  | ageExpiry r a => exact .timed (fun t _ => .changeRooms _ t) s
  | probeCycleComplete q line => exact Undrawn.completes (t := sampleLine q line s) ⟨by simp, by simp⟩
  | stuckError q line => exact Undrawn.completes (t := sampleLine q line s) ⟨by simp, by simp⟩
  | acceptedEdge q line => exact Undrawn.completes (t := sampleLine q line s) ⟨by simp, by simp⟩
  | measurementTick a => exact .timed_undrawn (fun _ => ⟨by simp, by simp⟩) s
  | flushTimerExpiry a => exact .timed_undrawn (f := markFlushDue) (fun _ => ⟨rfl, rfl⟩) s
  | regularBoundary a => exact .timed (fun _ due => .regularBoundary due) s
  | join a =>
    refine .timed_undrawn (fun t => ?_) s
    unfold joinFirst
    split <;> exact ⟨by simp, by simp⟩
  | spacingExpiry a => exact .timed_undrawn (fun _ => ⟨by simp, by simp⟩) s
  | closeTimeReached i a => exact .timed_undrawn (f := releaseOne i) (fun _ => ⟨by simp [releaseOne], by simp [releaseOne]⟩) s
  | loadCheck i load a =>
    refine .timed_undrawn (fun t => ?_) s
    unfold checkLoad
    dsimp only
    split <;> exact ⟨by simp, by simp⟩
  | overcurrent i =>
    refine Undrawn.completes (t := tripChannel i s) ?_
    unfold tripChannel
    split <;> exact ⟨by simp, by simp⟩
  | openingEnds i a => exact .timed_undrawn (f := finishOpening i) (fun _ => ⟨rfl, rfl⟩) s
  | closingEnds i a => exact .timed_undrawn (f := finishClosing i) (fun _ => ⟨rfl, rfl⟩) s
  | testEnd a =>
    refine .timed_undrawn (fun t => ?_) s
    unfold finishTest releaseOne
    split <;> exact ⟨by simp, by simp⟩
  | pumpHoldExpiry a => exact .timed_undrawn (f := finishHold) (fun _ => ⟨rfl, rfl⟩) s
  | saveCompletes a => exact .timed_undrawn (fun _ => ⟨by simp, by simp⟩) s
  | powerOn straps => exact (Undrawn.powerUp straps s).completes
  | resetInput straps => exact (Undrawn.powerUp straps s).completes
  | powerLoss => exact Undrawn.completes (t := losePower s) ⟨rfl, rfl⟩

theorem ReadsDrops.pinFollows (c : Instr) (s : State) : ReadsDrops s (pinFollows c s) := by
  unfold Machine.pinFollows
  split <;> exact ⟨⟨rfl, rfl⟩, id, fun _ => rfl⟩

/-- Settles O3, command by command. -/
theorem everyCommandCompletes : Obligations.EveryCommandCompletes := by
  intro c s
  have ends : ∃ t, exec c s = .next t := by
    by_cases on : ∃ straps, c = .powerOn straps
    · obtain ⟨straps, rfl⟩ := on
      exact ⟨_, exec_powerOn straps s⟩
    · rw [exec_eq_whenPowered (fun straps e => on ⟨straps, e⟩)]
      cases powered : (pinFollows c s).powered with
      | true => exact ⟨_, whenPowered_of_powered powered⟩
      | false => exact ⟨_, whenPowered_of_unpowered powered⟩
  obtain ⟨t, ended⟩ := ends
  have done : Completes s t := by
    obtain rfl | ⟨-, rfl⟩ := exec_next ended
    · exact ((commandEffect_completes c _).before (.pinFollows c s)).after ⟨by simp, by simp⟩ (by simp)
    · exact (ReadsDrops.pinFollows c s).toUndrawn.completes
  exact ⟨t, ended, done.pending, done.draws⟩

end Sys2Proof.Machine

/-! Resets: the restart scopes, power-on, the reset input and power loss (R21, R169, R172, R174). -/

namespace Sys2Proof.Machine

/-! ## What a period that begins leaves of a channel -/

/-- A grant leaves every channel's energised seconds. -/
theorem grantHead_energisedSeconds (s : State) (i : LoopIx) :
    ((grantHead s).channels.get i).energisedSeconds = (s.channels.get i).energisedSeconds := by
  have set (j : LoopIx) (stop : Option Nat) :
      ((s.channels.set j ((s.channels.get j).afterGrant s.period.eff.tOpen stop)).get i).energisedSeconds
        = (s.channels.get i).energisedSeconds := by
    rw [Bank.get_set]
    split
    · rename_i same
      rw [same]
      rfl
    · rfl
  rw [grantHead_eq_afterHeadGrant]
  unfold State.afterHeadGrant
  split
  · rfl
  · exact set _ _
  · split <;> exact set _ _

theorem opportunity_energisedSeconds (s : State) (i : LoopIx) :
    ((opportunity s).channels.get i).energisedSeconds = (s.channels.get i).energisedSeconds :=
  opportunity_keeps (P := fun t => (t.channels.get i).energisedSeconds = (s.channels.get i).energisedSeconds)
    (fun t h => (grantHead_energisedSeconds t i).trans h) rfl

/-- A new period counts energised seconds anew and leaves every condition (R76). -/
theorem planPeriod_channel (v : Variant) (s : State) (i : LoopIx) :
    ((planPeriod v s).channels.get i).energisedSeconds = 0
      ∧ ((planPeriod v s).channels.get i).condition = (s.channels.get i).condition := by
  rw [planPeriod_eq, opportunity_energisedSeconds, opportunity_condition, firstGrants_channels]
  refine ⟨rfl, ?_⟩
  split
  · rfl
  · exact Channel.release_condition _ _

theorem forcedClose_condition (m : Mode) (s : State) (i : LoopIx) :
    ((forcedClose m s).channels.get i).condition = (s.channels.get i).condition := by
  rw [forcedClose_channels, closeOut_channels]
  split
  · rw [← Channel.release_eq_afterRelease, Channel.release_condition]
  · rfl

theorem forcedClose_supply (m : Mode) (s : State) : (forcedClose m s).supply = s.supply := by
  unfold forcedClose setMode
  split <;> simp [closeOut_supply, recordSummary]

/-- With no FRESH room none is starved, and a bias of 0 stays (R131). -/
theorem updateBias_of_no_report {s : State} (fresh : ∀ r, (s.rooms.get r).freshness ≠ .fresh)
    (zero : s.supply.bias = 0) : (updateBias s).supply = s.supply := by
  have none : allRooms.any (starved s) = false := by
    rw [List.any_eq_false]
    intro r _
    simp [starved, fresh r]
  unfold updateBias
  simp only [none, Bool.false_eq_true, if_false, zero, Nat.zero_sub, ite_self]
  rw [State.setSupply_supply, ← zero]

theorem forcedBoundary_supply_of_no_report {s : State} (m : Mode) (fresh : ∀ r, (s.rooms.get r).freshness ≠ .fresh)
    (zero : s.supply.bias = 0) : (forcedBoundary m s).supply = s.supply := by
  have ran (held : Bank Held 16) : (runPass (forcedVariant m) held (forcedClose m s)).supply = s.supply
      ∧ (runPass (forcedVariant m) held (forcedClose m s)).rooms = s.rooms := by
    refine ⟨?_, by simp⟩
    unfold forcedVariant
    split <;> exact forcedClose_supply m s
  rw [forcedBoundary_eq, planPeriod_supply, stagePass]
  obtain ⟨supply, rooms⟩ := ran (Bank.ofFn fun i => hold (forcedVariant m) (forcedClose m s) i)
  split
  · rw [updateBias_of_no_report (by rw [rooms]; exact fresh) (by rw [supply]; exact zero), supply]
  · exact supply

/-! ## The blocks after a reset -/

/-- Every block has its values after reset with the tables `T` installed; RUNNING is not entered yet (R21, R39,
R62, R63, R84, R126). -/
structure AtReset (T : Tables) (b : State) : Prop where
  holds : Holds T b
  powered : b.powered = true
  test : b.test = .idle
  probes : b.probes = T.probes.imap fun _ c => Probe.initial c
  rooms : b.rooms = T.rooms.imap fun _ c => Room.initial c
  loop : ∀ i, (b.loops.get i).cls = .off ∧ (b.loops.get i).onTime = 0
    ∧ (b.loops.get i).sigma = 0 ∧ (b.loops.get i).n = 0
  channels : b.channels = Bank.fill 16 (Channel.afterReset T.params.timing.tClose)
  period : b.period =
    { mode := .stopped, eff := T.params.timing, time := 0, flushTimer := none, flushDue := false
      flushRanOut := none, records := none, summary := none, lastTick := 0, drops := [] }
  arb : b.arb = { plan := [], queue := [], sinceGrant := none }
  pump : b.supply.pump = .on
  holdTimer : b.supply.holdTimer = none
  bias : b.supply.bias = 0
  latch : b.supply.latch = false
  exitFlag : b.supply.exitFlag = false
  slot : b.seg.slot = .empty
  pending : b.seg.pendingCycle = false
  timer : b.seg.pollTimer = T.params.g2.pollInterval
  snapshot : b.store.snapshot = none
  autosave : b.store.autosave = 0

/-- With no forward in the slot an idle controller gives the segment to the tool that asks for it, and polls
otherwise if the cycle has a room left; the slot stays EMPTY (R55). -/
theorem arbitrate_empty {s : State} (empty : s.seg.slot = .empty) :
    (arbitrate s).seg.slot = .empty
      ∧ (s.seg.activity = .idle → ((arbitrate s).seg.activity = .granted ↔ s.toolRequest = true)) := by
  have slot : (endCycle s).seg.slot = .empty := by rw [endCycle_seg]; exact empty
  have activity : (endCycle s).seg.activity = s.seg.activity := by rw [endCycle_seg]
  unfold arbitrate
  split
  · next idle =>
    split
    · next asks => exact ⟨empty, fun _ => iff_of_true rfl asks⟩
    · next silent =>
      simp only [empty]
      split
      · exact ⟨slot, fun _ => iff_of_false (by rw [activity, idle]; nofun) silent⟩
      · split
        · exact ⟨slot, fun _ => iff_of_false nofun silent⟩
        · exact ⟨slot, fun _ => iff_of_false (by rw [activity, idle]; nofun) silent⟩
  all_goals
    next busy => exact ⟨empty, fun idle => by rw [busy] at idle; cases idle⟩

/-- The room segment after a reset (R63): its first cycle is due, and the controller chooses. -/
theorem resetSegment_seg (a : Activity) (b : RoomBytes) (u : State) :
    (resetSegment a b u).seg.slot = .empty ∧ (resetSegment a b u).seg.pendingCycle = false
      ∧ (resetSegment a b u).seg.pollTimer = u.params.g2.pollInterval
      ∧ (a = .granted → (resetSegment a b u).seg.activity = .granted)
      ∧ (a = .idle → ((resetSegment a b u).seg.activity = .granted ↔ u.toolRequest = true)) := by
  obtain ⟨w, started⟩ : ∃ w : State, w = u.setSeg
      { activity := a, cursor := none, pollTimer := u.params.g2.pollInterval, pendingCycle := false
        slot := .empty, carried := b } := ⟨_, rfl⟩
  have seg : w.seg = { activity := a, cursor := none, pollTimer := u.params.g2.pollInterval, pendingCycle := false
                       slot := .empty, carried := b } := by rw [started]; rfl
  have looked : (if w.seg.activity.polls then w else endCycle w) = w := by
    have settled : Settled w := fun c cursor => by
      rw [seg] at cursor
      cases cursor
    rw [endCycle_of_settled settled, ite_self]
  have due : resetSegment a b u =
      arbitrate { w with seg := { w.seg with cursor := startCursor w } } := by
    rw [← cycleDue_starts looked (by rw [seg])]
    unfold resetSegment
    rw [started]
  obtain ⟨-, pending, timer⟩ := arbitrate_cycle (settled_start w)
  rw [due]
  refine ⟨(arbitrate_empty (by rw [seg])).1, pending.trans (by rw [seg]), timer.trans (by rw [seg]),
    fun granted => ?_, fun idle => ?_⟩
  · rw [arbitrate_of_busy (by rw [seg, granted]; nofun), seg]
    exact granted
  · rw [(arbitrate_empty (by rw [seg])).2 (by rw [seg]; exact idle), started]
    rfl

/-- The blocks after a reset, whatever else the reset does to the House Port (R174). -/
theorem AtReset.of_resetBlocks {T : Tables} {s : State} (holds : Holds T s) (a : Activity) (b : RoomBytes)
    (h : House) (ms : Nat) :
    AtReset T (resetSegment a b { resetBlocks s with house := h, msPhase := ms, powered := true }) := by
  obtain ⟨u, blocks⟩ : ∃ u, u = { resetBlocks s with house := h, msPhase := ms, powered := true } := ⟨_, rfl⟩
  obtain ⟨slot, pending, timer, -, -⟩ := resetSegment_seg a b u
  obtain ⟨loop, room, probe, params⟩ := holds.resetBlocks
  have timing : s.params = T.params := holds.params
  have probe' (q : ProbeIx) := holds.probe q
  have room' (r : RoomIx) := holds.room r
  rw [← blocks]
  have moved : u.params = T.params := by
    rw [blocks]
    exact params
  exact {
    holds := by
      constructor
      · simpa [blocks] using loop
      · simpa [blocks] using room
      · simpa [blocks] using probe
      · simpa using moved
    powered := by simp [blocks]
    test := by simp [blocks, resetBlocks]
    probes := Bank.ext_get fun q => by simp [blocks, resetBlocks, probe']
    rooms := Bank.ext_get fun r => by simp [blocks, resetBlocks, room']
    loop := fun i => by simp [blocks, resetBlocks, Loop.restarted]
    channels := by simp [blocks, resetBlocks, timing]
    period := by simp [blocks, resetBlocks, timing]
    arb := by simp [blocks, resetBlocks]
    pump := by simp [blocks, resetBlocks]
    holdTimer := by simp [blocks, resetBlocks]
    bias := by simp [blocks, resetBlocks]
    latch := by simp [blocks, resetBlocks]
    exitFlag := by simp [blocks, resetBlocks]
    slot := slot
    pending := pending
    timer := timer.trans (by rw [moved])
    snapshot := by simp [blocks, resetBlocks]
    autosave := by simp [blocks, resetBlocks] }

/-! ## Autorun -/

section

variable {T : Tables} {b : State} (at_reset : AtReset T b)
include at_reset

theorem AtReset.runs_iff : (b.params.g3.autorun && anyEnabled b) = true ↔
    T.params.g3.autorun = true ∧ ∃ i, (T.loops.get i).1.enabled = true := by
  rw [Bool.and_eq_true, anyEnabled_iff, at_reset.holds.params]
  refine and_congr_right fun _ => exists_congr fun i => ?_
  rw [← at_reset.holds.loop i]

theorem AtReset.channel (i : LoopIx) : b.channels.get i = Channel.afterReset T.params.timing.tClose := by
  rw [at_reset.channels, Bank.get_fill]

/-- The period that autorun begins, from blocks with nothing energised and nothing planned (R75, R109). -/
theorem AtReset.begins {u : State} (same : SameStarts (forcedBoundary .running b) u)
    (cfg : ∀ i, (u.loops.get i).cfg = (b.loops.get i).cfg) :
    PeriodBegins { u with
      channels := Bank.fill 16
        { energised := false, closeTime := none, condition := .ready, loadCheck := none
          energisedSeconds := 0, valve := .closing T.params.timing.tClose }
      arb := { plan := [], queue := [], sinceGrant := none } } u := by
  refine periodBegins_of_planned (s := forcedClose .running b) ?_ same
  have released (i : LoopIx) : (b.channels.get i).energised = false := by
    rw [at_reset.channel i]
    rfl
  constructor
  · intro i
    have stays : (forcedClose .running b).channels.get i = b.channels.get i := by
      rw [forcedClose_channels, closeOut_channels]
      split
      · exact Channel.afterRelease_of_released (released i) _
      · rfl
    rw [stays, at_reset.channel i, Bank.get_fill]
    split <;> rfl
  · intro i
    rw [forcedClose_loops, ← cfg]
  · rw [forcedClose_arb, closeOut_queue]
  · rw [forcedClose_arb, closeOut_sinceGrant, at_reset.arb]

end

/-- What autorun leaves of the blocks after a reset (R84). -/
structure AfterAutorun (T : Tables) (x : State) : Prop where
  test : x.test = .idle
  loop : ∀ i, (x.loops.get i).cfg = (T.loops.get i).1 ∧ (x.loops.get i).k = (T.loops.get i).2
    ∧ (x.loops.get i).sigma = 0 ∧ (x.loops.get i).n = 0
    ∧ (x.channels.get i).condition = .ready ∧ (x.channels.get i).energisedSeconds = 0
  eff : x.period.eff = T.params.timing
  time : x.period.time = 0
  flushTimer : x.period.flushTimer = none
  summary : x.period.summary = none
  pump : x.supply.pump = .on
  holdTimer : x.supply.holdTimer = none
  bias : x.supply.bias = 0
  latch : x.supply.latch = false
  exitFlag : x.supply.exitFlag = false

section

variable {T : Tables} {b : State} (at_reset : AtReset T b)
include at_reset

theorem AtReset.fresh (r : RoomIx) : (b.rooms.get r).freshness ≠ .fresh := by
  rw [at_reset.rooms, Bank.get_imap]
  nofun

/-- Autorun that does not come about leaves the blocks (R84). -/
theorem AtReset.kept : AfterAutorun T b where
  test := at_reset.test
  loop i := by
    have held := at_reset.holds.loop i
    obtain ⟨-, -, sigma, n⟩ := at_reset.loop i
    rw [← held, at_reset.channel i]
    exact ⟨rfl, rfl, sigma, n, rfl, rfl⟩
  eff := by rw [at_reset.period]
  time := by rw [at_reset.period]
  flushTimer := by rw [at_reset.period]
  summary := by rw [at_reset.period]
  pump := at_reset.pump
  holdTimer := at_reset.holdTimer
  bias := at_reset.bias
  latch := at_reset.latch
  exitFlag := at_reset.exitFlag

/-- Autorun enters RUNNING by a forced boundary from STOPPED (R77, R84). -/
theorem AtReset.run : AfterAutorun T (forcedBoundary .running b) := by
  have supply := forcedBoundary_supply_of_no_report .running at_reset.fresh at_reset.bias
  exact {
    test := forcedBoundary_test_idle at_reset.test
    loop := fun i => by
      have held := at_reset.holds.loop i
      obtain ⟨seconds, condition⟩ := planPeriod_channel (forcedVariant .running) (forcedClose .running b) i
      rw [← forcedBoundary_eq] at seconds condition
      rw [← held, condition, forcedClose_condition, at_reset.channel i, forcedBoundary_loops]
      exact ⟨rfl, rfl, rfl, rfl, rfl, seconds⟩
    eff := by rw [forcedBoundary_eff, at_reset.holds.params]
    time := forcedBoundary_time _ _
    flushTimer := by rw [forcedBoundary_flushTimer, at_reset.period]
    summary := by
      rw [forcedBoundary_summary_stopped (by rw [at_reset.period]), at_reset.period]
    pump := by rw [supply, at_reset.pump]
    holdTimer := by rw [supply, at_reset.holdTimer]
    bias := by rw [supply, at_reset.bias]
    latch := by rw [supply, at_reset.latch]
    exitFlag := by rw [supply, at_reset.exitFlag] }

/-- After a reset, and the autorun that may follow (R84, R174). -/
theorem AtReset.afterReset (h : House) : AfterReset T (concluded h (autorun b)) := by
  have held := at_reset.holds.autorun
  have settled : AfterAutorun T (autorun b) := by
    unfold autorun
    split
    · exact at_reset.run
    · exact at_reset.kept
  have runs := at_reset.runs_iff
  have ran (yes : T.params.g3.autorun = true ∧ ∃ i, (T.loops.get i).1.enabled = true) :
      autorun b = forcedBoundary .running b := if_pos (runs.mpr yes)
  have stays (no : ¬ (T.params.g3.autorun = true ∧ ∃ i, (T.loops.get i).1.enabled = true)) :
      autorun b = b := if_neg (mt runs.mp no)
  refine ⟨?powered, ?params, ?test, ?probes, ?rooms, ?loops, ?eff, ?time, ?flushTimer, ?summary, ?pump, ?holdTimer,
    ?bias, ?latch, ?exitFlag, ?slot, ?pending, ?timer, ?snapshot, ?autosave, fun yes => ⟨?mode, fun i => ?classed⟩,
    fun yes => ?begins, fun no => ?stopped⟩
  case powered => simp [at_reset.powered]
  case params => simp [at_reset.holds.params]
  case test => simp [settled.test]
  case probes => simp [at_reset.probes]
  case rooms => simp [at_reset.rooms]
  case loops => simpa using settled.loop
  case eff => simp [settled.eff]
  case time => simp [settled.time]
  case flushTimer => simp [settled.flushTimer]
  case summary => simp [settled.summary]
  case pump => simp [concluded, driveLines, settled.pump]
  case holdTimer => simp [concluded, driveLines, settled.holdTimer]
  case bias => simp [concluded, driveLines, settled.bias]
  case latch => simp [concluded, driveLines, settled.latch]
  case exitFlag => simp [concluded, driveLines, settled.exitFlag]
  case slot => simp [at_reset.slot]
  case pending => simp [at_reset.pending]
  case timer => simp [at_reset.timer]
  case snapshot => simp [at_reset.snapshot]
  case autosave => simp [at_reset.autosave]
  case mode => simp [ran yes]
  case classed =>
    have cls := forcedBoundary_running_class b i
    have loops : (b.loops.get i).cfg = (T.loops.get i).1 := by rw [← at_reset.holds.loop i]
    have ready : (b.channels.get i).condition = .ready := by rw [at_reset.channel i]; rfl
    have k : ((forcedBoundary .running b).loops.get i).k = (b.loops.get i).k := by rw [forcedBoundary_loops]; rfl
    have demand : loopDemand (concluded h (forcedBoundary .running b)) i = loopDemand b i :=
      loopDemand_congr (by rw [concluded_loops, forcedBoundary_loops]; rfl) (by simp)
    rw [ran yes, demand, concluded_loops, k]
    simpa [loops, ready, at_reset.holds.params] using cls
  case begins =>
    rw [ran yes]
    refine at_reset.begins (SameStarts.concluded h (by constructor <;> rfl)) fun i => ?_
    rw [concluded_loops, forcedBoundary_loops]
    rfl
  case stopped =>
    rw [stays no]
    refine ⟨by simp [at_reset.period], by simp [at_reset.period], by simp [at_reset.arb], fun i => ?_⟩
    obtain ⟨cls, onTime, -, -⟩ := at_reset.loop i
    rw [concluded_loops, concluded_channels, at_reset.channel i]
    exact ⟨cls, onTime, rfl⟩

end

/-! ## Power-on and the reset input -/

/-- What power-on and the reset input make of the part (R153, R155, R169, R174). -/
theorem driveLines_powerUp (straps : BitVec 2) (s : State) :
    ∃ t, driveLines (powerUp straps s) = t ∧ AfterReset (loadedTables s) t
      ∧ t.store.image = s.store.image ∧ t.store.defaulted = s.store.image.load.isNone
      ∧ t.store.snapshot = none
      ∧ t.house =
        { own := BitVec.ofNat 7 (Config.ownBase + straps.toNat), state := .idle, received := [], sent := []
          acks := [], timeout := none, errors := 0, lastResult := .ok, lastKind := none }
      ∧ t.seg.carried = { sent := [], received := [], acks := [] }
      ∧ (t.seg.activity = .granted ↔ s.toolRequest = true) := by
  obtain ⟨h, house⟩ : ∃ h : House, h =
      { own := BitVec.ofNat 7 (Config.ownBase + straps.toNat), state := .idle, received := [], sent := []
        acks := [], timeout := none, errors := 0, lastResult := .ok, lastKind := none } := ⟨_, rfl⟩
  obtain ⟨u, blocks⟩ : ∃ u, u =
      { resetBlocks (loadImage (cutSave s)) with house := h, msPhase := 0, powered := true } := ⟨_, rfl⟩
  obtain ⟨b, segment⟩ : ∃ b, b = resetSegment .idle { sent := [], received := [], acks := [] } u := ⟨_, rfl⟩
  have at_reset : AtReset (loadedTables s) b := by
    rw [segment, blocks]
    exact .of_resetBlocks (loadImage_holds (cutSave s)) _ _ _ _
  have up : driveLines (powerUp straps s) = concluded h (autorun b) := by
    have own : (autorun b).house = h := by simp [segment, blocks]
    have started : powerUp straps s = autorun b := by
      rw [segment, blocks, house]
      rfl
    rw [started, ← own]
    rfl
  have store : b.store = { s.store with
      defaulted := s.store.image.load.isNone, snapshot := none, saveLeft := 0, autosave := 0 } := by
    rw [segment, resetSegment_store, blocks]
    simp [resetBlocks, loadImage_eq, cutSave]
  refine ⟨_, up, at_reset.afterReset h, ?_, ?_, ?_, house ▸ ?_, ?_, ?_⟩
  · simp [store]
  · simp [store]
  · simp [store]
  · simp [concluded, driveLines]
  · simp [segment]
  · rw [concluded_seg, autorun_seg, segment, (resetSegment_seg _ _ u).2.2.2.2 rfl, blocks]
    simp [cutSave]

/-- Settles O30, by the blocks after a reset and the autorun that may follow. -/
theorem powerOnLoadsAndResets : Obligations.PowerOnLoadsAndResets := by
  intro straps s T started
  obtain ⟨t, up, after, image, defaulted, -, house, carried, tool⟩ := driveLines_powerUp straps s
  have done : started t := by
    refine ⟨after, image, defaulted, ?_, ?_, ?_, ?_, ?_, ?_, carried, tool⟩
    case refine_1 =>
      have bound := straps.isLt
      rw [house]
      simp only [BitVec.toNat_ofNat, Config.ownBase]
      omega
    all_goals rw [house]
  refine ⟨⟨t, ?_, done⟩, fun powered => ⟨t, ?_, done⟩⟩
  · rw [← up]
    rfl
  · rw [← up]
    exact exec_of_powered (c := .resetInput straps) powered nofun

/-! ## Power loss -/

/-- Settles O31: a save cut short leaves an image that no load takes, so the factory values come in. -/
theorem powerLossCutsSave : Obligations.PowerLossCutsSave := by
  intro s powered
  have factory (fails : SavingImageFails s) (cut : s.store.snapshot ≠ none) : s.store.image.load = none :=
    fails (Option.isSome_iff_ne_none.mpr cut)
  have started {u : State} (image : u.store.image.load = none) (straps : BitVec 2) :
      ∃ t, driveLines (powerUp straps u) = t ∧ t.store.defaulted = true ∧ t.store.snapshot = none
        ∧ AfterReset Tables.factory t := by
    obtain ⟨t, up, after, -, defaulted, snapshot, -⟩ := driveLines_powerUp straps u
    refine ⟨t, up, by simp [defaulted, image], snapshot, ?_⟩
    rw [loadedTables, image] at after
    exact after
  refine ⟨driveLines (losePower s), exec_of_powered (c := .powerLoss) powered nofun, rfl, rfl, rfl, fun i => ?_,
    rfl, rfl, fun fails cut straps => ⟨?_, ?_⟩⟩
  · rw [driveLines_channels, losePower, Bank.get_fill]
    rfl
  · obtain ⟨t, up, defaulted, -, after⟩ := started (u := driveLines (losePower s)) (factory fails cut) straps
    exact ⟨t, by rw [← up]; rfl, defaulted, after⟩
  · obtain ⟨t, up, defaulted, snapshot, after⟩ := started (factory fails cut) straps
    exact ⟨t, by rw [← up]; exact exec_of_powered (c := .resetInput straps) powered nofun, defaulted, snapshot,
      after⟩

/-! ## RESTART -/

/-- What a restart of each scope makes of the part (R174). -/
theorem restart_afterReset (scope : Scope) {s : State} (powered : s.powered = true) (h : House) :
    AfterReset (scopeTables s scope) (concluded h (restart scope s)) := by
  obtain ⟨u, tables⟩ : ∃ u, u = restartTables scope s := ⟨_, rfl⟩
  have kept : u.powered = true ∧ u.house = s.house ∧ u.msPhase = s.msPhase := by
    rw [tables]
    cases scope <;> simp [restartTables, powered]
  have holds : Holds (scopeTables s scope) u := by
    rw [tables]
    exact restartTables_holds scope s
  have at_reset := AtReset.of_resetBlocks holds s.seg.activity.endedByRestart s.seg.carried
    { u.house with timeout := none } u.msPhase
  have same : restart scope s = autorun (resetSegment s.seg.activity.endedByRestart s.seg.carried
      { resetBlocks u with house := { u.house with timeout := none }, msPhase := u.msPhase, powered := true }) := by
    have state : (resetBlocks u).setHouse { (resetBlocks u).house with timeout := none } =
        { resetBlocks u with house := { u.house with timeout := none }, msPhase := u.msPhase, powered := true } := by
      rw [← kept.1]
      rfl
    rw [← state, tables]
    rfl
  rw [same]
  exact at_reset.afterReset h

/-- The store-defaulted flag that a restart leaves: only RELOAD loads the image (R169, R174). -/
def scopeDefaulted (s : State) : Scope → Bool
  | .reload => s.store.image.load.isNone
  | .runtime | .factory => s.store.defaulted

/-- What a restart leaves apart from the blocks (R63, R153, R174). -/
theorem restart_kept (scope : Scope) (s : State) :
    (restart scope s).house = { s.house with timeout := none }
      ∧ (restart scope s).toolRequest = s.toolRequest ∧ (restart scope s).seg.carried = s.seg.carried
      ∧ (s.seg.activity = .granted → (restart scope s).seg.activity = .granted)
      ∧ (restart scope s).store.image = s.store.image
      ∧ (restart scope s).store.defaulted = scopeDefaulted s scope := by
  have activity (u : State) (granted : s.seg.activity = .granted) :
      (autorun (resetSegment s.seg.activity.endedByRestart s.seg.carried u)).seg.activity = .granted := by
    rw [autorun_seg]
    exact (resetSegment_seg _ _ u).2.2.2.1 (by rw [granted]; rfl)
  cases scope <;>
    exact ⟨by simp [restart, restartTables], by simp [restart, restartTables], by simp [restart], activity _,
      by simp [restart, restartTables, resetBlocks, loadImage_eq],
      by simp [restart, restartTables, resetBlocks, loadImage_eq, scopeDefaulted]⟩

theorem Scope.ofCode_of_lt : ∀ {n : Nat}, 2 < n → Scope.ofCode n = none
  | _ + 3, _ => rfl

/-- Settles O29, by the blocks after a reset with the tables of each scope. -/
theorem restartScopes : Obligations.RestartScopes := by
  intro m s listens f
  have rows {row : SendFrame → Instr}
      (meaning : ∀ f s, exec (row f) s = whenPowered (ownSend .restart ownRestart f) s)
      {x : Byte} {r : Result} {t : State} (decided : ownRestart [x] s = (r, t)) (own : t.house.own = s.house.own) :
      exec (row (f x)) s = .next (driveLines { t with house := t.house.afterSend .restart [x] r m }) :=
    exec_ownSend_good meaning m listens (by simp [SendKind.lengths]) rfl decided own
  refine ⟨fun snapshot => ?busy, fun x above => ?range, fun idle => ?restarted⟩
  case busy =>
    intro busy
    have holds : saving s = true := Option.isSome_iff_ne_none.mpr snapshot
    have decided (x : Byte) (scope : Scope) (code : Scope.ofCode x.toNat = some scope) :
        ownRestart [x] s = (.refusedBusy, s) := by
      simp [ownRestart, byteAt, code, holds]
    exact ⟨rows (row := .restartRuntime) (fun _ _ => rfl) (decided 0 .runtime rfl) rfl,
      rows (row := .restartReload) (fun _ _ => rfl) (decided 1 .reload rfl) rfl,
      rows (row := .restartFactory) (fun _ _ => rfl) (decided 2 .factory rfl) rfl⟩
  case range =>
    have decided : ownRestart [x] s = (.refusedRange, s) := by
      simp [ownRestart, byteAt, Scope.ofCode_of_lt above]
    exact rows (fun _ _ => rfl) decided rfl
  case restarted =>
    intro restarted
    have holds : saving s = false := by simp [saving, idle]
    have done {row : SendFrame → Instr}
        (meaning : ∀ f s, exec (row f) s = whenPowered (ownSend .restart ownRestart f) s)
        {x : Byte} {scope : Scope} (code : Scope.ofCode x.toNat = some scope) :
        ∃ t, exec (row (f x)) s = .next t ∧ restarted x (scopeTables s scope)
          (scopeDefaulted s scope) t := by
      obtain ⟨house, tool, carried, granted, image, defaulted⟩ := restart_kept scope s
      have decided : ownRestart [x] s = (.ok, restart scope s) := by
        simp [ownRestart, byteAt, code, holds]
      refine ⟨_, rows meaning decided (by rw [house]), restart_afterReset scope listens.1 _, ?_, ?_, ?_, ?_, ?_,
        fun was => ?_⟩
      · rw [driveLines_store, image]
      · rw [driveLines_store, defaulted]
      · rw [driveLines_house, house]
        rfl
      · rw [driveLines_toolRequest, tool]
      · rw [driveLines_seg, carried]
      · rw [driveLines_seg, granted was]
    exact ⟨done (row := .restartRuntime) (fun _ _ => rfl) (scope := .runtime) rfl,
      done (row := .restartReload) (fun _ _ => rfl) (scope := .reload) rfl,
      done (row := .restartFactory) (fun _ _ => rfl) (scope := .factory) rfl⟩

end Sys2Proof.Machine

/-! Measurement ticks: drops, overheat and the end of a flush (R67, R69, R79, R133 to R135). -/

namespace Sys2Proof.Machine

/-! ## What a tick reads -/

theorem usableValue_eq_some {s : State} {q : ProbeIx} {f : Int} :
    usableValue s q = some f ↔ (s.probes.get q).status = .ok ∧ (s.probes.get q).filtered = some f := by
  unfold usableValue
  split
  · next ok => simp [ok]
  · next other => simp [other]

theorem usableValue_eq_none {s : State} {q : ProbeIx} :
    usableValue s q = none ↔ ∀ f, ¬ ((s.probes.get q).status = .ok ∧ (s.probes.get q).filtered = some f) := by
  simp only [← usableValue_eq_some, Option.eq_none_iff_forall_ne_some, ne_eq]

theorem tooHot_iff {s : State} : tooHot s = true ↔
    ∃ f, ((s.probes.get 0).status = .ok ∧ (s.probes.get 0).filtered = some f) ∧ s.params.g1.trip ≤ f := by
  have value {f : Int} : usableValue s 0 = some f ↔ _ := usableValue_eq_some
  simp [tooHot, supplyProbe, Option.any_eq_true, value]

theorem cooled_iff {s : State} : cooled s = true ↔
    ∃ f, ((s.probes.get 0).status = .ok ∧ (s.probes.get 0).filtered = some f)
      ∧ f ≤ s.params.g1.trip - s.params.g1.hysteresis := by
  have value {f : Int} : usableValue s 0 = some f ↔ _ := usableValue_eq_some
  simp [cooled, supplyProbe, Option.any_eq_true, value]

/-- Below the trip, or with probe 0 not usable, the supply water is not too hot (R133). -/
theorem tooHot_of_below {s : State}
    (below : ∀ f, (s.probes.get 0).status = .ok → (s.probes.get 0).filtered = some f → f < s.params.g1.trip) :
    tooHot s = false := by
  rw [← Bool.not_eq_true, tooHot_iff]
  rintro ⟨f, ⟨ok, value⟩, trip⟩
  have := below f ok value
  omega

theorem tooHot_congr {s t : State} (probes : t.probes = s.probes) (params : t.params = s.params) :
    tooHot t = tooHot s := by
  simp [tooHot, usableValue, probes, params]

theorem flushEnds_iff {s : State} {tickTime : Nat} :
    flushEnds tickTime s = true ↔ s.period.mode = .flush ∧ FlushEndsAt s tickTime := by
  unfold flushEnds FlushEndsAt
  rw [Bool.and_eq_true, Bool.and_eq_true, Bool.or_eq_true, decide_eq_true_eq, decide_eq_true_eq, and_assoc]
  refine and_congr_right fun _ => and_congr_right fun _ => ?_
  cases s.period.flushRanOut <;> simp

/-- A tick is due once the next multiple of 10 s below P is reached (R69). -/
theorem tickDue_iff {s : State} : tickDue s = true ↔ s.period.mode ≠ .stopped
    ∧ s.period.lastTick + 10 ≤ s.period.time ∧ s.period.lastTick + 10 < s.period.eff.period := by
  rw [tickDue, decide_eq_true_eq, ticksOwed_eq]
  split
  · next stopped => simp [stopped]
  · next runs =>
    refine ⟨fun owed => ⟨runs, ?_⟩, fun reached => ?_⟩
    · omega
    · obtain ⟨-, time, below⟩ := reached
      omega

/-! ## What a tick does -/

/-- A tick's drops change the Loop Table, and the tick is noted (R69). -/
theorem accumulate_eq (s : State) : accumulate s = { s with
    loops := (accumulate s).loops, period := { s.period with lastTick := s.period.lastTick + 10 } } := rfl

theorem supplyCheck_cool {s : State} (mode : s.period.mode ≠ .overheat) (cool : tooHot s = false) :
    supplyCheck s = s := by
  unfold supplyCheck
  split
  · rw [cool]
    rfl
  · rw [cool]
    rfl
  · next hot => exact absurd hot mode
  · rfl

theorem plainTick_cool {s : State} (mode : s.period.mode ≠ .overheat) (cool : tooHot s = false) :
    plainTick s = accumulate s := by
  have mode' : (accumulate s).period.mode ≠ .overheat := mode
  exact supplyCheck_cool mode' ((tooHot_congr (by simp) (by simp)).trans cool)

/-- A tick that finds the supply too hot detects the overheat (R67, R133). -/
theorem plainTick_hot {s : State} (mode : s.period.mode = .running ∨ s.period.mode = .flush)
    (hot : tooHot s = true) : plainTick s = detectOverheat (accumulate s) := by
  have hot' : tooHot (accumulate s) = true := (tooHot_congr (by simp) (by simp)).trans hot
  have mode' : (accumulate s).period.mode = s.period.mode := rfl
  unfold plainTick supplyCheck
  obtain running | flush := mode
  · simp only [mode', running, hot', if_true]
  · simp only [mode', flush, hot', if_true]

theorem plainTick_overheat {s : State} (mode : s.period.mode = .overheat) :
    plainTick s = exitCheck (accumulate s) := by
  have mode' : (accumulate s).period.mode = .overheat := mode
  unfold plainTick supplyCheck
  simp only [mode']

theorem tick_goesOn {s : State} (goesOn : ¬ (s.period.mode = .flush ∧ FlushEndsAt s (s.period.lastTick + 10))) :
    tick s = plainTick s := by
  unfold tick
  rw [if_neg (mt flushEnds_iff.mp goesOn)]

/-- A tick that ends the flush enters RUNNING by a forced boundary (R79). -/
theorem tick_ends {s : State} (mode : s.period.mode = .flush) (ends : FlushEndsAt s (s.period.lastTick + 10))
    (cool : tooHot s = false) : tick s = forcedBoundary .running (stopFlush (accumulate s)) := by
  have plain : plainTick s = accumulate s := plainTick_cool (by rw [mode]; nofun) cool
  have mode' : (accumulate s).period.mode ≠ .overheat := fun hot => by
    have : s.period.mode = .overheat := hot
    rw [mode] at this
    cases this
  unfold tick
  rw [if_pos (flushEnds_iff.mpr ⟨mode, ends⟩)]
  simp only [plain, cool, mode', Bool.false_eq_true, if_false, ite_self]

/-- Overheat detected (R67, R133, R134): the mode, the lockout, every channel released. -/
theorem detectOverheat_eq (s : State) : detectOverheat s = { s with
    channels := s.channels.imap fun _ c => c.afterRelease s.period.eff.tClose
    test := (detectOverheat s).test
    arb := { s.arb with plan := [], queue := [] }
    period := { s.period with mode := .overheat, flushTimer := none, flushDue := false, flushRanOut := none }
    supply := { s.supply with pump := .off, holdTimer := none, latch := true, exitFlag := false } } := by
  unfold detectOverheat
  simp only [releaseWhere_eq, if_true]
  rfl

/-! ## The rows -/

theorem elapse_lastTick (a : Nat) (s : State) : (elapse a s).period.lastTick = s.period.lastTick := by
  rw [elapse_period]
  rfl

section

variable {a : Nat} {s : State}

theorem exec_tick (powered : s.powered = true) :
    exec (.measurementTick a) s = .next (driveLines (timed a tickDue tick s)) := exec_of_powered powered nofun

/-- The tick that the elapsed time makes due is taken (R69). -/
theorem exec_tick_due (powered : s.powered = true) (runs : s.period.mode ≠ .stopped)
    (reached : s.period.lastTick + 10 ≤ (elapse a s).period.time)
    (below : s.period.lastTick + 10 < s.period.eff.period) :
    exec (.measurementTick a) s = .next (driveLines (tick (elapse a s))) := by
  refine exec_timed_due (exec_tick powered) (tickDue_iff.mpr ⟨?_, ?_, ?_⟩)
  · rwa [elapse_mode]
  · rw [elapse_lastTick]
    exact reached
  · rw [elapse_lastTick, elapse_eff]
    exact below

end

theorem Valve.settled_iff {v : Valve} {tSettle : Nat} :
    v.settled tSettle = true ↔ ∃ since, v = .isOpen since ∧ tSettle ≤ since := by
  cases v <;> simp [Valve.settled]

/-- A loop counts when its valve has been OPEN for the settle time and both its probes are usable (R69). -/
theorem tickDrop_of_counts {s : State} {i : LoopIx} {f0 f : Int} (enabled : (s.loops.get i).cfg.enabled = true)
    (opened : ∃ since, (s.channels.get i).valve = .isOpen since ∧ s.period.eff.tSettle ≤ since)
    (supply : usableValue s 0 = some f0) (back : usableValue s i.succ = some f) :
    tickDrop s i = some (f0 - f) := by
  unfold tickDrop
  rw [if_pos (by rw [enabled, Valve.settled_iff.mpr opened]; rfl)]
  simp only [supplyProbe, returnProbe, supply, back]

theorem tickDrop_of_not_counts {s : State} {i : LoopIx}
    (out : (s.loops.get i).cfg.enabled = false
      ∨ (¬ ∃ since, (s.channels.get i).valve = .isOpen since ∧ s.period.eff.tSettle ≤ since)
      ∨ usableValue s 0 = none ∨ usableValue s i.succ = none) : tickDrop s i = none := by
  unfold tickDrop
  split
  · next counts =>
    rw [Bool.and_eq_true, Valve.settled_iff] at counts
    obtain ⟨enabled, opened⟩ := counts
    obtain disabled | closed | supply | back := out
    · rw [disabled] at enabled
      cases enabled
    · exact absurd opened closed
    · simp only [supplyProbe, supply]
    · simp only [returnProbe, back]
      split
      · next value => cases value
      · rfl
  · rfl

/-- Settles O45: below the trip a tick is its drops alone. -/
theorem tickAccumulatesDrops : Obligations.TickAccumulatesDrops := by
  intro a s powered t ok open_
  refine ⟨fun later => ?_, fun mode reached below cool => ?_⟩
  · refine exec_timed_not_due (exec_tick powered) ?_
    rw [← Bool.not_eq_true, tickDue_iff, elapse_mode, elapse_lastTick, elapse_eff]
    rintro ⟨runs, time, below⟩
    obtain stopped | early | late := later
    · exact runs stopped
    · exact absurd time (Nat.not_le.mpr early)
    · exact absurd below (Nat.not_lt.mpr late)
  · have mode' : t.period.mode = s.period.mode := elapse_mode a s
    have cold : tooHot t = false := by
      rw [tooHot_congr (elapse_probes a s) (elapse_params a s)]
      exact tooHot_of_below fun f status value => cool f ⟨status, value⟩
    have taken : tick t = accumulate t := by
      rw [tick_goesOn, plainTick_cool _ cold]
      · obtain running | ⟨flush, -⟩ := mode
        · rw [mode', running]
          nofun
        · rw [mode', flush]
          nofun
      · rintro ⟨flush, ends⟩
        rw [show t.period.lastTick = s.period.lastTick from elapse_lastTick a s] at ends
        rw [mode'] at flush
        obtain running | ⟨-, goesOn⟩ := mode
        · rw [running] at flush
          cases flush
        · exact goesOn ends
    have runs : s.period.mode ≠ .stopped := by
      obtain running | ⟨flush, -⟩ := mode
      · rw [running]
        nofun
      · rw [flush]
        nofun
    have value (q : ProbeIx) : usableValue t q = usableValue s q := by
      simp [usableValue, t]
    have loops : t.loops = s.loops := elapse_loops a s
    have eff : t.period.eff = s.period.eff := elapse_eff a s
    refine ⟨driveLines (accumulate t), by rw [exec_tick_due powered runs reached below, taken], ?_,
      fun i => ⟨?_, ?_⟩⟩
    · rw [accumulate_eq, driveLines_loops, show t.period.lastTick = s.period.lastTick from elapse_lastTick a s]
    · intro f0 f enabled opened supply back
      have drop : tickDrop t i = some (f0 - f) :=
        tickDrop_of_counts (by rwa [loops]) (by rwa [eff]) (by rw [value, usableValue_eq_some]; exact supply)
          (by rw [value, usableValue_eq_some]; exact back)
      rw [driveLines_loops, accumulate_loops, drop, loops]
    · intro out
      have drop : tickDrop t i = none := by
        refine tickDrop_of_not_counts ?_
        rw [loops, eff, value, value, usableValue_eq_none, usableValue_eq_none]
        exact out
      rw [driveLines_loops, accumulate_loops, drop, loops]

/-! ## Overheat -/

/-- Settles O46: a hot tick detects the overheat; in OVERHEAT a tick decides the exit flag. -/
theorem overheatAtTicks : Obligations.OverheatAtTicks := by
  intro a s powered t reached below
  have mode' : t.period.mode = s.period.mode := elapse_mode a s
  have lastTick : t.period.lastTick = s.period.lastTick := elapse_lastTick a s
  have probes : t.probes = s.probes := elapse_probes a s
  have params : t.params = s.params := elapse_params a s
  refine ⟨fun f mode ok value trip => ?_, fun overheat => ?_⟩
  · have hot : tooHot t = true := by
      rw [tooHot_congr probes params, tooHot_iff]
      exact ⟨f, ⟨ok, value⟩, trip⟩
    have taken : tick t = detectOverheat (accumulate t) := by
      rw [tick_goesOn, plainTick_hot _ hot]
      · rw [mode']
        exact mode.imp_right And.left
      · rintro ⟨flush, ends⟩
        rw [lastTick] at ends
        rw [mode'] at flush
        obtain running | ⟨-, goesOn⟩ := mode
        · rw [running] at flush
          cases flush
        · exact goesOn ends
    have runs : s.period.mode ≠ .stopped := by
      obtain running | ⟨flush, -⟩ := mode
      · rw [running]
        nofun
      · rw [flush]
        nofun
    have found := detectOverheat_eq (accumulate t)
    have eff : t.period.eff = s.period.eff := elapse_eff a s
    refine ⟨driveLines (detectOverheat (accumulate t)), by rw [exec_tick_due powered runs reached below, taken],
      ?_, ?_, ?_, ?_, ?_, ?_, ?_, ?_, ?_, fun i => ?_, ?_, ?_, ?_, ?_, ?_, ?_⟩
    · rw [driveLines_period, found, ← lastTick]
      rfl
    · rw [driveLines_arb, found]
      rfl
    · rw [driveLines_channels, found, ← eff]
      rfl
    · rw [found]; rfl
    · rw [found]; rfl
    · rw [found]; rfl
    · rw [found]; rfl
    · rw [found]
      show t.supply.bias = s.supply.bias
      rw [elapse_supply]
    · have mode : (driveLines (detectOverheat (accumulate t))).period.mode = .overheat := by
        rw [driveLines_period, found]
      rw [heatCall, mode]
      rfl
    · have loop : (driveLines (detectOverheat (accumulate t))).loops.get i = (accumulate t).loops.get i := by
        rw [driveLines_loops, found]
      have loops : t.loops.get i = s.loops.get i := by rw [elapse_loops]
      rw [loop, accumulate_loops, loops]
      split <;> exact ⟨rfl, rfl, rfl, rfl⟩
    · rw [driveLines_params, found, ← params]
      rfl
    · rw [driveLines_probes, found, ← probes]
      rfl
    · rw [driveLines_rooms, found]
      rfl
    · rw [driveLines_seg, found]
      rfl
    · rw [driveLines_house, found]
      rfl
    · rw [driveLines_store, found]
      rfl
  · have taken : tick t = exitCheck (accumulate t) := by
      rw [tick_goesOn, plainTick_overheat (mode'.trans overheat)]
      rw [mode', overheat]
      rintro ⟨flush, -⟩
      cases flush
    have supply : t.supply.pump = s.supply.pump ∧ t.supply.latch = s.supply.latch := by
      rw [elapse_supply]
      exact ⟨rfl, rfl⟩
    have exits : (driveLines (exitCheck (accumulate t))).supply.exitFlag = cooled (accumulate t) := rfl
    refine ⟨driveLines (exitCheck (accumulate t)),
      by rw [exec_tick_due powered (by rw [overheat]; nofun) reached below, taken], ?_, ?_, rfl, rfl, supply.1,
      supply.2⟩
    · rw [exits, cooled_iff, accumulate_probes, accumulate_params, probes, params]
      simp only [and_assoc, exists_and_left]
    · rw [← lastTick]
      rfl

/-! ## The end of a flush -/

/-- Settles O47, by the tick at which the flush timer has run out. -/
theorem flushEndsAtNextTick : Obligations.FlushEndsAtNextTick := by
  intro a s powered flush t tickTime cool
  have mode' : t.period.mode = .flush := (elapse_mode a s).trans flush
  have lastTick : t.period.lastTick = s.period.lastTick := elapse_lastTick a s
  have params : t.params = s.params := elapse_params a s
  have loops : t.loops = s.loops := elapse_loops a s
  have timer : t.period.flushTimer = s.period.flushTimer.map (· - secondsOf (1000 * a) s) := by
    rw [elapse_period]
    rfl
  have ranOut : t.period.flushRanOut = s.period.ranOut (secondsOf (1000 * a) s) := by
    rw [elapse_period]
    rfl
  have passed : a ≤ secondsOf (1000 * a) s := secondsOf_ge a s
  have cold (below : cool) : tooHot t = false := by
    rw [tooHot_congr (elapse_probes a s) params]
    exact tooHot_of_below below
  refine ⟨fun x running out open_ => ?expiry, fun x running pos out inside below => ?ends,
    fun reached below cool later => ?goesOn, fun reached below cool ends => ?enters⟩
  case expiry =>
    have due : flushExpired t = true := by
      have still : t.period.flushDue = false := by
        rw [elapse_period]
        exact open_
      have zero : t.period.flushTimer = some 0 := by
        rw [timer, running]
        exact congrArg some (Nat.sub_eq_zero_of_le (by omega))
      simp [flushExpired, mode', still, zero]
    exact exec_timed_due (f := markFlushDue) (exec_of_powered (c := .flushTimerExpiry a) powered nofun) due
  case ends =>
    have zero : t.period.flushTimer = some 0 := by
      rw [timer, running]
      exact congrArg some (Nat.sub_eq_zero_of_le (by omega))
    have out' : t.period.flushRanOut = some (s.period.time + min x (s.period.eff.period - s.period.time)) := by
      rw [ranOut, PeriodEngine.ranOut_eq, running]
      simp only [flush, reduceCtorEq, if_false]
      rw [if_pos ⟨pos, by omega⟩]
    unfold FlushEndsAt
    rw [zero, out']
    simp only [Option.some.injEq, forall_eq', or_true, true_and]
    omega
  case goesOn =>
    have taken : tick t = accumulate t := by
      rw [tick_goesOn (by rw [lastTick]; exact fun ends => later ends.2),
        plainTick_cool (by rw [mode']; nofun) (cold cool)]
    refine ⟨_, exec_tick_due powered (by rw [flush]; nofun) reached below, ?_⟩
    rw [taken, driveLines_period, accumulate_eq, lastTick]
  case enters =>
    have taken : tick t = forcedBoundary .running (stopFlush (accumulate t)) :=
      tick_ends mode' (by rw [lastTick]; exact ends) (cold cool)
    obtain ⟨x, from_⟩ : ∃ x, x = stopFlush (accumulate t) := ⟨_, rfl⟩
    have channels : x.channels = t.channels := by rw [from_]; rfl
    have rooms : x.rooms = t.rooms := by rw [from_]; rfl
    have added (i : LoopIx) : (x.loops.get i).cfg = (s.loops.get i).cfg ∧ (x.loops.get i).k = (s.loops.get i).k
        ∧ (x.loops.get i).cls = (t.loops.get i).cls := by
      have loop : x.loops.get i = (accumulate t).loops.get i := by rw [from_]; rfl
      rw [loop, accumulate_loops, loops]
      split <;> exact ⟨rfl, rfl, rfl⟩
    have read : ReadAs t x := {
      channels := channels
      cls := fun i => (added i).2.2
      enabled := fun i => by rw [(added i).1, loops]
      tClose := by rw [from_]; rfl
      sinceGrant := by rw [from_]; rfl }
    have params' : x.params = s.params := by rw [← params, from_]; rfl
    have limit := HoldingLimitKept.forcedBoundary .running x
    refine ⟨concluded (forcedBoundary .running x).house (forcedBoundary .running x),
      Bank.ofFn fun i => summaryEntry true (closeOut x) i, ?_, ?_, ?_, ?_, ?_, ?_, ?_,
      fun i => ⟨?_, ?_, ?_, ?_⟩, ?_, ?_⟩
    · rw [exec_tick_due powered (by rw [flush]; nofun) reached below, taken, from_]
      rfl
    · simp
    · simp
    · rw [concluded_period, forcedBoundary_flushTimer, from_]
      rfl
    · simp [params']
    · unfold HoldingLimitKept at limit
      simpa [energisedCount, params'] using limit
    · rw [concluded_period]
      refine forcedBoundary_summary ?_ .running
      rw [from_]
      exact mode' ▸ nofun
    · rw [Bank.get_ofFn]
      rfl
    · rw [concluded_loops, forcedBoundary_loops]
      exact (added i).2.1
    · rw [concluded_loops, forcedBoundary_loops]
    · have cls := forcedBoundary_running_class x i
      have condition : (x.channels.get i).condition = (s.channels.get i).condition := by
        rw [channels, elapse_condition]
      have demand : loopDemand x i = loopDemand t i :=
        loopDemand_congr (by rw [(added i).1, loops]) rooms
      rw [concluded_loops]
      rwa [(added i).1, (added i).2.1, condition, params', demand] at cls
    · exact forcedBoundary_begins read (concluded_starts _ _)
    · simp [from_]

end Sys2Proof.Machine

/-! The regular boundary: the ticks that are still due, the pass, the summary, the report to the store (R69, R71
to R76, R82, R131, R173). -/

namespace Sys2Proof.Machine

/-! ## The ticks still due -/

/-- The state after `n` ticks at which nothing but the drops happens (R69, log 14). -/
def State.ticked (n : Nat) (s : State) : State :=
  { s with
    loops := Bank.ofFn (loopTicked s n)
    period := { s.period with lastTick := s.period.lastTick + 10 * n } }

theorem ticked_loops (n : Nat) (s : State) (i : LoopIx) : (s.ticked n).loops.get i = loopTicked s n i :=
  Bank.get_ofFn _ _

/-- Ticks change a loop's Σ and n alone (R69). -/
theorem loopTicked_frame (s : State) (n : Nat) (i : LoopIx) :
    loopTicked s n i = { s.loops.get i with
      sigma := (loopTicked s n i).sigma, n := (loopTicked s n i).n } := by
  unfold loopTicked
  cases tickDrop s i <;> rfl

theorem loopTicked_cfg (s : State) (n : Nat) (i : LoopIx) : (loopTicked s n i).cfg = (s.loops.get i).cfg := by
  rw [loopTicked_frame]

theorem loopTicked_k (s : State) (n : Nat) (i : LoopIx) : (loopTicked s n i).k = (s.loops.get i).k := by
  rw [loopTicked_frame]

theorem loopTicked_cls (s : State) (n : Nat) (i : LoopIx) : (loopTicked s n i).cls = (s.loops.get i).cls := by
  rw [loopTicked_frame]

theorem tickDrop_ticked (n : Nat) (s : State) (i : LoopIx) : tickDrop (s.ticked n) i = tickDrop s i := by
  have value (q : ProbeIx) : usableValue (s.ticked n) q = usableValue s q := rfl
  unfold tickDrop
  rw [ticked_loops, loopTicked_cfg, value, value]
  rfl

theorem ticked_zero (s : State) : s.ticked 0 = s := by
  have loops : Bank.ofFn (loopTicked s 0) = s.loops := by
    refine Bank.ext_get fun i => ?_
    rw [Bank.get_ofFn]
    unfold loopTicked
    cases tickDrop s i <;> simp
  unfold State.ticked
  rw [loops]
  rfl

theorem ticked_add (m n : Nat) (s : State) : (s.ticked m).ticked n = s.ticked (m + n) := by
  have loops : Bank.ofFn (loopTicked (s.ticked m) n) = Bank.ofFn (loopTicked s (m + n)) := by
    refine Bank.ext_get fun i => ?_
    rw [Bank.get_ofFn, Bank.get_ofFn]
    unfold loopTicked
    rw [tickDrop_ticked, ticked_loops]
    unfold loopTicked
    cases tickDrop s i with
    | none => rfl
    | some d =>
      simp only [Nat.cast_add]
      congr 1
      · ring
      · omega
  have lastTick : s.period.lastTick + 10 * m + 10 * n = s.period.lastTick + 10 * (m + n) := by omega
  unfold State.ticked at *
  simp only [loops, lastTick]

theorem accumulate_eq_ticked (s : State) : accumulate s = s.ticked 1 := by
  have loops : (accumulate s).loops = Bank.ofFn (loopTicked s 1) := by
    refine Bank.ext_get fun i => ?_
    rw [accumulate_loops, Bank.get_ofFn]
    unfold loopTicked
    cases tickDrop s i <;> simp
  rw [accumulate_eq, loops]
  rfl

theorem ticksOwed_ticked (s : State) : ticksOwed (s.ticked 1) = ticksOwed s - 1 := by
  have lastTick : (s.ticked 1).period.lastTick = s.period.lastTick + 10 := rfl
  have rest : (s.ticked 1).period.time = s.period.time ∧ (s.ticked 1).period.eff = s.period.eff
      ∧ (s.ticked 1).period.mode = s.period.mode := ⟨rfl, rfl, rfl⟩
  rw [ticksOwed_eq, ticksOwed_eq, lastTick, rest.1, rest.2.1, rest.2.2]
  split
  · rfl
  · omega

/-- The ticks that are due, below the trip and with none that ends a flush, are their drops (R69). -/
theorem takeTicks_cool {n : Nat} {s : State} (mode : s.period.mode ≠ .overheat) (cool : tooHot s = false)
    (goesOn : ∀ j < n, ¬ (s.period.mode = .flush ∧ FlushEndsAt s (s.period.lastTick + 10 * (j + 1))))
    (owed : n ≤ ticksOwed s) : takeTicks n s = s.ticked n := by
  induction n generalizing s with
  | zero => rw [ticked_zero]; rfl
  | succ n ih =>
    have due : tickDue s = true := decide_eq_true (by omega)
    have first : tick s = s.ticked 1 := by
      rw [tick_goesOn (goesOn 0 (by omega)), plainTick_cool mode cool, accumulate_eq_ticked]
    unfold takeTicks
    rw [if_pos due, first, ih (s := s.ticked 1) mode cool ?_ (by rw [ticksOwed_ticked]; omega), ticked_add,
      Nat.add_comm]
    intro j less ends
    refine goesOn (j + 1) (by omega) ⟨ends.1, ?_⟩
    have later : (s.ticked 1).period.lastTick + 10 * (j + 1) = s.period.lastTick + 10 * (j + 1 + 1) := by
      show s.period.lastTick + 10 * 1 + 10 * (j + 1) = _
      omega
    rw [← later]
    exact ends.2

/-- The exit flag overwritten (R135). -/
def State.withExitFlag (x : Bool) (s : State) : State := { s with supply := { s.supply with exitFlag := x } }

/-- In OVERHEAT each tick that is due decides the exit flag anew (R135). -/
theorem takeTicks_overheat {n : Nat} {s : State} (mode : s.period.mode = .overheat) (owed : n ≤ ticksOwed s) :
    ∃ x, takeTicks n s = (s.ticked n).withExitFlag x := by
  induction n generalizing s with
  | zero => exact ⟨s.supply.exitFlag, by rw [ticked_zero]; rfl⟩
  | succ n ih =>
    have due : tickDue s = true := decide_eq_true (by omega)
    have first : tick s = exitCheck (s.ticked 1) := by
      rw [tick_goesOn (by rw [mode]; nofun), plainTick_overheat mode, accumulate_eq_ticked]
    have left : ticksOwed (exitCheck (s.ticked 1)) = ticksOwed s - 1 := ticksOwed_ticked s
    obtain ⟨x, rest⟩ := ih (s := exitCheck (s.ticked 1)) mode (by rw [left]; omega)
    refine ⟨x, ?_⟩
    unfold takeTicks
    rw [if_pos due, first, rest]
    have added : (exitCheck (s.ticked 1)).ticked n = exitCheck (s.ticked (n + 1)) := by
      have := congrArg (fun t => { t with supply := (exitCheck (s.ticked 1)).supply }) (ticked_add 1 n s)
      rw [Nat.add_comm] at this
      exact this
    rw [added]
    rfl

/-- As the period time reaches P, the ticks below P that are still due (log 14). -/
theorem ticksOwed_at_boundary {s : State} (runs : s.period.mode ≠ .stopped)
    (due : s.period.eff.period ≤ s.period.time) :
    ticksOwed s = (s.period.eff.period - 1 - s.period.lastTick) / 10 := by
  rw [ticksOwed_eq, if_neg runs, Nat.min_eq_right (by omega)]

/-! ## The ages due -/

/-- Where no demand falls to 0 in RUNNING, the rooms that are too old become LOST and nothing else changes
(R47, R50). -/
theorem expireAges_eq {s : State}
    (kept : s.period.mode = .running → ∀ r, 0 < derivedDemand (s.rooms.get r) →
      derivedDemand (s.agesExpired.rooms.get r) ≠ 0) : expireAges s = s.agesExpired := by
  have aged : (s.rooms.imap fun _ => Room.aged s.params.g2.holdTime) = s.agesExpired.rooms := by
    refine Bank.ext_get fun r => ?_
    rw [Bank.get_imap, Room.aged_eq, State.agesExpired, Bank.get_imap]
  unfold expireAges
  rw [changeRooms_of_no_closing, aged]
  · rfl
  · rintro r ⟨running, before, after⟩
    refine kept running r before ?_
    rw [← aged, Bank.get_imap]
    exact after

theorem ticked_agesExpired (n : Nat) (s : State) : (s.ticked n).agesExpired = s.agesExpired.ticked n := rfl

/-! ## The pass -/

/-- What the pass of a boundary, taken in `s`, reads of the part as the boundary found it, `t`. -/
structure PassReads (t s : State) : Prop where
  cfg : ∀ i, (s.loops.get i).cfg = (t.loops.get i).cfg
  k : ∀ i, (s.loops.get i).k = (t.loops.get i).k
  condition : ∀ i, (s.channels.get i).condition = (t.channels.get i).condition
  rooms : s.rooms = t.rooms
  params : s.params = t.params

namespace PassReads

variable {t s : State}

theorem takesPart (h : PassReads t s) (i : LoopIx) : Machine.takesPart s i = Machine.takesPart t i :=
  takesPart_congr (h.cfg i) (h.condition i)

theorem demand (h : PassReads t s) (i : LoopIx) : loopDemand s i = loopDemand t i :=
  loopDemand_congr (h.cfg i) h.rooms

end PassReads

/-- The class that the full pass and the forced one give each loop (R95 to R102). -/
theorem planPeriod_class {v : Variant} {t s : State} (h : PassReads t s) (learns : v = .full ∨ v = .forced)
    (i : LoopIx) :
    ((t.loops.get i).cfg.enabled = true ∧ (t.channels.get i).condition = .ready →
      ClassedAs t.params.timing (t.loops.get i).cfg.policy (loopDemand t i) ((planPeriod v s).loops.get i).k
        ((planPeriod v s).loops.get i).cls ((planPeriod v s).loops.get i).onTime)
    ∧ (¬ ((t.loops.get i).cfg.enabled = true ∧ (t.channels.get i).condition = .ready) →
      ((planPeriod v s).loops.get i).k = (t.loops.get i).k
        ∧ ((planPeriod v s).loops.get i).cls = .off ∧ ((planPeriod v s).loops.get i).onTime = 0) := by
  have held : (hold v s i).part = Machine.takesPart t i ∧ (hold v s i).demand = loopDemand t i := by
    unfold hold
    dsimp only
    rw [h.takesPart i, h.demand i]
    split <;> exact ⟨rfl, rfl⟩
  have classes (o : Held) : planned v t.params.timing (t.loops.get i).cfg.policy o =
      if o.part then classify t.params.timing (t.loops.get i).cfg.policy (duty o.demand o.k) else (.off, 0) := by
    obtain full | forced := learns
    · rw [full]
      rfl
    · rw [forced]
      rfl
  rw [planPeriod_loops, Loop.withPass, h.params, h.cfg i, classes, held.1, held.2, ← takesPart_iff]
  refine ⟨fun part => ?_, fun out => ?_⟩
  · rw [if_pos part]
    exact classify_classedAs _ _ _ _
  · rw [if_neg out]
    refine ⟨?_, rfl, rfl⟩
    have no : ¬ (v = .full ∧ Machine.takesPart s i = true) := fun both => out (h.takesPart i ▸ both.2)
    show (hold v s i).k = (t.loops.get i).k
    unfold hold
    rw [if_neg no, h.k i]

/-! ## The summary of a full pass -/

/-- What a full pass holds of a loop that takes part (R87 to R92), and of any other. -/
theorem hold_full (s : State) (i : LoopIx) :
    (takesPart s i = true →
      (hold .full s i).k = factorOf s.params.g1 (s.loops.get i) (endedClass s i)
        ∧ (hold .full s i).step = stepOf s.params.g1 (s.loops.get i) (endedClass s i))
    ∧ (takesPart s i = false → (hold .full s i).k = (s.loops.get i).k ∧ (hold .full s i).step = 0) := by
  refine ⟨fun part => ?_, fun out => ?_⟩ <;>
    simp [hold, *]

theorem planPeriod_full_summary {s : State} {b : Bank SummaryEntry 16} (summary : s.period.summary = some b) :
    (planPeriod .full s).period.summary = some (b.imap fun i e =>
      { e with step := (hold .full s i).step, kAfter := (hold .full s i).k }) := by
  rw [planPeriod_summary]
  simp [runPass, writeSteps, summary]

theorem waitsToStart_iff (s : State) (i : LoopIx) :
    waitsToStart s i = true ↔ .loop i ∈ s.arb.queue ∨ ∃ p ∈ s.arb.plan, p.loop = i := by
  simp [waitsToStart]

theorem meanDrop_eq (nMeas : Nat) (sigma : Int) (n : Nat) :
    meanDrop nMeas sigma n = if n < nMeas then none else some (sigma.tdiv n) := by
  unfold meanDrop
  by_cases few : n < nMeas
  · rw [if_pos few, if_neg (by omega)]
  · rw [if_neg few, if_pos (by omega)]

/-- A boundary that takes the full pass learns and summarises as the manual says (R72, R73, R82, R87 to R101). -/
theorem fullPass_of {t s u : State} {rec : Bank PeriodRecord 16} {n : Nat} (h : PassReads t s)
    (records : t.period.records = some rec) (loops : s.loops = (t.ticked n).loops)
    (summary : s.period.summary = some (Bank.ofFn fun i => summaryEntry false (closeOut (t.ticked n)) i))
    (planned : u.loops = (planPeriod .full s).loops)
    (summarised : u.period.summary = (planPeriod .full s).period.summary) : FullPass t u rec n := by
  have closed : (closeOut (t.ticked n)).period.records =
      some (rec.imap fun i r => if waitsToStart t i then { r with missed := true } else r) := closeOut_records records
  have entry (i : LoopIx) : (currentRecords (closeOut (t.ticked n))).get i =
      if waitsToStart t i then { rec.get i with missed := true } else rec.get i := by
    rw [currentRecords, closed, Option.getD_some, Bank.get_imap]
  have frame (i : LoopIx) : (currentRecords (closeOut (t.ticked n))).get i =
      { rec.get i with missed := ((currentRecords (closeOut (t.ticked n))).get i).missed } := by
    rw [entry]
    split <;> rfl
  have waits (i : LoopIx) : ((currentRecords (closeOut (t.ticked n))).get i).missed = true ↔
      (rec.get i).missed = true ∨ .loop i ∈ t.arb.queue ∨ ∃ p ∈ t.arb.plan, p.loop = i := by
    rw [entry, ← waitsToStart_iff]
    split
    · next waiting => simp [waiting]
    · next not_waiting => simp [not_waiting]
  have loop (i : LoopIx) : s.loops.get i = loopTicked t n i := by rw [loops, ticked_loops]
  have summed (i : LoopIx) : (closeOut (t.ticked n)).loops.get i = loopTicked t n i := by
    rw [closeOut_loops, ticked_loops]
  have params : (closeOut (t.ticked n)).params = t.params := by rw [closeOut_params]; rfl
  have ended (i : LoopIx) : endedClass s i = (rec.get i).cls := by
    rw [endedClass, summary, Option.elim_some, Bank.get_ofFn]
    have cls := congrArg PeriodRecord.cls (frame i)
    exact cls
  have after (i : LoopIx) : (u.loops.get i).k = (hold .full s i).k := by
    rw [planned, planPeriod_loops]
    rfl
  refine ⟨_, summarised.trans (planPeriod_full_summary summary), fun i => ?_⟩
  dsimp only
  rw [Bank.get_imap, Bank.get_ofFn]
  obtain ⟨learns, keeps⟩ := hold_full s i
  obtain ⟨classed, out⟩ := planPeriod_class h (.inl rfl) i
  rw [← planned] at classed out
  have cls := congrArg PeriodRecord.cls (frame i)
  have onTime := congrArg PeriodRecord.onTime (frame i)
  have grantTime := congrArg PeriodRecord.grantTime (frame i)
  have clipped := congrArg PeriodRecord.clipped (frame i)
  have closedEarly := congrArg PeriodRecord.closedEarly (frame i)
  refine ⟨cls, onTime, grantTime, clipped, closedEarly, waits i, closeOut_energisedSeconds _ i, rfl, ?_, ?_,
    (after i).symm, fun part => ⟨?_, classed part⟩, fun no => ⟨(out no).1, ?_, ?_, (out no).2⟩⟩
  · show ((closeOut (t.ticked n)).loops.get i).n = _
    rw [summed]
  · show ((closeOut (t.ticked n)).loops.get i).k = _
    rw [summed, loopTicked_k]
  · have part' : takesPart s i = true := by rw [h.takesPart i, takesPart_iff]; exact part
    have learned := factorOf_learnedAs t.params.g1 (loopTicked t n i) (rec.get i).cls
    obtain ⟨k, step⟩ := learns part'
    rw [loop, ended, h.params] at k step
    rw [after, k]
    show LearnedAs _ _ _ (meanDrop _ ((closeOut (t.ticked n)).loops.get i).sigma _) (hold .full s i).step _
    rw [step, summed, params]
    exact learned
  · have out' : takesPart s i = false := by
      rw [h.takesPart i, ← Bool.not_eq_true, takesPart_iff]
      exact no
    exact (keeps out').2
  · show meanDrop (closeOut (t.ticked n)).params.g1.nMeas ((closeOut (t.ticked n)).loops.get i).sigma
      ((closeOut (t.ticked n)).loops.get i).n = _
    rw [summed, params, meanDrop_eq]

/-! ## The supply bias -/

theorem updateBias_supply (s : State) : (updateBias s).supply = { s.supply with
    bias :=
      if ∃ r, starved s r = true then
        min (s.supply.bias + 50) (s.params.g1.supplyMax - s.params.g1.supplyBase).toNat
      else if ∀ i, (s.loops.get i).cls ≠ .continuous then s.supply.bias - 50
      else s.supply.bias } := by
  have any : (allRooms.any (starved s) = true) = ∃ r, starved s r = true := by simp
  have all : (allLoops.all (fun i => (s.loops.get i).cls ≠ .continuous) = true)
      = ∀ i, (s.loops.get i).cls ≠ .continuous := by simp
  unfold updateBias
  simp only [any, all]
  rfl

/-- A room is starved when it is FRESH at full demand, its loops that take part are all CONTINUOUS, and its air
is too cold (R131). -/
theorem starved_iff (s : State) (r : RoomIx) : starved s r = true ↔
    (s.rooms.get r).freshness = .fresh ∧ derivedDemand (s.rooms.get r) = 1000
      ∧ (∃ i, (s.loops.get i).cfg.enabled = true ∧ (s.channels.get i).condition = .ready
          ∧ (s.loops.get i).cfg.room = some r)
      ∧ (∀ i, (s.loops.get i).cfg.enabled = true ∧ (s.channels.get i).condition = .ready
          ∧ (s.loops.get i).cfg.room = some r → (s.loops.get i).cls = .continuous)
      ∧ ∃ v, (s.rooms.get r).report = some v ∧ v.air ≤ v.setpoint - 50 := by
  have mine (i : LoopIx) : (loopOfRoom s r i && takesPart s i) = true ↔
      (s.loops.get i).cfg.enabled = true ∧ (s.channels.get i).condition = .ready
        ∧ (s.loops.get i).cfg.room = some r := by
    rw [Bool.and_eq_true, takesPart_iff, loopOfRoom]
    simp only [decide_eq_true_eq]
    tauto
  unfold starved
  dsimp only
  simp only [Bool.and_eq_true, decide_eq_true_eq, Bool.not_eq_true', List.isEmpty_eq_false_iff_exists_mem,
    List.mem_filter, List.all_eq_true, mine, Option.any_eq_true, and_assoc, allLoops, List.mem_finRange, true_and]
  rfl

/-- A pass into RUNNING recomputes the supply bias from the classes that it gives, where the latch leaves the
timing as it was (R74, R131). -/
theorem planPeriod_bias {v : Variant} {t s u : State} (h : PassReads t s) (running : s.period.mode = .running)
    (timing : s.params.timing = s.period.eff) (bias : s.supply.bias = t.supply.bias)
    (planned : u.loops = (planPeriod v s).loops) (after : u.supply.bias = (planPeriod v s).supply.bias) :
    BiasRecomputed t u := by
  obtain ⟨x, pass⟩ : ∃ x, x = runPass v (Bank.ofFn fun i => hold v s i) s := ⟨_, rfl⟩
  have mode : x.period.mode = .running := by rw [pass, runPass_mode, running]
  have rooms : x.rooms = t.rooms := by rw [pass, runPass_rooms, h.rooms]
  have params : x.params = t.params := by rw [pass, runPass_params, h.params]
  have supply : x.supply.bias = t.supply.bias := by rw [pass, runPass_supply, bias]
  have channels : x.channels = s.channels := by rw [pass, runPass_channels]
  have loop (i : LoopIx) : (x.loops.get i).cls = (u.loops.get i).cls
      ∧ (x.loops.get i).cfg = (t.loops.get i).cfg := by
    rw [pass, runPass_loops, planned, planPeriod_loops, timing, ← h.cfg i]
    exact ⟨rfl, rfl⟩
  have hungry (r : RoomIx) := starved_iff x r
  simp only [rooms, channels, h.condition, loop] at hungry
  have written := congrArg Supply.bias (updateBias_supply x)
  have biased : (planPeriod v s).supply.bias = (updateBias x).supply.bias := by
    rw [planPeriod_supply, stagePass, ← pass, if_pos mode]
  rw [← biased, ← after] at written
  dsimp only at written
  simp only [hungry, params, supply, loop] at written
  unfold BiasRecomputed
  dsimp only
  refine ⟨fun some => ?_, fun none idle => ?_, fun none continuous => ?_⟩
  · rw [written, if_pos some]
  · rw [written, if_neg (not_exists.mpr none), if_pos idle]
  · obtain ⟨i, on⟩ := continuous
    rw [written, if_neg (not_exists.mpr none), if_neg fun idle => idle i on]

/-! ## The report to the store -/

/-- A completed pass is counted, and a save begins as the count reaches the interval (R173). -/
theorem passReport_reported {t s u : State} (params : s.params = t.params) (store : s.store = t.store)
    (tables : tablesOf u = tablesOf s) (reported : u.store = (passReport s).store) : PassReported t u := by
  unfold PassReported
  dsimp only
  rw [reported, tables, ← store, ← params]
  unfold passReport
  dsimp only
  refine ⟨fun off => ?_, fun on stays => ?_, fun on full idle => ?_⟩
  · rw [if_pos off]
    rfl
  · have keeps : ¬ ((if s.store.autosave = s.params.g3.autosave then s.params.g3.autosave
        else s.store.autosave + 1) = s.params.g3.autosave ∧ ¬ saving s = true) := by
      rintro ⟨full, idle⟩
      refine stays.elim (fun h => h full) fun h => idle ?_
      exact Option.isSome_iff_ne_none.mpr h
    rw [if_neg (by omega), if_neg keeps]
    rfl
  · have idle' : ¬ saving s = true := by simp [saving, idle]
    rw [if_neg (by omega), if_pos ⟨full, idle'⟩]
    exact ⟨rfl, rfl, Image.invalidated_load _ _⟩

end Sys2Proof.Machine

/-! What a regular boundary starts, by the mode and the tick at P (R67, R71 to R76, R79, R102 to R104, R135). -/

namespace Sys2Proof.Machine

/-! ## The state in which the pass is taken -/

theorem closeOut_of_supply (s : State) (p : Supply) :
    closeOut { s with supply := p } = { closeOut s with supply := p } := by
  unfold closeOut
  simp only [releaseWhere_eq]
  rfl

/-- The state `s` in which a regular boundary takes its pass: it found the part as `t`, took `n` ticks and
closed the period out (R72). -/
structure AtPass (t : State) (n : Nat) (s : State) : Prop where
  loops : s.loops = (t.ticked n).loops
  channels : s.channels = (closeOut (t.ticked n)).channels
  arb : s.arb = (closeOut (t.ticked n)).arb
  rooms : s.rooms = t.rooms
  params : s.params = t.params
  eff : s.period.eff = t.period.eff
  summary : s.period.summary = some (Bank.ofFn fun i => summaryEntry false (closeOut (t.ticked n)) i)

/-- A regular start: the new period that a boundary, which found the part as `t`, has begun in the mode (R76). -/
structure StartsPeriod (t u : State) (mode : Mode) : Prop where
  mode : u.period.mode = mode
  time : u.period.time = 0
  eff : u.period.eff = t.params.timing
  limit : energisedCount u ≤ t.params.timing.limit
  loop : ∀ i, (u.loops.get i).cfg = (t.loops.get i).cfg ∧ (u.loops.get i).sigma = 0 ∧ (u.loops.get i).n = 0
  summary : ∃ b, u.period.summary = some b ∧ ∀ i, (b.get i).shortened = false
  begins : PeriodBegins t u

theorem ticked_readAs (t : State) (n : Nat) : ReadAs t (t.ticked n) where
  channels := rfl
  cls i := by rw [ticked_loops, loopTicked_cls]
  enabled i := by rw [ticked_loops, loopTicked_cfg]
  tClose := rfl
  sinceGrant := rfl

namespace AtPass

variable {t s u : State} {n : Nat} {v : Variant}

theorem of_closePeriod (t : State) (n : Nat) (p : Supply) :
    AtPass t n (closePeriod { t.ticked n with supply := p }) := by
  have closed : closePeriod { t.ticked n with supply := p } =
      recordSummary false { closeOut (t.ticked n) with supply := p } := by
    rw [closePeriod, closeOut_of_supply]
  rw [closed]
  exact {
    loops := closeOut_loops _
    channels := rfl
    arb := rfl
    rooms := closeOut_rooms _
    params := closeOut_params _
    eff := (closeOut_period _).eff
    summary := rfl }

theorem congr {x : State} (h : AtPass t n s) (loops : x.loops = s.loops) (channels : x.channels = s.channels)
    (arb : x.arb = s.arb) (rooms : x.rooms = s.rooms) (params : x.params = s.params)
    (eff : x.period.eff = s.period.eff) (summary : x.period.summary = s.period.summary) : AtPass t n x where
  loops := loops.trans h.loops
  channels := channels.trans h.channels
  arb := arb.trans h.arb
  rooms := rooms.trans h.rooms
  params := params.trans h.params
  eff := eff.trans h.eff
  summary := summary.trans h.summary

theorem of_ticked (t : State) (n : Nat) : AtPass t n (closePeriod (t.ticked n)) := of_closePeriod t n t.supply

theorem setMode (h : AtPass t n s) (m : Mode) : AtPass t n (setMode m s) := h.congr rfl rfl rfl rfl rfl rfl rfl

theorem stopFlush (h : AtPass t n s) : AtPass t n (stopFlush s) := h.congr rfl rfl rfl rfl rfl rfl rfl

theorem endLockout (h : AtPass t n s) : AtPass t n (endLockout s) := h.congr rfl rfl rfl rfl rfl rfl rfl

theorem reads (h : AtPass t n s) : PassReads t s where
  cfg i := by rw [h.loops, ticked_loops, loopTicked_cfg]
  k i := by rw [h.loops, ticked_loops, loopTicked_k]
  condition i := by rw [h.channels, closeOut_condition]; rfl
  rooms := h.rooms
  params := h.params

theorem closedOut (h : AtPass t n s) : ClosedOut t s :=
  .of_closeOut (ticked_readAs t n) h.loops h.channels h.arb

theorem fullPass {rec : Bank PeriodRecord 16} (h : AtPass t n s) (records : t.period.records = some rec)
    (planned : u.loops = (planPeriod .full s).loops)
    (summarised : u.period.summary = (planPeriod .full s).period.summary) : FullPass t u rec n :=
  fullPass_of h.reads records h.loops h.summary planned summarised

theorem starts {m : Mode} (h : AtPass t n s) (mode : s.period.mode = m) (same : SameStarts (planPeriod v s) u)
    (engine : u.period = (planPeriod v s).period) : StartsPeriod t u m where
  mode := by rw [engine, planPeriod_mode, mode]
  time := by rw [engine, planPeriod_time]
  eff := by rw [engine, planPeriod_eff, h.params]
  limit := by
    have limit := HoldingLimitKept.planPeriod v s
    unfold HoldingLimitKept at limit
    rw [planPeriod_eff, h.params] at limit
    unfold energisedCount at *
    rwa [same.channels]
  loop i := by
    rw [same.loops, planPeriod_loops]
    exact ⟨h.reads.cfg i, rfl, rfl⟩
  summary := by
    rw [engine]
    by_cases full : v = .full
    · rw [full]
      refine ⟨_, planPeriod_full_summary h.summary, fun i => ?_⟩
      rw [Bank.get_imap, Bank.get_ofFn]
      rfl
    · refine ⟨_, (planPeriod_summary_of_ne_full full s).trans h.summary, fun i => ?_⟩
      rw [Bank.get_ofFn]
      rfl
  begins := periodBegins_of_planned h.closedOut same

end AtPass

/-! ## Reports that waited -/

/-- At a demand of 0 a loop that takes part is OFF (R95 to R98). -/
theorem ClassedAs.off_of_demand_zero {t : Timing} {policy : Policy} {k on : Nat} {cls : LoopClass}
    (h : ClassedAs t policy 0 k cls on) (margin : t.margin < t.period) : cls = .off ∧ on = 0 := by
  unfold ClassedAs at h
  have duty : min (0 * k / 1024) 1000 = 0 := by simp
  have e : (0 * t.period + 500) / 1000 = 0 := by omega
  dsimp only at h
  rw [duty, e] at h
  rwa [if_neg (by omega), if_pos rfl] at h

/-- After a pass the loops of a room at demand 0 are OFF (R95 to R98, R102). -/
theorem planPeriod_off {v : Variant} {t s : State} {r : RoomIx} (h : PassReads t s)
    (learns : v = .full ∨ v = .forced) (demand : derivedDemand (t.rooms.get r) = 0) (margin : t.params.timing.margin < t.params.timing.period)
    {i : LoopIx} (room : (t.loops.get i).cfg.room = some r) :
    ((planPeriod v s).loops.get i).cls = .off ∧ ((planPeriod v s).loops.get i).onTime = 0 := by
  obtain ⟨classed, out⟩ := planPeriod_class h learns i
  by_cases part : (t.loops.get i).cfg.enabled = true ∧ (t.channels.get i).condition = .ready
  · have zero : loopDemand t i = 0 := by
      rw [loopDemand, room]
      exact demand
    have cls := classed part
    rw [zero] at cls
    exact cls.off_of_demand_zero margin
  · exact (out part).2

/-- Reports that waited for a boundary whose pass enters RUNNING find nothing to close (R78). -/
theorem demandDrop_finds_nothing {v : Variant} {t s u : State} (h : PassReads t s)
    (learns : v = .full ∨ v = .forced) (drops : DropsFindNothing t) (loops : u.loops = (planPeriod v s).loops) :
    demandDrop (fun r => t.period.drops.contains r) u = u := by
  refine demandDrop_of_none fun i => ?_
  have cfg : (u.loops.get i).cfg = (t.loops.get i).cfg := by
    rw [loops, planPeriod_loops]
    exact h.cfg i
  unfold droppedLoop
  dsimp only
  rw [cfg, Bool.and_eq_false_iff, Bool.and_eq_false_iff]
  cases room : (t.loops.get i).cfg.room with
  | none => exact .inr rfl
  | some r =>
    by_cases waits : t.period.drops.contains r = true
    · obtain ⟨demand, margin⟩ := drops r (by simpa using waits)
      have off := (planPeriod_off h learns demand margin room).1
      rw [← loops] at off
      exact .inl (.inr (by simp [off]))
    · exact .inr (by simpa using waits)

/-- Outside RUNNING reports find nothing to close (R80). -/
theorem demandDrop_of_not_running {s : State} (mode : s.period.mode ≠ .running) (rooms : RoomIx → Bool) :
    demandDrop rooms s = s := if_neg mode

/-! ## The boundary, by mode -/

/-- The ticks of a period that a boundary at P still takes, the one at P included (R69, log 14). -/
def ticksLeft (e : State) : Nat := (e.period.eff.period - 1 - e.period.lastTick) / 10 + 1

section Modes

variable {e : State} (due : e.period.eff.period ≤ e.period.time)
include due

/-- Below the trip, with no flush ending below P, a boundary takes its ticks as drops alone (R69, R71). -/
theorem regularBoundary_cool (runs : e.period.mode.heats = true) (cool : tooHot e = false)
    (goesOn : ∀ j, e.period.lastTick + 10 * (j + 1) < e.period.eff.period →
      ¬ (e.period.mode = .flush ∧ FlushEndsAt e (e.period.lastTick + 10 * (j + 1))))
    (kept : e.period.mode = .running → ∀ r, 0 < derivedDemand (e.rooms.get r) →
      derivedDemand (e.agesExpired.rooms.get r) ≠ 0) :
    regularBoundary e = demandDrop (fun r => e.agesExpired.period.drops.contains r)
      (boundaryAfterTick (flushEnds e.period.eff.period e.agesExpired) (e.agesExpired.ticked (ticksLeft e))) := by
  have hot : e.period.mode ≠ .overheat := by
    intro mode
    rw [mode] at runs
    cases runs
  have stopped : e.period.mode ≠ .stopped := by
    intro mode
    rw [mode] at runs
    cases runs
  have owed := ticksOwed_at_boundary stopped due
  have taken : takeTicks (ticksOwed e) e = e.ticked (ticksOwed e) := by
    refine takeTicks_cool hot cool (fun j less => goesOn j ?_) (Nat.le_refl _)
    omega
  have still : boundaryDue (e.ticked (ticksOwed e)) = true := by
    unfold boundaryDue
    rw [Bool.and_eq_true, decide_eq_true_eq, Mode.runs_iff]
    exact ⟨stopped, due⟩
  have aged : expireAges (e.ticked (ticksOwed e)) = e.agesExpired.ticked (ticksOwed e) := by
    rw [expireAges_eq (s := e.ticked (ticksOwed e)) kept, ticked_agesExpired]
  have last : plainTick (e.agesExpired.ticked (ticksOwed e)) = e.agesExpired.ticked (ticksLeft e) := by
    rw [plainTick_cool (s := e.agesExpired.ticked (ticksOwed e)) hot cool, accumulate_eq_ticked, ticked_add, owed]
    rfl
  unfold regularBoundary
  dsimp only
  rw [taken, if_pos still]
  unfold boundaryWithDrops boundary
  dsimp only
  rw [aged, last]
  rfl

/-- In OVERHEAT the last tick decides the exit flag that the boundary reads (R67, R135). -/
theorem regularBoundary_overheat (mode : e.period.mode = .overheat) :
    regularBoundary e = demandDrop (fun r => e.agesExpired.period.drops.contains r)
      (boundaryAfterTick false ((e.agesExpired.ticked (ticksLeft e)).withExitFlag (cooled e))) := by
  have owed := ticksOwed_at_boundary (s := e) (by rw [mode]; nofun) due
  obtain ⟨x, taken⟩ := takeTicks_overheat mode (Nat.le_refl (ticksOwed e))
  obtain ⟨y, aged_state⟩ : ∃ y, y = (e.agesExpired.ticked (ticksOwed e)).withExitFlag x := ⟨_, rfl⟩
  have mode' : ((e.ticked (ticksOwed e)).withExitFlag x).period.mode = .overheat := mode
  have mode'' : y.period.mode = .overheat := by rw [aged_state]; exact mode
  have still : boundaryDue ((e.ticked (ticksOwed e)).withExitFlag x) = true := by
    unfold boundaryDue
    rw [Bool.and_eq_true, decide_eq_true_eq, Mode.runs_iff, mode']
    exact ⟨nofun, due⟩
  have aged : expireAges ((e.ticked (ticksOwed e)).withExitFlag x) = y := by
    rw [expireAges_eq (fun running => by rw [mode'] at running; cases running), aged_state]
    rfl
  have last : plainTick y = (e.agesExpired.ticked (ticksLeft e)).withExitFlag (cooled e) := by
    have added := congrArg (State.withExitFlag (cooled e)) (ticked_add (ticksOwed e) 1 e.agesExpired)
    rw [plainTick_overheat mode'', accumulate_eq_ticked, aged_state, ticksLeft, ← owed]
    exact added
  have goesOn : flushEnds y.period.eff.period y = false := by
    rw [← Bool.not_eq_true, flushEnds_iff, mode'']
    rintro ⟨flush, -⟩
    cases flush
  unfold regularBoundary
  dsimp only
  rw [taken, if_pos still]
  unfold boundaryWithDrops boundary
  dsimp only
  rw [aged, last, goesOn, aged_state]
  rfl

/-- A RUNNING period below the trip ends with the full pass, and one pass is reported to the store (R73, R78,
R173). -/
theorem regularBoundary_running (mode : e.period.mode = .running) (cool : tooHot e = false)
    (drops : DropsFindNothing e.agesExpired)
    (kept : ∀ r, 0 < derivedDemand (e.rooms.get r) → derivedDemand (e.agesExpired.rooms.get r) ≠ 0) :
    ∃ s, AtPass e.agesExpired (ticksLeft e) s ∧ s.period.mode = .running
      ∧ s = closePeriod (e.agesExpired.ticked (ticksLeft e))
      ∧ regularBoundary e = passReport (planPeriod .full s) := by
  have pass := AtPass.of_ticked e.agesExpired (ticksLeft e)
  refine ⟨_, pass, (closePeriod_mode _).trans mode, rfl, ?_⟩
  have ticked : (e.agesExpired.ticked (ticksLeft e)).period.mode = .running := mode
  rw [regularBoundary_cool due (by rw [mode]; rfl) cool (fun j _ ends => by rw [mode] at ends; cases ends.1)
    fun _ => kept]
  unfold boundaryAfterTick
  simp only [ticked]
  exact demandDrop_finds_nothing pass.reads (.inl rfl) drops (by simp)

end Modes

end Sys2Proof.Machine

/-! The regular boundary of RUNNING, and those of FLUSH and OVERHEAT (R67, R71 to R76, R79, R87 to R105, R131,
R135, R173). -/

namespace Sys2Proof.Machine

/-! ## The row -/

/-- A regular boundary that the elapsed time makes due is taken (R68, R71). -/
theorem exec_regularBoundary {a : Nat} {s : State} (powered : s.powered = true) (runs : s.period.mode ≠ .stopped)
    (due : s.period.eff.period ≤ (elapse a s).period.time) :
    exec (.regularBoundary a) s = .next (driveLines (regularBoundary (elapse a s))) := by
  refine exec_timed_due (f := regularBoundary) (exec_of_powered (c := .regularBoundary a) powered nofun) ?_
  unfold boundaryDue
  rw [Bool.and_eq_true, decide_eq_true_eq, Mode.runs_iff, elapse_mode, elapse_eff]
  exact ⟨runs, due⟩

/-- The supply is too hot or cool after some time as before it (R133). -/
theorem tooHot_elapse (a : Nat) (s : State) : tooHot (elapse a s) = tooHot s :=
  tooHot_congr (elapse_probes a s) (elapse_params a s)

theorem driveLines_starts (x : State) : SameStarts x (driveLines x) := by
  constructor <;> simp

theorem SameStarts.passReport (x : State) : SameStarts x (passReport x) := by
  constructor <;> simp

theorem SameStarts.trans {x y z : State} (first : SameStarts x y) (second : SameStarts y z) : SameStarts x z where
  loops := second.loops.trans first.loops
  channels := second.channels.trans first.channels
  test := second.test.trans first.test
  arb := second.arb.trans first.arb
  eff := second.eff.trans first.eff
  time := second.time.trans first.time
  records := second.records.trans first.records

theorem driveLines_latch (x : State) : (driveLines x).supply.latch = x.supply.latch := rfl

theorem driveLines_exitFlag (x : State) : (driveLines x).supply.exitFlag = x.supply.exitFlag := rfl

theorem driveLines_holdTimer (x : State) : (driveLines x).supply.holdTimer = x.supply.holdTimer := rfl

theorem driveLines_pump (x : State) : (driveLines x).supply.pump = x.supply.pump := rfl

theorem driveLines_bias (x : State) : (driveLines x).supply.bias = x.supply.bias := by simp [driveLines]

theorem closePeriod_supply (x : State) : (closePeriod x).supply = x.supply := closeOut_supply x

/-- Neither time nor age takes a report away (R47). -/
theorem agesExpired_report (a : Nat) (s : State) (r : RoomIx) :
    ((elapse a s).agesExpired.rooms.get r).report = (s.rooms.get r).report := by
  have kept : ((elapse a s).rooms.get r).report = (s.rooms.get r).report := by
    rw [elapse_rooms, Bank.get_imap, Room.elapse_eq]
  rw [← kept, State.agesExpired, Bank.get_imap]
  split <;> rfl

/-! ## RUNNING -/

/-- Settles O48: the full pass, from the state that the ticks still due leave. -/
theorem regularBoundaryLearnsAndPlans : Obligations.RegularBoundaryLearnsAndPlans := by
  intro a rec s powered running records t drops kept due below part
  have mode : (elapse a s).period.mode = .running := (elapse_mode a s).trans running
  have reached : s.period.eff.period ≤ (elapse a s).period.time := due
  have due' : (elapse a s).period.eff.period ≤ (elapse a s).period.time := by
    rw [elapse_eff]
    exact reached
  have cool : tooHot (elapse a s) = false := by
    rw [tooHot_elapse]
    exact tooHot_of_below below
  have demands (r : RoomIx) (before : 0 < derivedDemand ((elapse a s).rooms.get r)) :
      derivedDemand (t.rooms.get r) ≠ 0 := by
    refine kept r ?_
    rwa [elapse_rooms, Bank.get_imap, Room.elapse_eq] at before
  have left : ticksLeft (elapse a s) = (s.period.eff.period - 1 - s.period.lastTick) / 10 + 1 := by
    rw [ticksLeft, elapse_eff, elapse_lastTick]
  obtain ⟨x, pass, x_mode, from_, taken⟩ := regularBoundary_running due' mode cool drops demands
  rw [left] at pass from_
  have params : t.params = s.params := elapse_params a s
  have loops : t.loops = s.loops := elapse_loops a s
  have records' : t.period.records = some rec := by
    show (elapse a s).period.records = _
    rw [elapse_period]
    exact records
  have store : x.store = t.store := by rw [from_, closePeriod_store]; rfl
  have probes : x.probes = t.probes := by rw [from_, closePeriod_probes]; rfl
  have seg : x.seg = t.seg := by rw [from_, closePeriod_seg]; rfl
  have house : x.house = t.house := by rw [from_, closePeriod_house]; rfl
  have supply : x.supply = t.supply := by rw [from_, closePeriod_supply]; rfl
  have same : SameStarts (planPeriod .full x) (driveLines (passReport (planPeriod .full x))) :=
    (SameStarts.passReport _).trans (driveLines_starts _)
  have starts := pass.starts (v := .full) x_mode same (by simp)
  refine ⟨driveLines (passReport (planPeriod .full x)), ?_, starts.mode, starts.time, ?_, ?_, ?_, ?_, ?_,
    starts.begins, ?_, ?_, ?_, ?_, ?_, ?_, ?_, ?_⟩
  · rw [exec_regularBoundary powered (by rw [running]; nofun) reached, taken]
  · rw [starts.eff, params]
  · simp
  · rw [← params]
    exact starts.limit
  · intro i
    rw [← loops]
    exact starts.loop i
  · exact pass.fullPass records' (by simp) (by simp)
  · intro timing starved
    have bias : BiasRecomputed t (driveLines (passReport (planPeriod .full x))) := planPeriod_bias pass.reads x_mode
      (by rw [pass.params, pass.eff, params, timing]; exact (elapse_eff a s).symm)
      (by rw [supply]) (by rw [driveLines_loops, passReport_loops])
      (by rw [driveLines_bias, passReport_supply])
    have condition (i : LoopIx) : (t.channels.get i).condition = (s.channels.get i).condition :=
      elapse_condition a s i
    have report (r : RoomIx) : (t.rooms.get r).report = (s.rooms.get r).report := agesExpired_report a s r
    have before : t.supply.bias = s.supply.bias := by
      show (elapse a s).supply.bias = _
      rw [elapse_supply]
    unfold BiasRecomputed at bias
    dsimp only at bias
    simp only [loops, condition, report, before, params, and_imp] at bias
    simpa only [starved, part, and_assoc, and_imp] using bias
  · exact passReport_reported (s := planPeriod .full x) (by rw [planPeriod_params, pass.params])
      (by rw [planPeriod_store, store]) (by simp [tablesOf]) (driveLines_store _)
  · rw [driveLines_params, passReport_params, planPeriod_params, pass.params, params]
  · rw [driveLines_probes, passReport_probes, planPeriod_probes, probes]
    exact elapse_probes a s
  · rw [driveLines_rooms, passReport_rooms, planPeriod_rooms, pass.rooms]
  · rw [driveLines_seg, passReport_seg, planPeriod_seg, seg]
  · rw [driveLines_house, passReport_house, planPeriod_house, house]
  · intro idle
    rw [driveLines_test, passReport_test]
    refine planPeriod_test_idle ?_ (by rw [pass.arb, closeOut_queue])
    rw [from_]
    refine closeOut_test_idle ?_
    show (elapse a s).test = .idle
    rw [elapse_test, idle]
    rfl

end Sys2Proof.Machine

/-! The regular boundary of FLUSH and of OVERHEAT (R67, R73, R76, R79, R103, R104, R135). -/

namespace Sys2Proof.Machine

/-! ## What the boundary plans from -/

theorem FlushEndsAt.later {t : State} {x y : Nat} (h : FlushEndsAt t x) (le : x ≤ y) : FlushEndsAt t y :=
  ⟨h.1, fun z ran => (h.2 z ran).trans le⟩

/-- A pass without a K update leaves every factor (R102 to R104). -/
theorem planPeriod_factor {v : Variant} (h : v ≠ .full) (s : State) (i : LoopIx) :
    ((planPeriod v s).loops.get i).k = (s.loops.get i).k := by
  rw [planPeriod_loops]
  exact hold_k h s i

/-- The class and on-time that the pass of a FLUSH gives each loop (R103). -/
theorem planPeriod_flush_class {t s : State} (h : PassReads t s) (i : LoopIx) :
    ((t.loops.get i).cfg.enabled = true ∧ (t.channels.get i).condition = .ready →
      ((planPeriod .flush s).loops.get i).cls = .continuous
        ∧ ((planPeriod .flush s).loops.get i).onTime = t.params.timing.period)
    ∧ (¬ ((t.loops.get i).cfg.enabled = true ∧ (t.channels.get i).condition = .ready) →
      ((planPeriod .flush s).loops.get i).cls = .off ∧ ((planPeriod .flush s).loops.get i).onTime = 0) := by
  have part : (hold .flush s i).part = takesPart t i := h.takesPart i
  rw [planPeriod_loops, Loop.withPass, h.params, planned, part, ← takesPart_iff]
  refine ⟨fun yes => ?_, fun no => ?_⟩
  · rw [if_pos yes]
    exact ⟨rfl, rfl⟩
  · rw [if_neg no]
    exact ⟨rfl, rfl⟩

/-- The state that the boundary of an OVERHEAT closes out (R72, R135). -/
def lockoutClosed (e : State) : State :=
  closePeriod ((e.agesExpired.ticked (ticksLeft e)).withExitFlag (cooled e))

theorem lockoutClosed_atPass (e : State) : AtPass e.agesExpired (ticksLeft e) (lockoutClosed e) :=
  .of_closePeriod e.agesExpired (ticksLeft e) { e.supply with exitFlag := cooled e }

theorem lockoutClosed_supply (e : State) : (lockoutClosed e).supply = { e.supply with exitFlag := cooled e } := by
  rw [lockoutClosed, closePeriod_supply]
  rfl

theorem lockoutClosed_mode (e : State) : (lockoutClosed e).period.mode = e.period.mode := by
  rw [lockoutClosed, closePeriod_mode]
  rfl

/-- A pass that is not into RUNNING leaves the supply, any other moves the bias alone (R131). -/
theorem planPeriod_supply_frame (v : Variant) (s : State) :
    (planPeriod v s).supply = { s.supply with bias := (planPeriod v s).supply.bias } := by
  rw [planPeriod_supply, stagePass]
  split
  · rw [updateBias_supply, runPass_supply]
  · rw [runPass_supply]

theorem closeOut_of_released {s : State} (released : ∀ i, (s.channels.get i).energised = false) :
    (closeOut s).channels = s.channels := by
  refine Bank.ext_get fun i => ?_
  rw [closeOut_channels, Channel.afterRelease_of_released (released i), ite_self]

theorem cooled_elapse (a : Nat) (s : State) : cooled (elapse a s) = cooled s := by
  simp [cooled, usableValue]

section Modes

variable {e : State} (due : e.period.eff.period ≤ e.period.time)
include due

/-- A FLUSH that goes on begins a FLUSH period (R73, R103). -/
theorem regularBoundary_flush (mode : e.period.mode = .flush) (cool : tooHot e = false)
    (goesOn : ¬ FlushEndsAt e.agesExpired e.period.eff.period) :
    regularBoundary e = planPeriod .flush (closePeriod (e.agesExpired.ticked (ticksLeft e))) := by
  have ticked : (e.agesExpired.ticked (ticksLeft e)).period.mode = .flush := mode
  have ending : flushEnds e.period.eff.period e.agesExpired = false := by
    rw [← Bool.not_eq_true, flushEnds_iff]
    exact fun ends => goesOn ends.2
  have later (j : Nat) (below : e.period.lastTick + 10 * (j + 1) < e.period.eff.period) :
      ¬ (e.period.mode = .flush ∧ FlushEndsAt e (e.period.lastTick + 10 * (j + 1))) :=
    fun ends => goesOn (FlushEndsAt.later (t := e.agesExpired) ends.2 below.le)
  rw [regularBoundary_cool due (by rw [mode]; rfl) cool later (by rw [mode]; nofun), ending]
  unfold boundaryAfterTick
  simp only [ticked, Bool.false_eq_true, if_false]
  exact demandDrop_of_not_running (by rw [planPeriod_mode, closePeriod_mode, ticked]; nofun) _

/-- A FLUSH that ends at the tick at P enters RUNNING without learning (R73, R79). -/
theorem regularBoundary_flush_ends (mode : e.period.mode = .flush) (cool : tooHot e = false)
    (drops : DropsFindNothing e.agesExpired) (ends : FlushEndsAt e.agesExpired e.period.eff.period)
    (first : ∀ j, e.period.lastTick + 10 * (j + 1) < e.period.eff.period →
      ¬ FlushEndsAt e.agesExpired (e.period.lastTick + 10 * (j + 1))) :
    ∃ s, AtPass e.agesExpired (ticksLeft e) s
      ∧ s = setMode .running (stopFlush (closePeriod (e.agesExpired.ticked (ticksLeft e))))
      ∧ regularBoundary e = planPeriod .forced s := by
  have pass : AtPass e.agesExpired (ticksLeft e)
      (setMode .running (stopFlush (closePeriod (e.agesExpired.ticked (ticksLeft e))))) :=
    ((AtPass.of_ticked e.agesExpired (ticksLeft e)).stopFlush).setMode .running
  refine ⟨_, pass, rfl, ?_⟩
  have ticked : (e.agesExpired.ticked (ticksLeft e)).period.mode = .flush := mode
  have ending : flushEnds e.period.eff.period e.agesExpired = true := flushEnds_iff.mpr ⟨mode, ends⟩
  rw [regularBoundary_cool due (by rw [mode]; rfl) cool (fun j below ends => first j below ends.2)
      (by rw [mode]; nofun),
    ending]
  unfold boundaryAfterTick
  simp only [ticked, if_true]
  exact demandDrop_finds_nothing pass.reads (.inr rfl) drops rfl

/-- An OVERHEAT whose exit condition does not hold at P goes on with every loop OFF (R67, R104). -/
theorem regularBoundary_overheat_stays (mode : e.period.mode = .overheat) (hot : cooled e = false) :
    regularBoundary e = planPeriod .noPass (lockoutClosed e) := by
  have ticked : ((e.agesExpired.ticked (ticksLeft e)).withExitFlag (cooled e)).period.mode = .overheat := mode
  have exits : ((e.agesExpired.ticked (ticksLeft e)).withExitFlag (cooled e)).supply.exitFlag = false := hot
  have after : (planPeriod .noPass (lockoutClosed e)).period.mode = .overheat := by
    rw [planPeriod_mode, lockoutClosed_mode, mode]
  rw [regularBoundary_overheat due mode]
  unfold boundaryAfterTick
  simp only [ticked, exits, Bool.false_eq_true, if_false]
  exact demandDrop_of_not_running (s := planPeriod .noPass (lockoutClosed e)) (by rw [after]; nofun) _

/-- An OVERHEAT whose exit condition holds at P ends, and the full pass enters RUNNING (R67, R135, R173). -/
theorem regularBoundary_overheat_exits (mode : e.period.mode = .overheat) (cool : cooled e = true)
    (drops : DropsFindNothing e.agesExpired) :
    regularBoundary e = passReport (planPeriod .full (setMode .running (endLockout (lockoutClosed e)))) := by
  have ticked : ((e.agesExpired.ticked (ticksLeft e)).withExitFlag (cooled e)).period.mode = .overheat := mode
  have exits : ((e.agesExpired.ticked (ticksLeft e)).withExitFlag (cooled e)).supply.exitFlag = true := cool
  have pass : AtPass e.agesExpired (ticksLeft e) (setMode .running (endLockout (lockoutClosed e))) :=
    ((lockoutClosed_atPass e).endLockout).setMode .running
  rw [regularBoundary_overheat due mode]
  unfold boundaryAfterTick
  simp only [ticked, exits, if_true]
  exact demandDrop_finds_nothing pass.reads (.inl rfl) drops (passReport_loops _)

/-- The FLUSH period that begins where a FLUSH goes on (R73, R103). -/
theorem flush_period_begins (mode : e.period.mode = .flush) (cool : tooHot e = false)
    (goesOn : ¬ FlushEndsAt e.agesExpired e.period.eff.period) :
    ∃ u, driveLines (regularBoundary e) = u ∧ StartsPeriod e.agesExpired u .flush
      ∧ (∀ i, (u.loops.get i).k = (e.loops.get i).k) ∧ u.store = e.store ∧ u.supply.bias = e.supply.bias
      ∧ u.period.flushTimer = e.period.flushTimer
      ∧ ∀ i, ((e.loops.get i).cfg.enabled = true ∧ (e.channels.get i).condition = .ready →
            (u.loops.get i).cls = .continuous ∧ (u.loops.get i).onTime = e.params.timing.period)
          ∧ (¬ ((e.loops.get i).cfg.enabled = true ∧ (e.channels.get i).condition = .ready) →
            (u.loops.get i).cls = .off ∧ (u.loops.get i).onTime = 0) := by
  obtain ⟨x, from_⟩ : ∃ x, x = closePeriod (e.agesExpired.ticked (ticksLeft e)) := ⟨_, rfl⟩
  have pass : AtPass e.agesExpired (ticksLeft e) x := by
    rw [from_]
    exact .of_ticked _ _
  have x_mode : x.period.mode = .flush := by rw [from_, closePeriod_mode]; exact mode
  have taken : regularBoundary e = planPeriod .flush x := by
    rw [from_]
    exact regularBoundary_flush due mode cool goesOn
  refine ⟨driveLines (planPeriod .flush x), by rw [taken],
    pass.starts x_mode (driveLines_starts _) (driveLines_period _), fun i => ?_, ?_, ?_, ?_, fun i => ?_⟩
  · rw [driveLines_loops, planPeriod_factor (v := .flush) nofun, pass.reads.k]
    rfl
  · rw [driveLines_store, planPeriod_store, from_, closePeriod_store]
    rfl
  · rw [driveLines_bias, planPeriod_supply_of_mode (by rw [x_mode]; nofun), from_, closePeriod_supply]
    rfl
  · rw [driveLines_period, planPeriod_flushTimer, from_, closePeriod_flushTimer]
    rfl
  · rw [driveLines_loops]
    exact planPeriod_flush_class pass.reads i

/-- The RUNNING period that begins where a FLUSH ends at P (R73, R79, R102). -/
theorem flush_ends_at_boundary (mode : e.period.mode = .flush) (cool : tooHot e = false)
    (drops : DropsFindNothing e.agesExpired) (ends : FlushEndsAt e.agesExpired e.period.eff.period)
    (first : ∀ j, e.period.lastTick + 10 * (j + 1) < e.period.eff.period →
      ¬ FlushEndsAt e.agesExpired (e.period.lastTick + 10 * (j + 1))) :
    ∃ u, driveLines (regularBoundary e) = u ∧ StartsPeriod e.agesExpired u .running
      ∧ (∀ i, (u.loops.get i).k = (e.loops.get i).k) ∧ u.store = e.store ∧ u.period.flushTimer = none
      ∧ (e.params.timing = e.period.eff → BiasRecomputed e.agesExpired u)
      ∧ ∀ i, ((e.loops.get i).cfg.enabled = true ∧ (e.channels.get i).condition = .ready →
            ClassedAs e.params.timing (e.loops.get i).cfg.policy (loopDemand e.agesExpired i) (e.loops.get i).k
              (u.loops.get i).cls (u.loops.get i).onTime)
          ∧ (¬ ((e.loops.get i).cfg.enabled = true ∧ (e.channels.get i).condition = .ready) →
            (u.loops.get i).cls = .off ∧ (u.loops.get i).onTime = 0) := by
  obtain ⟨x, pass, from_, taken⟩ := regularBoundary_flush_ends due mode cool drops ends first
  have x_mode : x.period.mode = .running := by rw [from_]; rfl
  have k (i : LoopIx) : ((planPeriod .forced x).loops.get i).k = (e.loops.get i).k := by
    rw [planPeriod_factor (v := .forced) nofun, pass.reads.k]
    rfl
  have supply : x.supply = e.supply := by
    have stopped (y : State) : (setMode .running (stopFlush y)).supply = y.supply := rfl
    rw [from_, stopped, closePeriod_supply]
    rfl
  refine ⟨driveLines (planPeriod .forced x), by rw [taken],
    pass.starts x_mode (driveLines_starts _) (driveLines_period _), fun i => ?_, ?_, ?_, fun timing => ?_,
    fun i => ?_⟩
  · rw [driveLines_loops, k]
  · have stopped (y : State) : (setMode .running (stopFlush y)).store = y.store := rfl
    rw [driveLines_store, planPeriod_store, from_, stopped, closePeriod_store]
    rfl
  · rw [driveLines_period, planPeriod_flushTimer, from_]
    rfl
  · exact planPeriod_bias pass.reads x_mode (by rw [pass.params, pass.eff]; exact timing) (by rw [supply]; rfl)
      (driveLines_loops _) (driveLines_bias _)
  · obtain ⟨classed, out⟩ := planPeriod_class pass.reads (.inr rfl) i
    rw [k] at classed
    rw [driveLines_loops]
    exact ⟨classed, fun no => (out no).2⟩

/-- The OVERHEAT period that begins where the exit condition does not hold (R67, R104, R134). -/
theorem overheat_period_begins (mode : e.period.mode = .overheat) (lockout : PumpFollowsFlow e)
    (hot : cooled e = false) :
    ∃ u, driveLines (regularBoundary e) = u ∧ StartsPeriod e.agesExpired u .overheat
      ∧ (∀ i, (u.loops.get i).k = (e.loops.get i).k) ∧ u.store = e.store
      ∧ (∀ i, (u.loops.get i).cls = .off ∧ (u.loops.get i).onTime = 0 ∧ (u.channels.get i).energised = false)
      ∧ u.arb.plan = [] ∧ u.arb.queue = []
      ∧ u.supply.latch = true ∧ u.supply.exitFlag = false ∧ u.supply.pump = .off
      ∧ u.supply.bias = e.supply.bias := by
  obtain ⟨x, from_⟩ : ∃ x, x = lockoutClosed e := ⟨_, rfl⟩
  have pass : AtPass e.agesExpired (ticksLeft e) x := by
    rw [from_]
    exact lockoutClosed_atPass e
  have x_mode : x.period.mode = .overheat := by rw [from_, lockoutClosed_mode, mode]
  have taken : regularBoundary e = planPeriod .noPass x := by
    rw [from_]
    exact regularBoundary_overheat_stays due mode hot
  have supply : (planPeriod .noPass x).supply = { e.supply with exitFlag := false } := by
    rw [planPeriod_supply_of_mode (by rw [x_mode]; nofun), from_, lockoutClosed_supply, hot]
  have after := lockout.regularBoundary
  rw [taken] at after
  obtain ⟨latched, locked, -, -⟩ := after
  have latch : (planPeriod .noPass x).supply.latch = true := latched.mpr (by rw [planPeriod_mode, x_mode])
  obtain ⟨released, queue, plan, pump⟩ := locked latch
  refine ⟨driveLines (planPeriod .noPass x), by rw [taken],
    pass.starts x_mode (driveLines_starts _) (driveLines_period _), fun i => ?_, ?_, fun i => ⟨?_, ?_, ?_⟩,
    by rw [driveLines_arb, plan], by rw [driveLines_arb, queue], by rw [driveLines_latch, latch],
    by rw [driveLines_exitFlag, supply], by rw [driveLines_pump, pump], by rw [driveLines_bias, supply]⟩
  · rw [driveLines_loops, planPeriod_factor (v := .noPass) nofun, pass.reads.k]
    rfl
  · rw [driveLines_store, planPeriod_store, from_, lockoutClosed, closePeriod_store]
    rfl
  · rw [driveLines_loops, planPeriod_loops]
    rfl
  · rw [driveLines_loops, planPeriod_loops]
    rfl
  · rw [driveLines_channels, released]

/-- The RUNNING period that begins where the exit condition holds: the lockout has ended, the loops have learned,
one pass is reported (R67, R135, R173). -/
theorem overheat_ends_at_boundary {rec : Bank PeriodRecord 16} (mode : e.period.mode = .overheat)
    (lockout : PumpFollowsFlow e) (ended : cooled e = true) (drops : DropsFindNothing e.agesExpired)
    (records : e.period.records = some rec) :
    ∃ u, driveLines (regularBoundary e) = u ∧ StartsPeriod e.agesExpired u .running
      ∧ FullPass e.agesExpired u rec (ticksLeft e) ∧ PassReported e.agesExpired u
      ∧ (e.params.timing = e.period.eff → BiasRecomputed e.agesExpired u)
      ∧ u.supply.latch = false ∧ u.supply.exitFlag = false ∧ u.supply.holdTimer = none
      ∧ u.supply.pump = (if 0 < flowCount e.channels then .on else .off) := by
  obtain ⟨x, from_⟩ : ∃ x, x = setMode .running (endLockout (lockoutClosed e)) := ⟨_, rfl⟩
  have pass : AtPass e.agesExpired (ticksLeft e) x := by
    rw [from_]
    exact ((lockoutClosed_atPass e).endLockout).setMode .running
  have x_mode : x.period.mode = .running := by rw [from_]; rfl
  have taken : regularBoundary e = passReport (planPeriod .full x) := by
    rw [from_]
    exact regularBoundary_overheat_exits due mode ended drops
  obtain ⟨latched, locked, -, -⟩ := lockout
  have released := (locked (latched.mpr mode)).1
  have channels : (lockoutClosed e).channels = e.channels :=
    (lockoutClosed_atPass e).channels.trans
      (closeOut_of_released (s := e.agesExpired.ticked (ticksLeft e)) released)
  have supply : x.supply = { e.supply with
      latch := false, exitFlag := false, pump := if 0 < flowCount e.channels then .on else .off
      holdTimer := none } := by
    rw [← channels, from_]
    have running (y : State) : (setMode .running (endLockout y)).supply = { y.supply with
        latch := false, exitFlag := false, pump := if 0 < flowCount y.channels then .on else .off
        holdTimer := none } := rfl
    rw [running, lockoutClosed_supply]
  have store : x.store = e.store := by
    have running (y : State) : (setMode .running (endLockout y)).store = y.store := rfl
    rw [from_, running, lockoutClosed, closePeriod_store]
    rfl
  obtain ⟨u, after⟩ : ∃ u, u = driveLines (passReport (planPeriod .full x)) := ⟨_, rfl⟩
  have frame : (passReport (planPeriod .full x)).supply =
      { x.supply with bias := (planPeriod .full x).supply.bias } := by
    rw [passReport_supply]
    exact planPeriod_supply_frame _ _
  have loops : u.loops = (planPeriod .full x).loops := by rw [after, driveLines_loops, passReport_loops]
  have engine : u.period = (planPeriod .full x).period := by rw [after, driveLines_period, passReport_period]
  have same : SameStarts (planPeriod .full x) u := by
    rw [after]
    exact (SameStarts.passReport _).trans (driveLines_starts _)
  rw [supply] at frame
  refine ⟨u, by rw [after, taken], pass.starts x_mode same engine, pass.fullPass records loops (by rw [engine]), ?_,
    fun timing => ?_, by rw [after, driveLines_latch, frame], by rw [after, driveLines_exitFlag, frame],
    by rw [after, driveLines_holdTimer, frame], by rw [after, driveLines_pump, frame]⟩
  · exact passReport_reported (s := planPeriod .full x) (by rw [planPeriod_params, pass.params])
      (by rw [planPeriod_store, store]; rfl) (by rw [after]; simp [tablesOf]) (by rw [after, driveLines_store])
  · exact planPeriod_bias pass.reads x_mode (by rw [pass.params, pass.eff]; exact timing) (by rw [supply]; rfl)
      loops (by rw [after, driveLines_bias, passReport_supply])

end Modes

/-! ## The boundary outside RUNNING -/

/-- Settles O49, by the mode in which the period ends and by the tick at P. -/
theorem boundaryOutsideRunning : Obligations.BoundaryOutsideRunning := by
  intro a s powered t drops due part cool exits ends starts kept
  obtain ⟨e, elapsed⟩ : ∃ e, e = elapse a s := ⟨_, rfl⟩
  have t_eq : t = e.agesExpired := by rw [elapsed]
  have mode : e.period.mode = s.period.mode := by rw [elapsed, elapse_mode]
  have eff : e.period.eff = s.period.eff := by rw [elapsed, elapse_eff]
  have lastTick : e.period.lastTick = s.period.lastTick := by rw [elapsed, elapse_lastTick]
  have params : e.params = s.params := by rw [elapsed, elapse_params]
  have loops : e.loops = s.loops := by rw [elapsed, elapse_loops]
  have condition (i : LoopIx) : (e.channels.get i).condition = (s.channels.get i).condition := by
    rw [elapsed, elapse_condition]
  have bias : e.supply.bias = s.supply.bias := by rw [elapsed, elapse_supply]
  have left : ticksLeft e = (s.period.eff.period - 1 - s.period.lastTick) / 10 + 1 := by rw [ticksLeft, eff, lastTick]
  have reached : e.period.eff.period ≤ e.period.time := by
    rw [eff]
    rw [t_eq] at due
    exact due
  have cold (below : cool) : tooHot e = false := by
    rw [elapsed, tooHot_elapse]
    exact tooHot_of_below below
  have exits_iff : exits ↔ cooled e = true := by
    rw [elapsed, cooled_elapse, cooled_iff]
    exact ⟨fun ⟨ok, f, value, low⟩ => ⟨f, ⟨ok, value⟩, low⟩, fun ⟨f, ⟨ok, value⟩, low⟩ => ⟨ok, f, value, low⟩⟩
  have locked (lockout : PumpFollowsFlow s) : PumpFollowsFlow e := by
    rw [elapsed]
    exact PumpFollowsFlow.elapseMs lockout _
  have begun {u : State} {m : Mode} (runs : s.period.mode ≠ .stopped) (taken : driveLines (regularBoundary e) = u)
      (begins : StartsPeriod e.agesExpired u m) : starts m u := by
    obtain ⟨mode, time, latched, limit, loop, summary, begins⟩ := begins
    have row := exec_regularBoundary powered runs (a := a) (by rw [← elapsed, ← eff]; exact reached)
    rw [← elapsed, taken] at row
    refine ⟨row, mode, time, ?_, ?_, ?_, summary, t_eq ▸ begins⟩
    · rw [← params]
      exact latched
    · rw [← params]
      exact limit
    · rw [← loops]
      exact loop
  have store : t.store = e.store := by rw [t_eq]; rfl
  have timer : t.period.flushTimer = e.period.flushTimer := by rw [t_eq]; rfl
  have rows : t.channels = e.channels := by rw [t_eq]; rfl
  rw [t_eq] at drops
  refine ⟨fun flush below goesOn => ?flush, fun flush below last => ?ends, fun overheat lockout hot => ?stays,
    fun rec overheat lockout met records => ?exits⟩
  case flush =>
    rw [t_eq] at goesOn
    obtain ⟨u, taken, begins, k, store', bias', timer', classes⟩ :=
      flush_period_begins reached (mode.trans flush) (cold below) (by rw [eff]; exact goesOn)
    simp only [loops, condition, params] at k classes
    exact ⟨u, begun (by rw [flush]; nofun) taken begins, ⟨k, store'.trans store.symm⟩, bias'.trans bias,
      timer'.trans timer.symm, classes⟩
  case ends =>
    obtain ⟨now, first⟩ := last
    rw [t_eq] at now first
    obtain ⟨u, taken, begins, k, store', timer', biased, classes⟩ :=
      flush_ends_at_boundary reached (mode.trans flush) (cold below) drops (by rw [eff]; exact now)
        (by rw [eff, lastTick]; exact first)
    simp only [loops, condition, params, eff, ← t_eq] at k classes biased
    exact ⟨u, begun (by rw [flush]; nofun) taken begins, ⟨k, store'.trans store.symm⟩, timer', biased, classes⟩
  case stays =>
    rw [exits_iff, Bool.not_eq_true] at hot
    obtain ⟨u, taken, begins, k, store', classes, plan, queue, latch, exitFlag, pump, bias'⟩ :=
      overheat_period_begins reached (mode.trans overheat) (locked lockout) hot
    simp only [loops] at k
    exact ⟨u, begun (by rw [overheat]; nofun) taken begins, ⟨k, store'.trans store.symm⟩, classes, plan, queue,
      latch, exitFlag, pump, bias'.trans bias⟩
  case exits =>
    have records' : e.period.records = some rec := by
      rw [elapsed, elapse_period]
      exact records
    obtain ⟨u, taken, begins, pass, reported, biased, latch, exitFlag, holdTimer, pump⟩ :=
      overheat_ends_at_boundary reached (mode.trans overheat) (locked lockout) (exits_iff.mp met) drops records'
    rw [left, ← t_eq] at pass
    rw [params, eff, ← t_eq] at biased
    rw [← t_eq] at reported
    exact ⟨u, begun (by rw [overheat]; nofun) taken begins, pass, reported, biased, latch, exitFlag, holdTimer,
      by rw [rows]; exact pump⟩

end Sys2Proof.Machine

/-! Demand drops: what an event of the Room Table closes (R50, R78, R80). -/

namespace Sys2Proof.Machine

/-! ## What a report of demand drops leaves -/

/-- The loop's record with the class OFF that an early close gives it, and no start left to it (R80). -/
structure ClosedIn (s t : State) (i : LoopIx) : Prop where
  loop : t.loops.get i = { s.loops.get i with cls := .off, onTime := 0 }
  released : (t.channels.get i).energised = false
  queue : .loop i ∉ t.arb.queue
  plan : ∀ e ∈ t.arb.plan, e.loop ≠ i

/-- A loop that a demand drop does not close: its record stays, and its channel is not released (R80). -/
structure NotClosedIn (s t : State) (i : LoopIx) : Prop where
  loop : t.loops.get i = s.loops.get i
  energised : (s.channels.get i).energised = true → (t.channels.get i).energised = true

/-- A demand drop taken in RUNNING (R80). -/
theorem demandDrop_closes {rooms : RoomIx → Bool} {s : State} {b : Bank PeriodRecord 16}
    (running : s.period.mode = .running) (records : s.period.records = some b)
    (tests : ∀ i, .test i ∉ s.arb.queue) :
    ∃ b', (demandDrop rooms s).period.records = some b' ∧ ∀ i,
      (b'.get i).cls = (b.get i).cls ∧ (b'.get i).onTime = (b.get i).onTime
      ∧ (droppedLoop rooms s i = true → ClosedIn s (demandDrop rooms s) i ∧ (b'.get i).closedEarly = true)
      ∧ (droppedLoop rooms s i = false →
          NotClosedIn s (demandDrop rooms s) i ∧ (b'.get i).closedEarly = (b.get i).closedEarly) := by
  obtain ⟨sel, which⟩ : ∃ sel, sel = droppedLoop rooms s := ⟨_, rfl⟩
  have closed : demandDrop rooms s = closeLoops sel (markClosed sel s) := by
    rw [which]
    exact if_pos running
  have marked : (markClosed sel s).period.records =
      some (b.imap fun i r => if sel i then { r with closedEarly := true } else r) := congrArg (Option.map _) records
  obtain ⟨b', after, same⟩ := GrantsRecorded.closeLoops sel _ _ marked
  have loops (i : LoopIx) : (closeLoops sel (markClosed sel s)).loops.get i =
      if sel i then { s.loops.get i with cls := .off, onTime := 0 } else s.loops.get i := by
    rw [closeLoops_loops, markClosed_loops]
    rfl
  rw [closed, ← which]
  refine ⟨b', after, fun i => ?_⟩
  obtain ⟨early, cls, onTime⟩ := same i
  rw [Bank.get_imap] at early cls onTime
  by_cases selected : sel i = true
  · rw [if_pos selected] at early cls onTime
    refine ⟨cls, onTime, fun _ => ⟨?_, early⟩, fun other => by rw [selected] at other; cases other⟩
    obtain ⟨start, released⟩ := closeLoops_selected (s := markClosed sel s) selected (tests i)
    exact ⟨by rw [loops, if_pos selected], released, start.loop, start.plan⟩
  · rw [if_neg selected] at early cls onTime
    refine ⟨cls, onTime, fun yes => absurd yes selected, fun other => ⟨⟨by rw [loops, if_neg selected], ?_⟩, early⟩⟩
    exact closeLoops_not_selected (s := markClosed sel s) other

/-- Rooms changed in RUNNING (R50, R78): the loops of the rooms that drop now close, the reports of the others
wait for the boundary. -/
theorem changeRooms_closes {f : RoomIx → Room → Room} {s : State} {b : Bank PeriodRecord 16}
    (running : s.period.mode = .running) (records : s.period.records = some b)
    (tests : ∀ i, .test i ∉ s.arb.queue) :
    let fell (r : RoomIx) : Bool := 0 < derivedDemand (s.rooms.get r) && derivedDemand (f r (s.rooms.get r)) = 0
    let now (r : RoomIx) : Bool := fell r && !dropWaits s r
    ∃ b', (changeRooms f s).period.records = some b' ∧ (∀ i,
        (b'.get i).cls = (b.get i).cls ∧ (b'.get i).onTime = (b.get i).onTime
        ∧ (droppedLoop now s i = true → ClosedIn s (changeRooms f s) i ∧ (b'.get i).closedEarly = true)
        ∧ (droppedLoop now s i = false →
            NotClosedIn s (changeRooms f s) i ∧ (b'.get i).closedEarly = (b.get i).closedEarly))
      ∧ s.period.RecordsOnly { (changeRooms f s).period with drops := s.period.drops }
      ∧ ∀ r, r ∈ (changeRooms f s).period.drops ↔ r ∈ s.period.drops ∨ fell r = true ∧ dropWaits s r = true := by
  intro fell now
  obtain ⟨w, held⟩ : ∃ w, w = holdDrops (fun r => fell r && dropWaits s r) (s.setRooms (s.rooms.imap f)) := ⟨_, rfl⟩
  have changed : changeRooms f s = demandDrop now w
      ∨ changeRooms f s = (demandDrop now w).setDraws (s.draws + 1) := by
    have drops : (fun r => (0 < derivedDemand (s.rooms.get r)
        && derivedDemand ((s.setRooms (s.rooms.imap f)).rooms.get r) = 0 : Bool)) = fell := by
      funext r
      rw [State.setRooms_rooms, Bank.get_imap]
    have reported : changeRooms f s = reportDrops fell (s.setRooms (s.rooms.imap f)) := by
      rw [← drops]
      rfl
    rw [reported, held]
    unfold reportDrops
    dsimp only
    split
    · exact .inr rfl
    · exact .inl rfl
  have frame : ∃ y, y = demandDrop now w ∧ (changeRooms f s).loops = y.loops
      ∧ (changeRooms f s).channels = y.channels ∧ (changeRooms f s).arb = y.arb
      ∧ (changeRooms f s).period = y.period := by
    obtain same | drawn := changed
    · exact ⟨_, rfl, by rw [same], by rw [same], by rw [same], by rw [same]⟩
    · exact ⟨_, rfl, by rw [drawn]; rfl, by rw [drawn]; rfl, by rw [drawn]; rfl, by rw [drawn]; rfl⟩
  obtain ⟨y, taken, loops, channels, arb, period⟩ := frame
  have w_frame : w.loops = s.loops ∧ w.channels = s.channels ∧ w.arb = s.arb
      ∧ w.period.mode = s.period.mode ∧ w.period.records = s.period.records := by
    rw [held]
    exact ⟨rfl, rfl, rfl, rfl, rfl⟩
  obtain ⟨w_loops, w_channels, w_arb, w_mode, w_records⟩ := w_frame
  obtain ⟨b', after, closes⟩ := demandDrop_closes (rooms := now) (w_mode.trans running) (w_records.trans records)
    (by rw [w_arb]; exact tests)
  have same (i : LoopIx) : droppedLoop now w i = droppedLoop now s i := by
    unfold droppedLoop
    rw [w_loops]
  have only := demandDrop_period now w
  rw [← taken] at after closes only
  refine ⟨b', period ▸ after, fun i => ?_, ?_, fun r => ?_⟩
  · obtain ⟨cls, onTime, closed, kept⟩ := closes i
    rw [same] at closed kept
    refine ⟨cls, onTime, fun yes => ?_, fun no => ?_⟩
    · obtain ⟨⟨loop, released, queue, plan⟩, early⟩ := closed yes
      exact ⟨⟨by rw [loops, loop, w_loops], by rw [channels]; exact released, by rw [arb]; exact queue,
        by rw [arb]; exact plan⟩, early⟩
    · obtain ⟨⟨loop, energised⟩, early⟩ := kept no
      exact ⟨⟨by rw [loops, loop, w_loops], by rw [channels, ← w_channels]; exact energised⟩, early⟩
  · rw [period]
    unfold PeriodEngine.RecordsOnly at only ⊢
    rw [only, held]
    rfl
  · rw [period, only.drops, held]
    simp only [holdDrops, State.setPeriod, State.setRooms, List.mem_append, List.mem_filter, allRooms,
      List.mem_finRange, true_and, Bool.and_eq_true, Bool.not_eq_true', List.contains_eq_mem,
      decide_eq_false_iff_not]
    tauto

end Sys2Proof.Machine

/-! Events of the Room Table (R50): which commands they are, and what each closes. -/

namespace Sys2Proof.Machine

/-! ## Events of the Room Table -/

/-- The second state is the first in what a demand drop reads and in what it leaves: only time, the segment and
the ports have moved. -/
structure DropReads (s u : State) : Prop where
  loops : u.loops = s.loops
  energised : ∀ i, (u.channels.get i).energised = (s.channels.get i).energised
  queue : u.arb.queue = s.arb.queue
  mode : u.period.mode = s.period.mode
  eff : u.period.eff = s.period.eff
  records : u.period.records = s.period.records
  drops : u.period.drops = s.period.drops
  summary : u.period.summary = s.period.summary
  draws : u.draws = s.draws
  probes : u.probes = s.probes
  store : u.store = { s.store with saveLeft := u.store.saveLeft }
  demand : ∀ r, derivedDemand (u.rooms.get r) = derivedDemand (s.rooms.get r)

/-- The second state is the first but for the ports, the segment, the tables' parameters and the supply; of the
store only the autosave count moves with its interval (R160). -/
structure PortsOnly (y t : State) : Prop where
  loops : t.loops = y.loops
  channels : t.channels = y.channels
  arb : t.arb = y.arb
  period : t.period = y.period
  rooms : t.rooms = y.rooms
  probes : t.probes = y.probes
  store : t.store = { y.store with autosave := t.store.autosave }
  autosave : t.store.autosave = y.store.autosave
    ∨ t.store.autosave = min y.store.autosave t.params.g3.autosave

/-- Rooms have changed by one event of the Room Table, with its report of demand drops (R50). -/
def RoomEvent (s t : State) : Prop :=
  ∃ (u : State) (f : RoomIx → Room → Room), DropReads s u ∧ PortsOnly (changeRooms f u) t

namespace DropReads

variable {s t u : State}

theorem refl (s : State) : DropReads s s := ⟨rfl, fun _ => rfl, rfl, rfl, rfl, rfl, rfl, rfl, rfl, rfl, rfl, fun _ => rfl⟩

theorem trans (a : DropReads s t) (b : DropReads t u) : DropReads s u where
  loops := b.loops.trans a.loops
  energised i := (b.energised i).trans (a.energised i)
  queue := b.queue.trans a.queue
  mode := b.mode.trans a.mode
  eff := b.eff.trans a.eff
  records := b.records.trans a.records
  drops := b.drops.trans a.drops
  summary := b.summary.trans a.summary
  draws := b.draws.trans a.draws
  probes := b.probes.trans a.probes
  store := by rw [b.store, a.store]
  demand r := (b.demand r).trans (a.demand r)

theorem elapse (a : Nat) (s : State) : DropReads s (elapse a s) where
  loops := elapse_loops a s
  energised := elapse_energised a s
  queue := elapse_queue a s
  mode := elapse_mode a s
  eff := elapse_eff a s
  records := by rw [elapse_period]; rfl
  drops := by rw [elapse_period]; rfl
  summary := by rw [elapse_period]; rfl
  draws := elapse_draws a s
  probes := elapse_probes a s
  store := by rw [elapse_store]
  demand r := by rw [elapse_rooms, Bank.get_imap, Room.elapse_demand]

end DropReads

namespace PortsOnly

variable {s t u : State}

theorem refl (s : State) : PortsOnly s s := ⟨rfl, rfl, rfl, rfl, rfl, rfl, rfl, .inl rfl⟩

/-- What leaves the tables, the parameters and the store may follow. -/
theorem after (h : PortsOnly s t) (loops : u.loops = t.loops) (channels : u.channels = t.channels)
    (arb : u.arb = t.arb) (period : u.period = t.period) (rooms : u.rooms = t.rooms) (probes : u.probes = t.probes)
    (store : u.store = t.store) (params : u.params = t.params) : PortsOnly s u where
  loops := loops.trans h.loops
  channels := channels.trans h.channels
  arb := arb.trans h.arb
  period := period.trans h.period
  rooms := rooms.trans h.rooms
  probes := probes.trans h.probes
  store := by rw [store]; exact h.store
  autosave := by rw [store, params]; exact h.autosave

end PortsOnly

namespace RoomEvent

variable {s t u : State}

theorem changeRooms (f : RoomIx → Room → Room) (s : State) : RoomEvent s (changeRooms f s) :=
  ⟨s, f, .refl s, .refl _⟩

theorem of_ports (h : PortsOnly s t) : RoomEvent s t := by
  have same : Machine.changeRooms (fun _ v => v) s = s := by
    rw [changeRooms_of_no_drop fun _ before after => by omega]
    have rooms : (s.rooms.imap fun _ v => v) = s.rooms := Bank.imap_eq_self _ _ fun _ => rfl
    rw [rooms]
    rfl
  exact ⟨s, fun _ v => v, .refl s, by rw [same]; exact h⟩

theorem refl (s : State) : RoomEvent s s := of_ports (.refl s)

theorem before (reads : DropReads s t) (h : RoomEvent t u) : RoomEvent s u := by
  obtain ⟨w, f, reads', ports⟩ := h
  exact ⟨w, f, reads.trans reads', ports⟩

theorem after (h : RoomEvent s t) (loops : u.loops = t.loops) (channels : u.channels = t.channels)
    (arb : u.arb = t.arb) (period : u.period = t.period) (rooms : u.rooms = t.rooms) (probes : u.probes = t.probes)
    (store : u.store = t.store) (params : u.params = t.params) : RoomEvent s u := by
  obtain ⟨w, f, reads, ports⟩ := h
  exact ⟨w, f, reads, ports.after loops channels arb period rooms probes store params⟩

/-- Whatever leaves the tables, the parameters and the store is no event of the Room Table. -/
theorem of_quiet (loops : u.loops = s.loops) (channels : u.channels = s.channels)
    (arb : u.arb = s.arb) (period : u.period = s.period) (rooms : u.rooms = s.rooms) (probes : u.probes = s.probes)
    (store : u.store = s.store) (params : u.params = s.params) : RoomEvent s u :=
  (refl s).after loops channels arb period rooms probes store params

end RoomEvent

/-! ## Which commands they are -/

theorem RoomEvent.ownWriteRoom (p : List Byte) (s : State) : RoomEvent s (ownWriteRoom p s).2 := by
  unfold Machine.ownWriteRoom
  split
  · split
    · rw [writeRoomRecord_eq]
      refine RoomEvent.before ?_ (.changeRooms _ _)
      exact ⟨rfl, fun _ => rfl, rfl, rfl, rfl, rfl, rfl, rfl, rfl, rfl, rfl, fun _ => rfl⟩
    · exact .refl s
  · exact .refl s

theorem RoomEvent.ownWriteManifold (p : List Byte) (s : State) : RoomEvent s (ownWriteManifold p s).2 := by
  unfold Machine.ownWriteManifold
  split
  · exact .of_ports ⟨rfl, rfl, rfl, rfl, rfl, rfl, rfl, .inl rfl⟩
  · unfold writeGroup1
    dsimp only
    split
    · dsimp only
      split <;> exact .of_ports ⟨rfl, rfl, rfl, rfl, rfl, rfl, rfl, .inl rfl⟩
    · exact .refl s
  · unfold writeGroup2 expireAges
    dsimp only
    refine RoomEvent.before ?_ (.changeRooms _ _)
    exact ⟨rfl, fun _ => rfl, rfl, rfl, rfl, rfl, rfl, rfl, rfl, rfl, rfl, fun _ => rfl⟩
  · unfold writeGroup3
    split
    · refine .of_ports ⟨rfl, rfl, rfl, rfl, rfl, rfl, rfl, .inr ?_⟩
      exact countForInterval_eq_min _ _
    · exact .refl s
  · exact .refl s

/-- A SEND to an owner whose effect is such an event (R144). -/
theorem RoomEvent.ownSend {owner : Owner} (h : ∀ p s, RoomEvent s (owner p s).2) (k : SendKind) (f : SendFrame)
    (s : State) : RoomEvent s (ownSend k owner f s) := by
  unfold Machine.ownSend
  split
  · exact .refl s
  · dsimp only
    split
    · apply of_quiet <;> simp
    · next len rest _ =>
      split
      · apply of_quiet <;> simp
      · split
        · apply of_quiet <;> simp
        · split
          · apply of_quiet <;> simp
          · split
            · apply of_quiet <;> simp
            · exact (h (rest.take len.toNat) s).after (by simp) (by simp) (by simp) (by simp) (by simp) (by simp)
                (by simp) (by simp)

theorem RoomEvent.deliverPoll (r : RoomIx) (x : Transaction) (e : RoomEnding) (s : State) :
    RoomEvent s (deliverPoll r x e s) := by
  unfold Machine.deliverPoll
  split
  · split
    · exact .changeRooms _ s
    · exact .changeRooms _ s
  · exact .refl s

theorem RoomEvent.endTransaction (e : RoomEnding) (k : Option Nat) (s : State) :
    RoomEvent s (endTransaction e k s) := by
  unfold Machine.endTransaction
  split
  · exact .refl s
  · exact .refl s
  · next r x _ =>
    dsimp only
    split
    · apply of_quiet <;> simp
    · refine RoomEvent.before (t := leaveSegment x pollLengths e s)
        ⟨rfl, fun _ => rfl, rfl, rfl, rfl, rfl, rfl, rfl, rfl, rfl, rfl, fun _ => rfl⟩ ?_
      refine (RoomEvent.deliverPoll r x e _).after ?_ ?_ ?_ ?_ ?_ ?_ ?_ ?_ <;> simp
  · dsimp only
    split <;> (apply of_quiet <;> simp)

/-- The frame of a transaction with the own header, when it is a write of rooms or of the manifold (log 1). -/
theorem RoomEvent.houseTransaction {bytes : List Byte} (writes : writesRooms bytes) (k : Option Nat) (m : Mark)
    (s : State) : RoomEvent s (houseTransaction (headerByte s.house.own false) bytes k m s) := by
  unfold Machine.houseTransaction
  rw [headerAddress_headerByte, headerIsFetch_headerByte, if_pos rfl]
  split
  · exact .refl s
  · cases bytes with
    | nil => exact writes.elim nofun nofun
    | cons kind rest =>
      unfold ownTransaction
      obtain room | manifold := writes
      · obtain rfl : kind = SendKind.writeRoom.code := Option.some.inj room
        exact RoomEvent.ownSend .ownWriteRoom .writeRoom ⟨rest, m⟩ s
      · obtain rfl : kind = SendKind.writeManifold.code := Option.some.inj manifold
        exact RoomEvent.ownSend .ownWriteManifold .writeManifold ⟨rest, m⟩ s

/-- The commands that can change a room's demand are events of the Room Table (R50). -/
theorem commandEffect_roomEvent {s : State} {c : Instr} (h : ChangesDemand s c) :
    RoomEvent s (commandEffect c s) ∧ pinFollows c s = s := by
  cases c with
  | writeRoom f => exact ⟨.ownSend .ownWriteRoom _ f s, rfl⟩
  | writeManifoldGroup0 f => exact ⟨.ownSend .ownWriteManifold _ f s, rfl⟩
  | writeManifoldGroup1 f => exact ⟨.ownSend .ownWriteManifold _ f s, rfl⟩
  | writeManifoldGroup2 f => exact ⟨.ownSend .ownWriteManifold _ f s, rfl⟩
  | writeManifoldGroup3 f => exact ⟨.ownSend .ownWriteManifold _ f s, rfl⟩
  | forwardOffer header bytes k m =>
    obtain ⟨rfl, writes⟩ := h
    exact ⟨.houseTransaction writes k m s, rfl⟩
  | roomTransactionEnd e turn =>
    refine ⟨(RoomEvent.endTransaction e turn.nackAt s).after ?_ ?_ ?_ ?_ ?_ ?_ ?_ ?_, rfl⟩ <;>
      simp [commandEffect]
  | ageExpiry r a =>
    refine ⟨RoomEvent.before (.elapse a s) ?_, rfl⟩
    show RoomEvent _ (if _ then _ else _)
    split
    · exact .changeRooms _ _
    · exact .refl _
  | _ => exact h.elim

/-! ## What they close -/

theorem dropWaits_eq_false {s : State} {r : RoomIx} (running : s.period.mode = .running) :
    dropWaits s r = false ↔
      s.period.time < s.period.eff.period ∨ Config.dropAfterBoundary s.draws r = false := by
  unfold dropWaits boundaryDue
  rw [running]
  simp [Mode.runs, imp_iff_not_or]

theorem droppedLoop_iff {rooms : RoomIx → Bool} {s : State} {i : LoopIx} : droppedLoop rooms s i = true ↔
    (s.loops.get i).cfg.enabled = true ∧ (s.loops.get i).cls ≠ .off
      ∧ ∃ r, (s.loops.get i).cfg.room = some r ∧ rooms r = true := by
  simp [droppedLoop, Option.any_eq_true, and_assoc]

theorem changeRooms_time (f : RoomIx → Room → Room) (s : State) :
    (changeRooms f s).period.time = s.period.time := by
  unfold changeRooms reportDrops
  dsimp only
  split <;> exact (demandDrop_period _ _).time

/-- Settles O39: every such command is one event of the Room Table. -/
theorem demandDropClosesLoops : Obligations.DemandDropClosesLoops := by
  intro b s powered running records tests
  refine ⟨fun c t changes row => ?closes, fun r x j k m polling going fresh address demand fallback lost => ?poll⟩
  case closes =>
    intro dropped now closed
    obtain ⟨event, pin⟩ := commandEffect_roomEvent changes
    have ended : t = driveLines (commandEffect c s) := by
      obtain taken | ⟨off, -⟩ := exec_next row
      · rwa [pin] at taken
      · rw [powered] at off
        cases off
    obtain ⟨u, f, reads, ports⟩ : RoomEvent s t := by
      rw [ended]
      refine event.after ?_ ?_ ?_ ?_ ?_ ?_ ?_ ?_ <;> simp
    have u_running : u.period.mode = .running := reads.mode.trans running
    obtain ⟨b', after, loops, period, drops⟩ := changeRooms_closes (f := f) u_running (reads.records.trans records)
      (by rw [reads.queue]; exact tests)
    have dropped_iff (r : RoomIx) : dropped r ↔ (0 < derivedDemand (u.rooms.get r)
        && derivedDemand (f r (u.rooms.get r)) = 0 : Bool) = true := by
      have rooms : t.rooms.get r = f r (u.rooms.get r) := by
        rw [ports.rooms, changeRooms_rooms, Bank.get_imap]
      show 0 < _ ∧ _ ↔ _
      rw [rooms, reads.demand]
      simp
    have now_iff (r : RoomIx) : now r ↔ dropWaits u r = false := by
      rw [dropWaits_eq_false u_running, reads.eff, reads.draws]
      have time : t.period.time = u.period.time := by
        rw [ports.period]
        exact period.time
      show t.period.time < _ ∨ _ ↔ _
      rw [time]
    have closed_iff (i : LoopIx) : closed i ↔ droppedLoop (fun r =>
        (0 < derivedDemand (u.rooms.get r) && derivedDemand (f r (u.rooms.get r)) = 0 : Bool)
          && !dropWaits u r) u i = true := by
      rw [droppedLoop_iff, reads.loops]
      refine and_congr_right fun _ => and_congr_right fun _ => exists_congr fun r => and_congr_right fun _ => ?_
      rw [dropped_iff, now_iff, ← Bool.not_eq_true', ← Bool.and_eq_true]
    refine ⟨b', by rw [ports.period, after], fun i yes => ?_, fun i no => ?_, fun r => ?_, ?_, ?_, ?_, ?_, ?_, ?_⟩
    · obtain ⟨cls, onTime, closes, -⟩ := loops i
      obtain ⟨⟨loop, released, queue, plan⟩, early⟩ := closes ((closed_iff i).mp yes)
      refine ⟨by rw [ports.loops, loop, reads.loops], by rw [ports.channels, released], by rw [ports.arb]; exact queue,
        by rw [ports.arb]; exact plan, early, cls, onTime⟩
    · obtain ⟨-, -, -, keeps⟩ := loops i
      obtain ⟨⟨loop, energised⟩, early⟩ := keeps (by rw [← Bool.not_eq_true, ← closed_iff]; exact no)
      refine ⟨by rw [ports.loops, loop, reads.loops], early, fun on => ?_⟩
      rw [ports.channels]
      exact energised (by rw [reads.energised]; exact on)
    · rw [ports.period, drops, reads.drops, dropped_iff, now_iff, Bool.not_eq_false]
    · rw [ports.probes, changeRooms_probes, reads.probes]
    · rw [ports.store, changeRooms_store, reads.store]
    · have kept : u.store.autosave = s.store.autosave := by rw [reads.store]
      have autosave := ports.autosave
      rwa [changeRooms_store, kept] at autosave
    · rw [ports.period]
      exact period.mode.trans reads.mode
    · rw [ports.period]
      exact period.eff.trans reads.eff
    · rw [ports.period]
      exact period.summary.trans reads.summary
  case poll =>
    obtain ⟨o, failed⟩ : ∃ o, pollResult x (.nack j) = (o, none) := by
      unfold pollResult
      split
      · exact ⟨_, rfl⟩
      · exact ⟨_, rfl⟩
    have delivered : deliverPoll r x (.nack j) (leaveSegment x pollLengths (.nack j) s) =
        changeRoom r (Room.failedPoll o s.params.g2.lossThreshold) (leaveSegment x pollLengths (.nack j) s) := by
      unfold deliverPoll
      rw [failed, if_pos ⟨address, fresh⟩]
      rfl
    obtain ⟨t, row, rooms, house, -⟩ := exec_pollDelivered (k := k) (m := m)
      (f := Room.failedPoll o s.params.g2.lossThreshold) powered polling going (fun _ => rfl) delivered
    have room : t.rooms.get r = (s.rooms.get r).failedPoll o s.params.g2.lossThreshold := by
      rw [rooms, Bank.get_set_self]
    have freshness : (t.rooms.get r).freshness = .lost := by
      rw [room, Room.failedPoll_eq]
      exact if_pos lost
    have none : derivedDemand (t.rooms.get r) = 0 := by
      unfold derivedDemand
      rw [freshness, room]
      split
      · rfl
      · exact fallback
    have effect : t = driveLines (takeMark m (endTransaction (.nack j) k s)) := by
      have ran := exec_of_powered (c := .roomTransactionEnd (.nack j) ⟨k, m⟩) powered nofun
      rw [row, Host.Outcome.next.injEq] at ran
      exact ran
    have time : (endTransaction (.nack j) k s).period.time = s.period.time := by
      unfold endTransaction
      simp only [polling, going, Bool.false_eq_true, if_false, delivered, arbitrate_period, endCycle_period,
        State.setSeg_period]
      exact changeRooms_time _ _
    refine ⟨t, row, none, freshness, ?_, house, ?_, ?_⟩
    · simp [effect]
    · simp [effect]
    · rw [effect, driveLines_period, takeMark_period, time]

end Sys2Proof.Machine

/-! Ages that expire: by their own command, and within a regular boundary (R47, R78). -/

namespace Sys2Proof.Machine

/-! ## A loop that a new period leaves OFF -/

/-- A loop whose class in the new period is OFF is not started in it (R76). -/
theorem planPeriod_off_released {v : Variant} {s : State} {i : LoopIx} (empty : s.arb.queue = [])
    (positive : 0 < s.params.timing.period) (off : ((planPeriod v s).loops.get i).cls = .off) :
    NoStart i (planPeriod v s) ∧ ((planPeriod v s).channels.get i).energised = false := by
  have cls : ((latched v s).loops.get i).cls = .off := by
    rw [← off, latched_loops, planPeriod_loops]
  have out : i ∉ newOrder v s := by
    rw [newOrder, mem_planOrder, carryOver, releaseWhere_loops]
    exact fun on => on.2.2 cls
  have start : NoStart i (firstGrants v s) := by
    have arb := firstGrants_arb v s empty positive
    refine ⟨?_, firstGrants_test_free v s empty i, ?_⟩
    · rw [arb]
      intro m
      obtain ⟨j, first, same⟩ := List.mem_map.mp m
      rw [QueueEntry.loop.injEq] at same
      exact out (same ▸ List.mem_of_mem_take first)
    · rw [arb]
      intro e m same
      obtain ⟨⟨j, k⟩, later, rfl⟩ := List.mem_map.mp m
      have member := List.mem_of_mem_drop later
      exact out (same ▸ (List.mem_zipIdx member).2.2 ▸ List.getElem_mem _)
  have released : ((firstGrants v s).channels.get i).energised = false := by
    have gone : staysCarried (latched v s) i = false := by
      simp [staysCarried, carries, cls]
    rw [firstGrants_channels, gone, Channel.release_eq_afterRelease]
    exact Channel.afterRelease_energised _ _
  obtain ⟨after, same⟩ := start.opportunity
  rw [planPeriod_eq, same]
  exact ⟨after, released⟩

/-- A new period's records show nothing closed early (R76). -/
theorem planPeriod_records (v : Variant) (s : State) :
    ∃ b, (planPeriod v s).period.records = some b ∧ ∀ i, (b.get i).closedEarly = false := by
  obtain ⟨b, after, same⟩ := GrantsRecorded.opportunity (firstGrants v s) _ (firstGrants_records v s)
  refine ⟨b, after, fun i => ?_⟩
  rw [(same i).1, Bank.get_imap]
  rfl

theorem planPeriod_test_free {v : Variant} {s : State} (empty : s.arb.queue = []) (i : LoopIx) :
    .test i ∉ (planPeriod v s).arb.queue :=
  opportunity_keeps (P := fun t => .test i ∉ t.arb.queue)
    (fun t none m => none (by rw [grantHead_queue] at m; exact List.mem_of_mem_drop m))
    (firstGrants_test_free v s empty i)

/-- A demand drop starts no loop that has no start left (R80). -/
theorem demandDrop_released {rooms : RoomIx → Bool} {s : State} {i : LoopIx} (start : NoStart i s)
    (released : (s.channels.get i).energised = false) : ((demandDrop rooms s).channels.get i).energised = false := by
  unfold demandDrop
  split
  · obtain ⟨sel, which⟩ : ∃ sel, sel = droppedLoop rooms s := ⟨_, rfl⟩
    rw [← which]
    have dropped : NoStart i (classOff sel (dropLoops sel (markClosed sel s))) :=
      ⟨fun m => start.loop (List.mem_filter.mp m).1, fun m => start.test (List.mem_filter.mp m).1,
        fun e m => start.plan e (List.mem_filter.mp m).1⟩
    refine (releaseAndOffer_keeps (P := fun t => NoStart i t ∧ (t.channels.get i).energised = false)
      (fun t kept => ⟨kept.1.grantHead, by rw [kept.1.grantHead_channel]; exact kept.2⟩) ?_
      fun _ => ⟨dropped, released⟩).2
    refine ⟨dropped.congr (by simp) (by simp), ?_⟩
    rw [releaseWhere_channels]
    split
    · rw [Channel.release_eq_afterRelease]
      exact Channel.afterRelease_energised _ _
    · exact released
  · exact released

/-! ## The boundary that finds a room too old -/

theorem changeRooms_period (f : RoomIx → Room → Room) (s : State) :
    s.period.RecordsOnly { (changeRooms f s).period with drops := s.period.drops } := by
  have only (rooms held : RoomIx → Bool) (u : State) :
      u.period.RecordsOnly { (demandDrop rooms (holdDrops held u)).period with drops := u.period.drops } := by
    have after := demandDrop_period rooms (holdDrops held u)
    unfold PeriodEngine.RecordsOnly at after ⊢
    rw [after]
    rfl
  unfold changeRooms reportDrops
  dsimp only
  split <;> exact only _ _ _

theorem changeRooms_configs (f : RoomIx → Room → Room) (s : State) (i : LoopIx) :
    ((changeRooms f s).loops.get i).cfg = (s.loops.get i).cfg :=
  (SameFactors.reportDrops _ (s.setRooms (s.rooms.imap f)) i).1

/-- A RUNNING period below the trip that ends with room `r` too old: its loops are OFF in the new one (R47, R78). -/
theorem regularBoundary_ages {e : State} {r : RoomIx} (due : e.period.eff.period ≤ e.period.time)
    (mode : e.period.mode = .running) (cool : tooHot e = false)
    (demand : derivedDemand ((e.rooms.get r).aged e.params.g2.holdTime) = 0)
    (margin : e.params.timing.margin < e.params.timing.period) :
    ∃ b, (regularBoundary e).period.mode = .running ∧ (regularBoundary e).period.time = 0
      ∧ (regularBoundary e).rooms.get r = (e.rooms.get r).aged e.params.g2.holdTime
      ∧ (regularBoundary e).period.records = some b
      ∧ ∀ i, (e.loops.get i).cfg.room = some r →
          ((regularBoundary e).loops.get i).cls = .off ∧ ((regularBoundary e).loops.get i).onTime = 0
            ∧ ((regularBoundary e).channels.get i).energised = false ∧ (b.get i).closedEarly = false := by
  obtain ⟨w, ticked⟩ : ∃ w, w = e.ticked (ticksOwed e) := ⟨_, rfl⟩
  have taken : takeTicks (ticksOwed e) e = w := by
    rw [ticked]
    exact takeTicks_cool (by rw [mode]; nofun) cool (fun j _ ends => by rw [mode] at ends; cases ends.1) (Nat.le_refl _)
  have still : boundaryDue w = true := by
    have runs : (e.ticked (ticksOwed e)).period.mode = .running := mode
    rw [ticked]
    unfold boundaryDue
    rw [Bool.and_eq_true, decide_eq_true_eq, Mode.runs_iff, runs]
    exact ⟨nofun, due⟩
  have w_rooms : w.rooms = e.rooms ∧ w.params = e.params := by
    rw [ticked]
    exact ⟨rfl, rfl⟩
  have w_cfg (i : LoopIx) : (w.loops.get i).cfg = (e.loops.get i).cfg := by
    rw [ticked, ticked_loops, loopTicked_cfg]
  obtain ⟨x, aged⟩ : ∃ x, x = expireAges w := ⟨_, rfl⟩
  have x_mode : x.period.mode = .running := by
    rw [aged, expireAges, (changeRooms_period _ w).mode, ticked]
    exact mode
  have x_params : x.params = e.params := by rw [aged, expireAges, changeRooms_params, w_rooms.2]
  have x_rooms : x.rooms.get r = (e.rooms.get r).aged e.params.g2.holdTime := by
    rw [aged, expireAges_rooms, Bank.get_imap, w_rooms.1, w_rooms.2]
  have x_cfg (i : LoopIx) : (x.loops.get i).cfg = (e.loops.get i).cfg := by
    rw [aged, expireAges, changeRooms_configs, w_cfg]
  have x_cool : tooHot x = false := by
    have probes : x.probes = e.probes := by rw [aged, expireAges, changeRooms_probes, ticked]; rfl
    rw [tooHot_congr probes x_params]
    exact cool
  obtain ⟨c, closed⟩ : ∃ c, c = closePeriod (accumulate x) := ⟨_, rfl⟩
  have bounded : boundary x = passReport (planPeriod .full c) := by
    have last : plainTick x = accumulate x := plainTick_cool (by rw [x_mode]; nofun) x_cool
    have mode' : (accumulate x).period.mode = .running := x_mode
    unfold boundary boundaryAfterTick
    simp only [last, mode', closed]
  have boundaries : regularBoundary e = demandDrop (fun q => x.period.drops.contains q) (passReport (planPeriod .full c)) := by
    unfold regularBoundary
    dsimp only
    rw [taken, if_pos still, ← bounded, aged]
    rfl
  obtain ⟨y, passed⟩ : ∃ y, y = passReport (planPeriod .full c) := ⟨_, rfl⟩
  have y_loops : y.loops = (planPeriod .full c).loops := by rw [passed, passReport_loops]
  have y_period : y.period = (planPeriod .full c).period := by rw [passed, passReport_period]
  have y_arb : y.arb = (planPeriod .full c).arb := by rw [passed, passReport_arb]
  have y_channels : y.channels = (planPeriod .full c).channels := by rw [passed, passReport_channels]
  have c_params : c.params = e.params := by rw [closed, closePeriod_params, accumulate_params, x_params]
  have c_rooms : c.rooms = x.rooms := by rw [closed, closePeriod_rooms, accumulate_rooms]
  have c_cfg (i : LoopIx) : (c.loops.get i).cfg = (e.loops.get i).cfg := by
    rw [closed, closePeriod_loops, (SameFactors.accumulate x i).1, x_cfg]
  have c_queue : c.arb.queue = [] := by
    rw [closed]
    exact closeOut_queue _
  have reads : PassReads c c := ⟨fun _ => rfl, fun _ => rfl, fun _ => rfl, rfl, rfl⟩
  have y_mode : y.period.mode = .running := by
    rw [y_period, planPeriod_mode, closed, closePeriod_mode]
    exact x_mode
  have off {i : LoopIx} (room : (e.loops.get i).cfg.room = some r) :
      (y.loops.get i).cls = .off ∧ (y.loops.get i).onTime = 0 := by
    rw [y_loops]
    exact planPeriod_off reads (.inl rfl) (by rw [c_rooms, x_rooms]; exact demand) (by rw [c_params]; exact margin)
      (by rw [c_cfg]; exact room)
  obtain ⟨b, records, fresh⟩ := planPeriod_records .full c
  have only := demandDrop_period (fun q => x.period.drops.contains q) y
  obtain ⟨b', after, closes⟩ := demandDrop_closes (rooms := fun q => x.period.drops.contains q) (s := y) y_mode
    (y_period ▸ records) (by rw [y_arb]; exact planPeriod_test_free c_queue)
  rw [boundaries, ← passed]
  refine ⟨b', only.mode.trans y_mode, ?_, ?_, after, fun i room => ?_⟩
  · rw [only.time, y_period, planPeriod_time]
  · rw [demandDrop_rooms, passed, passReport_rooms, planPeriod_rooms, c_rooms, x_rooms]
  · obtain ⟨cls, onTime⟩ := off room
    have kept : droppedLoop (fun q => x.period.drops.contains q) y i = false := by
      rw [← Bool.not_eq_true, droppedLoop_iff]
      exact fun on => on.2.1 cls
    obtain ⟨⟨loop, -⟩, early⟩ := (closes i).2.2.2 kept
    obtain ⟨start, released⟩ := planPeriod_off_released (v := .full) c_queue (by rw [c_params]; omega)
      (by rw [← y_loops]; exact cls)
    refine ⟨by rw [loop, cls], by rw [loop, onTime], ?_, by rw [early, fresh]⟩
    exact demandDrop_released (start.congr (by rw [y_arb]) (by rw [y_arb])) (by rw [y_channels]; exact released)

/-! ## The command of an age -/

/-- Settles O42: an age expiry closes only by its demand drop; a boundary reads the room LOST. -/
theorem ageAboveHoldTimeLosesRoom : Obligations.AgeAboveHoldTimeLosesRoom := by
  intro r a s powered t known old rooms
  have params : t.params = s.params := elapse_params a s
  have room : t.rooms.get r = (s.rooms.get r).elapse (secondsOf (1000 * a) s) := by
    show (elapse a s).rooms.get r = _
    rw [elapse_rooms, Bank.get_imap]
  have frame : (t.rooms.get r).freshness = (s.rooms.get r).freshness ∧ (t.rooms.get r).floor = (s.rooms.get r).floor
      ∧ (t.rooms.get r).cfg = (s.rooms.get r).cfg := by
    rw [room, Room.elapse_eq]
    exact ⟨rfl, rfl, rfl⟩
  obtain ⟨freshness, floor, cfg⟩ := frame
  have demand : derivedDemand (t.rooms.get r) = derivedDemand (s.rooms.get r) := by rw [room, Room.elapse_demand]
  have lost : (t.rooms.get r).aged t.params.g2.holdTime = { t.rooms.get r with freshness := .lost } := by
    rw [Room.aged_eq, if_pos ⟨by rw [freshness]; exact known, by rw [params]; exact old⟩]
  have mode : t.period.mode = s.period.mode := elapse_mode a s
  have changed := changeRoom_rooms r (Room.aged t.params.g2.holdTime) t
  have due : ageDue r t = true := by
    unfold ageDue
    rw [freshness, params]
    simp [known, old]
  rw [lost] at changed
  refine ⟨driveLines (expireAge r t), ?_, ?_, ?_, ?_, fun no => ?_, fun running reached below normal fallback margin => ?_⟩
  · exact exec_timed_due (f := expireAge r) (exec_of_powered (c := .ageExpiry r a) powered nofun) due
  · rw [driveLines_rooms]
    exact changed
  · rw [driveLines_seg]
    exact changeRoom_seg _ _ _
  · rw [driveLines_house]
    exact changeRoom_house _ _ _
  · have kept : ¬ (t.period.mode = .running ∧ 0 < derivedDemand (t.rooms.get r)
        ∧ derivedDemand ((t.rooms.get r).aged t.params.g2.holdTime) = 0) := by
      rintro ⟨running, before, after⟩
      rw [demand] at before
      have normal : (s.rooms.get r).floor = .normal := by
        cases limited : (s.rooms.get r).floor with
        | normal => rfl
        | limited =>
          rw [derivedDemand, limited] at before
          exact absurd before (Nat.lt_irrefl 0)
      refine no ⟨mode ▸ running, before, normal, ?_⟩
      rw [lost, derivedDemand] at after
      simp only [floor, normal, cfg] at after
      exact after
    have same : expireAge r t = { t with rooms := rooms } := by
      unfold expireAge
      rw [changeRoom_of_no_closing kept, lost]
    rw [same]
  · have zero : derivedDemand ((t.rooms.get r).aged t.params.g2.holdTime) = 0 := by
      rw [lost, derivedDemand]
      simp only [floor, normal, cfg, fallback]
    have hold : s.period.eff.period ≤ (elapse a s).period.time := reached
    obtain ⟨b, running', time, lost', records, loops⟩ := regularBoundary_ages (e := t) (r := r)
      (by rw [elapse_eff]; exact hold) (mode.trans running)
      (by rw [tooHot_elapse]; exact tooHot_of_below below) zero (by rw [params]; exact margin)
    refine ⟨driveLines (regularBoundary t), b, exec_regularBoundary powered (by rw [running]; nofun) hold,
      ?_, ?_, ?_, ?_, fun i named => ?_⟩
    · rw [driveLines_period, running']
    · rw [driveLines_period, time]
    · rw [driveLines_rooms, lost', lost]
    · rw [driveLines_period, records]
    · rw [driveLines_loops, driveLines_channels]
      exact loops i (by rw [elapse_loops]; exact named)

end Sys2Proof.Machine

/-! The image of the settings store: its words, read, give back the tables they were written from. -/

namespace Sys2Proof.Machine

/-! ## Words -/

theorem word_toNat {n hi : Nat} (h : n ≤ hi) (small : hi < 65536 := by decide) : (word n).toNat = n := by
  rw [word, BitVec.toNat_ofNat, Nat.mod_eq_of_lt (by omega)]

theorem signedWord_toInt {z : Int} (low : -32768 ≤ z) (high : z ≤ 32767) : (signedWord z).toInt = z := by
  rw [signedWord, BitVec.toInt_ofInt_eq_self (by decide) (by omega) (by omega)]

@[simp] theorem yesNo_word (b : Bool) : yesNo (word b.toNat).toNat = some b := by cases b <;> rfl
@[simp] theorem Policy.ofCode_word (p : Policy) : Policy.ofCode (word p.code).toNat = some p := by cases p <;> rfl
@[simp] theorem ProxyMode.ofCode_word (m : ProxyMode) : ProxyMode.ofCode (word m.code).toNat = some m := by
  cases m <;> rfl
@[simp] theorem Depth.ofCode_word (d : Depth) : Depth.ofCode (word d.code).toNat = some d := by cases d <;> rfl
@[simp] theorem Source.ofCode_word (x : Source) : Source.ofCode (word x.code).toNat = some x := by cases x <;> rfl
@[simp] theorem senseOfCode_word (b : Bool) : senseOfCode (word (senseCode b)).toNat = some b := by cases b <;> rfl

@[simp] theorem roomField_word (r : Option RoomIx) : roomField (word (roomFieldCode r)).toNat = some r := by
  have small : roomFieldCode r ≤ 255 := by
    cases r with
    | none => decide
    | some r =>
      show r.val + 1 ≤ 255
      omega
  rw [word_toNat small, ← mod_byte small, roomField_code]

@[simp] theorem addressField_word (a : BitVec 7) : addressField (word a.toNat).toNat = some a := by
  rw [word_toNat (Nat.le_of_lt a.isLt)]
  simp [addressField, a.isLt]

/-! ## Records -/

theorem loopWords_config {c : LoopConfig} (h : c.InRange) (k : Nat) : (loopWords c k).config = some c := by
  have length := absentZero_getD fun x e => by have := h.length x e; omega
  simp [LoopWords.config, loopWords, LoopConfig.ofFields, word_toNat h.fixedDemand, word_toNat h.kmin.2,
    word_toNat h.kmax.2, word_toNat (getD_le fun x e => (h.length x e).2),
    word_toNat (getD_le fun x e => (h.target x e).2), length, h.target_field]

theorem roomWords_config {c : RoomConfig} (h : c.InRange) : (roomWords c).config = some c := by
  have range := h.floorLimit_word
  have floor := absentZeroInt_getD fun x e => by have := h.floorLimit x e; omega
  simp [RoomWords.config, roomWords, RoomConfig.ofFields, word_toNat h.fallback,
    signedWord_toInt range.1 range.2, floor]

theorem probeWords_config {c : ProbeConfig} (h : c.InRange) : (probeWords c).config = some c := by
  have offset := h.offset
  simp [ProbeWords.config, probeWords, ProbeConfig.ofFields, word_toNat h.shift,
    signedWord_toInt (show -32768 ≤ c.offset by omega) (by omega)]

/-- The parameter table within its ranges (R157 to R160). -/
structure Params.InRange (p : Params) : Prop where
  timing : p.timing.InRange
  flushTime : p.flushTime ≤ 7200
  g1 : p.g1.InRange
  g2 : p.g2.InRange
  g3 : p.g3.InRange

theorem Params.inRange_of_clamped {p : Params} (h : p.clamped = p) : p.InRange where
  timing := Timing.inRange_of_clamped (congrArg Params.timing h)
  flushTime := (clampNat_eq_self (congrArg Params.flushTime h) (by decide)).2
  g1 := Group1.inRange_of_clamped (congrArg Params.g1 h)
  g2 := Group2.inRange_of_clamped (congrArg Params.g2 h)
  g3 := Group3.inRange_of_clamped (congrArg Params.g3 h)

theorem paramWords_params {p : Params} (h : p.InRange) : (paramWords p).params = some p := by
  obtain ⟨t, flush, g1, g2, g3⟩ := h
  have base := g1.supplyBase
  have max := g1.supplyMax
  have trip := g1.trip
  simp [ParamWords.params, paramWords, Bank.get, Group3.ofFields, word_toNat t.period, word_toNat t.limit,
    word_toNat t.spacing, word_toNat t.tOpen, word_toNat t.tClose, word_toNat t.margin, word_toNat t.eMin,
    word_toNat t.minPulse, word_toNat t.tSettle, word_toNat flush, word_toNat g1.nMeas, word_toNat g1.target,
    word_toNat g1.gain, word_toNat g1.stepMax, word_toNat g1.hysteresis,
    difference16_of_lt (show p.g1.target < 32768 by have := g1.target; omega),
    difference16_of_lt (show p.g1.hysteresis < 32768 by have := g1.hysteresis; omega),
    signedWord_toInt (show -32768 ≤ p.g1.supplyBase by omega) (by omega),
    signedWord_toInt (show -32768 ≤ p.g1.supplyMax by omega) (by omega),
    signedWord_toInt (show -32768 ≤ p.g1.trip by omega) (by omega),
    word_toNat g2.pollInterval, word_toNat g2.lossThreshold, word_toNat g2.holdTime, word_toNat g2.forwardTimeout,
    word_toNat g2.holdLimit, word_toNat g3.pumpHold, word_toNat g3.autosave, word_toNat g3.errorThreshold]

/-! ## The image -/

/-- A bank read back record by record. -/
theorem bankSome_imap {α β : Type} {n : Nat} {f : Fin n → β → Option α} {b : Bank β n} {c : Bank α n}
    (each : ∀ i, f i (b.get i) = some (c.get i)) : bankSome (b.imap f) = some c := by
  have present (i : Fin n) : ((b.imap f).get i).isSome := by rw [Bank.get_imap, each]; rfl
  unfold bankSome
  rw [dif_pos present]
  refine congrArg some (Bank.ext_get fun i => ?_)
  rw [Bank.get_ofFn]
  exact Option.get_of_eq_some _ (by rw [Bank.get_imap, each])

/-- A loop's K that its bounds leave fits its word (R92, R168). -/
theorem word_bounded {c : LoopConfig} (h : c.InRange) {k : Nat} (bounded : c.bound k = k) : (word k).toNat = k := by
  have := h.kmin
  have := h.kmax
  refine word_toNat (hi := 4096) ?_
  unfold LoopConfig.bound clampNat at bounded
  omega

theorem imageBody_tables {T : Tables} (clamped : T.clamped = T) (admissible : T.admissible = true) :
    (imageBody T).tables = some T := by
  have loop (i : LoopIx) : (T.loops.get i).1.clamped = (T.loops.get i).1
      ∧ (T.loops.get i).1.clamped.bound (T.loops.get i).2 = (T.loops.get i).2 := by
    have same := congrArg (fun t : Tables => t.loops.get i) clamped
    simp only [Tables.clamped, Bank.get_imap] at same
    exact Prod.ext_iff.mp same
  have room (r : RoomIx) : (T.rooms.get r).clamped = T.rooms.get r := by
    simpa [Tables.clamped] using congrArg (fun t : Tables => t.rooms.get r) clamped
  have probe (q : ProbeIx) : (T.probes.get q).clamped = T.probes.get q := by
    simpa [Tables.clamped] using congrArg (fun t : Tables => t.probes.get q) clamped
  have loops : bankSome ((imageBody T).loops.imap fun _ w => w.config.map fun c => (c, w.k.toNat)) = some T.loops := by
    refine bankSome_imap fun i => ?_
    obtain ⟨cfg, k⟩ := loop i
    have range := LoopConfig.inRange_of_clamped cfg
    rw [cfg] at k
    simp only [imageBody, Bank.get_imap, loopWords_config range, Option.map_some]
    exact congrArg (fun v => some ((T.loops.get i).1, v)) (word_bounded range k)
  have rooms : bankSome ((imageBody T).rooms.imap fun _ w => w.config) = some T.rooms :=
    bankSome_imap fun r => by
      rw [imageBody, Bank.get_imap, roomWords_config (RoomConfig.inRange_of_clamped (room r))]
  have probes : bankSome ((imageBody T).probes.imap fun _ w => w.config) = some T.probes :=
    bankSome_imap fun q => by
      rw [imageBody, Bank.get_imap, probeWords_config (ProbeConfig.inRange_of_clamped (probe q))]
  have params : (imageBody T).params.params = some T.params :=
    paramWords_params (Params.inRange_of_clamped (congrArg Tables.params clamped))
  unfold ImageBody.tables
  simp only [loops, rooms, probes, params, Option.bind_eq_bind, Option.bind_some, admissible, if_true, clamped]

/-- Settles O60: each record's words give it back, and the clamp leaves it. -/
theorem imageLoadsWhatWasSaved : Obligations.ImageLoadsWhatWasSaved := by
  intro T clamped admissible
  rw [Image.load_checked, imageBody_tables clamped admissible]

end Sys2Proof.Machine
